-- ==== Sys2Proof/Word.lean ====
section
/-! DEFINITION. The word types of the WD4: bytes, 32-bit registers (R10), 64-bit array words (R90),
128-bit mesh packets (R218). Little-endian byte order is fixed once, in Machine/Bits.lean (R9). -/

namespace Sys2Proof

/-- A byte of a memory structure. -/
abbrev Byte := BitVec 8

/-- A BAR0 register, bits [31:0]. -/
abbrev Word := BitVec 32

/-- A 64-bit word: a flume register, a message payload, a schedule slot (R90, R116). -/
abbrev DWord := BitVec 64

/-- A mesh packet (R218) or a neuron state word (R191). -/
abbrev QWord := BitVec 128

end Sys2Proof
end

