-- ==== Sys2Proof/Syntax.lean ====
section
/-! DEFINITION. The commands of the WD4: one constructor per row of spec/opcode_table.json, with the operands the
environment supplies (an address, a value, an edge's fine stamp, a sample). Everything a unit holds itself stands in
State, so a command names the unit and no more. -/

namespace Sys2Proof

/-- A master of the register space (R365, R363): a core acts for the runtime, or in U mode for the service program (R304). -/
inductive Master where
  | sideband
  | host
  | mp
  | core (c : Fin 16)
  | service (c : Fin 16)
  | sentinel
deriving DecidableEq, Repr

/-- Extensions that an application core lacks (R298, R299). -/
inductive AbsentExt where
  | hypervisor | sv57 | bitManipulation | scalarCrypto | zfh | vectorFp16
deriving DecidableEq, Repr

/-- Exceptions of an application core: an instruction of an absent extension, another illegal instruction, faults of accesses
and of pages, and the others, by their RISC-V code (R299, R305). -/
inductive CoreTrap where
  | absent (e : AbsentExt)
  | illegal
  | fetchAccess | loadAccess | storeAccess
  | fetchPage | loadPage | storePage
  | other (code : BitVec 6)
deriving DecidableEq, Repr

/-- What an access does to a Pond word: a read, a write, the atomics that the bank executes, other AMOs, and the two halves of
a reserved pair (R313, R314). -/
inductive PondOp where
  | read | write | add | swap | amo | lr | sc
deriving DecidableEq, Repr

/-- Where an access to Pond memory goes: its address, whether it is of 64 bits, and its operand. -/
structure PondWord where
  addr  : BitVec 25
  wide  : Bool
  value : DWord
deriving DecidableEq, Repr

/-- One access to Pond memory: who makes it, what it does, and where. -/
structure PondReq extends PondWord where
  who   : Master
  op    : PondOp
deriving DecidableEq, Repr

/-- A multiblock that failed its CRC: the samples of each converter in it, and the converters that it carries (R69). -/
structure CrcBlock where
  samples : Nat
  convs   : BitVec 16
deriving DecidableEq, Repr

/-- The fields of a schedule slot besides OP (R116), and the cell and lane that issue it. -/
structure Slot where
  row     : Fin 96
  col     : Fin 96
  /-- true: the handler lane; false: the main stream (R100). -/
  handler : Bool
  stage   : Fin 16
  sa      : BitVec 7
  sb      : BitVec 7
  rd      : Fin 16
  am      : BitVec 2
  rb      : Fin 8
  addr    : BitVec 12
  func    : BitVec 20
deriving DecidableEq, Repr

/-- A write of one register: its master and its value, and the bit that it reaches where it comes through the alias (R354,
R363). -/
structure RegWrite where
  m     : Master
  value : Word
  bit   : Option (Fin 32) := none
deriving DecidableEq, Repr

/-- What the host unmasks: a vector, or the function, whose mask it also sets again (R362). -/
inductive MsixMask where
  | vector (v : Fin 64)
  | function (masked : Bool)
deriving DecidableEq, Repr

/-- Why a host-side reset happens (R360). -/
inductive HostReset where
  | perst | hot | linkLoss | flr
deriving DecidableEq, Repr

/-- A tamper source (R472), in the bit order of SEC_TAMPER; a PLL that loses lock is of the source CLOCK, as REFCLK is. -/
inductive TamperSource where
  | pin | volt | clock | temp | pll
deriving DecidableEq, Repr

/-- A wake source (R411), in the bit order of PWR_WAKE_EN. -/
inductive WakeSource where
  | pcie | sideband
  | leat (port : Fin 4)
  | sentinel
  | trigIn (pin : Fin 4)
  | gtimer (n : Fin 4)
deriving DecidableEq, Repr

/-- The memories of R440, in which a stored byte can fail its check, with the word that failed. -/
inductive Site where
  | flumeCell (row col : Fin 96) (sram : Bool) (word : BitVec 13)
  | stagingBank (age : Nat) (col : Fin 96) (word : Nat)
  | tailgateLane (age : Nat) (col : Fin 96) (lane : Fin 4) (word : Nat)
  | inputBuffer (age : Nat) (col : Fin 96) (lane : Fin 4) (word : Nat)
  | ncNeuron (nc : Fin 256) (neuron : Fin 16384)
  | ncPset (nc : Fin 256) (neuron : Fin 16384) (word : Fin 512)
  | ncDecay (nc : Fin 256) (neuron : Fin 16384) (entry : Fin 16384)
  | ncAcc (nc : Fin 256) (page : Fin 2) (neuron : Fin 16384)
  | ncHeader (nc : Fin 256) (header : BitVec 16)
  | ncSynapse (nc : Fin 256) (bankWord : BitVec 17) (failed : BitVec 4)
  | ncCache (nc : Fin 256) (header : BitVec 16) (word : BitVec 12)
  | ncAxon (nc : Fin 256) (neuron : Fin 16384)
  | ncControl (nc : Fin 256) (word : BitVec 24)
  | ncLearn (nc : Fin 256) (entry : BitVec 12)
  | router (nc : Fin 256) (word : BitVec 24)
  | trainStore (stream : Fin 64) (enc : Fin 16) (axon : BitVec 16)
  | windowCounter (i : Fin 4096)
  | junctionMap (i : BitVec 9)
  | intake (stream : Fin 64) (memory : Fin 3) (word : BitVec 24)
  | pond (bank : Fin 64) (line : Fin 8192)
  | deltaStore (word : BitVec 24)
  | cacheClean (line : BitVec 33)
  | cacheModified (line : BitVec 33)
  | cacheTag (word : BitVec 24)
  | ddrLine (line : BitVec 33)
  | coreClean (core : Fin 16) (l2 : Bool) (word : BitVec 24)
  | coreModified (core : Fin 16) (l2 : Bool) (word : BitVec 24)
  | mpMemory (word : BitVec 24)
  | vault (word : BitVec 24)
  | sentinelNeuron (n : Fin 1024)
  | sentinelOther (word : BitVec 17)
deriving DecidableEq, Repr

/-- A packet in a slot of a codeword (R326). The manual gives no field for the set of its link VC, for the device that sent
it or, in a COLLECTIVE, for its destination, which the receiver needs (R232, R328, R345); they stand beside it here (log
entry 12). -/
structure LeatPacket where
  set : Bool
  src : Fin 16
  dst : Fin 16
  pkt : QWord
deriving DecidableEq, Repr

/-- One codeword of a leat link as the receiver sees it (R326, R327): sequence, slot-0 control, and packets. -/
structure Codeword where
  cwseq     : BitVec 10
  kind      : BitVec 2
  ok        : Bool
  corrected : Nat
  ack       : BitVec 10
  nak       : Bool
  ackValid  : Bool
  credit    : BitVec 48
  packets   : List LeatPacket
deriving DecidableEq, Repr

/-- The commands. -/
inductive Instr where
  -- registers (R10, R352, R354)
  | registerWrite (off : BitVec 25) (writes : List RegWrite)
  | bar0BadAccess (isWrite : Bool) (off : BitVec 25) (dws : Nat) (be : BitVec 4) (data : List Word)
  | bitAliasWrite (off : BitVec 25) (value : Word) (m : Master)
  -- timebase, SYSREF, timers (R32-R62, R501)
  | tbCapGo
  | tbLoadArm
  | tbCtlWrite (v : Word)
  | tbPpsInEdge (fine : BitVec 8)
  | referenceLost
  | ppsLost
  | lockDwellExpiry
  | timesyncExchangeStart (fines : List (BitVec 8))
  | timesyncReq (port : Fin 4) (xseq : BitVec 8) (fine2 : BitVec 8) (turn : Nat) (fine3 : BitVec 8)
  | timesyncReply (port : Fin 4) (xseq : BitVec 8) (fine4 : BitVec 8)
  | timesyncFollow (port : Fin 4) (xseq : BitVec 8) (t1 : BitVec 56) (d41 : BitVec 32)
  | timesyncTimeout (port : Fin 4)
  | sysrefModeWrite (n : Fin 8) (v : Word)
  | sysrefFire (n : Fin 8)
  | sysrefPulse (n : Fin 8)
  | sysrefPulseEnd (n : Fin 8)
  | ppsOutEdge
  | ppsOutFall
  | tbClkoWrite (v : Word)
  | tbcmpArm (n : Fin 4) (lo : Word)
  | tbcmpMatch (n : Fin 4)
  | gtMatch (n : Fin 16)
  | gtOverflow (n : Fin 16)
  | gtCntWrite (n : Fin 16) (v : Word)
  | gtCmpWrite (n : Fin 16) (v : Word)
  | gtCtlWrite (n : Fin 16) (v : Word)
  | gtWriteApply (n : Fin 16)
  -- intake (R63-R85, R502)
  | linkEnable (n : Fin 6) (v : Word)
  | syncHeaderLock (lane : Fin 24)
  | embLock (lane : Fin 24)
  | linkRelease (n : Fin 6) (lat : Word) (fine : BitVec 8)
  | linkDownSherr (lane : Fin 24)
  | linkDownEmb (lane : Fin 24)
  | linkDownEb (lane : Fin 24)
  | laneCrcMismatch (lane : Fin 24) (block : CrcBlock) (firstOfPeriod : Bool)
  | inputSample (n : Fin 6) (samples : List (BitVec 16))
  | ncoSync (n : Fin 64)
  | ftwPost (n : Fin 64) (lo : Word)
  | frameStart (n : Fin 64)
  | frameComplete (n : Fin 64)
  -- staging and admission (R102-R113)
  | stagingCopyStart
  | stagingCopyDone
  | frameBoundary
  | headgateWord (col : Fin 96)
  | admissionResume
  | flumeClockChangeDone (wait : Nat)
  -- flume slots (R116-R130)
  | nop (x : Slot)
  | idle (x : Slot)
  | loop (x : Slot)
  | halt (x : Slot)
  | endSlot (x : Slot)
  | mov (x : Slot)
  | movi (x : Slot)
  | add (x : Slot)
  | sub (x : Slot)
  | logicAnd (x : Slot)
  | logicOr (x : Slot)
  | logicXor (x : Slot)
  | logicAndnot (x : Slot)
  | shiftLsl (x : Slot)
  | shiftLsr (x : Slot)
  | shiftAsr (x : Slot)
  | shiftRor (x : Slot)
  | vadd (x : Slot)
  | vmul (x : Slot)
  | vmax (x : Slot)
  | vmin (x : Slot)
  | actRelu (x : Slot)
  | actClamp (x : Slot)
  | actClampPos (x : Slot)
  | pwlLoad (x : Slot)
  | pwlEval (x : Slot)
  | mag (x : Slot)
  | log2 (x : Slot)
  | scale (x : Slot)
  | cvt (x : Slot)
  | ld (x : Slot)
  | st (x : Slot)
  | mac (x : Slot)
  | macq (x : Slot)
  | gq (x : Slot)
  | accrdFp32 (x : Slot)
  | accrdBf16 (x : Slot)
  | accrdInt32 (x : Slot)
  | accclr (x : Slot)
  | sailcfg (x : Slot)
  | sailin (x : Slot)
  | sailout (x : Slot)
  | send (x : Slot)
  | handlerDispatch (row col : Fin 96)
  | arrayStop
  -- ladder (R165-R179)
  | passTally
  | verdict
  | epochSwapWrite
  | shadowWriteRelease
  -- neuron cores (R196-R217)
  | eventReceive (n : Fin 256)
  | cisternFetchDone (n : Fin 256) (cycles : Nat)
  | hintReceive (n : Fin 256)
  | firePhase (n : Fin 256)
  | restSweep (n : Fin 256) (neuron : Fin 16384)
  | bankUpdate (n : Fin 256) (bank : Fin 4)
  | neuronSnapshotStart (n : Fin 256) (v : Word)
  | neuronSnapshotDone (n : Fin 256)
  -- routers, windows, barrier (R218-R249)
  | routerReceive (r : Fin 256) (port : Fin 7) (vc : Fin 5)
  | replicationBranchSend (r : Fin 256)
  | sendCopy (r : Fin 256)
  | completionReceive (r : Fin 256)
  | land (port : Fin 4)
  | completionTimer
  | barrierReport (r : Fin 256)
  | barrierCloseReceive (r : Fin 256)
  | barrierForceReceive (r : Fin 256)
  | closeRepeat (port : Fin 4)
  | tickClose
  | drainPacket (r : Fin 256) (port : Fin 4)
  | fabricDrained
  -- learning, windows, records (R250-R290)
  | plasticEventApply (n : Fin 256)
  | windowAdd
  | recordQueueReadAdvance (v : Word)
  | recordSkip
  -- triggers (R292-R294)
  | triggerLinePulse (line : Fin 16)
  | trigOutFire (p : Fin 8)
  | trgoCtlWrite (p : Fin 8) (v : Word)
  | trigOutWidthEnd (p : Fin 8)
  | trigOutHoldoffEnd (p : Fin 8)
  | trigInEdge (pin : Fin 4) (falling : Bool) (fine : BitVec 8)
  -- memory (R305-R324)
  | pondAtomic (who : Master) (op : PondOp) (word : PondWord) (other : Option PondReq)
  | pondPowerWrite (j : Fin 4) (v : Word)
  | pondTransitionDone (bank : Fin 64)
  | ddrRead (offset : BitVec 39) (firstParity firstAddr againParity againAddr : Bool)
  | serviceTrap (core : Fin 16) (cause : CoreTrap) (pc : DWord)
  | recordForward
  | hostRingPut (r : Fin 32) (service : List Byte)
  -- leat (R325-R347)
  | codewordReceive (port : Fin 4) (cw : Codeword)
  | portTrain (port : Fin 4) (sysid : Word) (dev : Fin 16) (pport : Fin 4)
  | portQualify (port : Fin 4) (bitErrors : Nat) (uncorrectable : Bool) (peerPass : Bool)
  | linkLos (port : Fin 4)
  | linkAlignLoss (port : Fin 4)
  | linkReplayLimit (port : Fin 4)
  | linkAckTimeout (port : Fin 4)
  | linkPartnerChange (port : Fin 4) (sysid : Word) (dev : Fin 16) (pport : Fin 4)
  | linkDownNotice (port : Fin 4) (link : Fin 32)
  | collectiveUp (pkt : QWord)
  | collectiveDown (pkt : QWord)
  | collectiveTimeout (g : Fin 16)
  | wakePatternSend
  | leatWakePattern (port : Fin 4)
  -- host interface (R348-R384)
  | bar2Access (isWrite : Bool) (off : BitVec 34) (len : Nat) (data : List Byte)
  | bmeRelease
  | poisonedWrite
  | hostSideReset (why : HostReset)
  | d3hotEntry
  | pcieLinkPowerStateChange (state : Fin 3)
  | vectorSeenWrite (v : Fin 64) (seen : Word)
  | msixUnmask (v : MsixMask)
  | mbxLockRead (n : Fin 32) (readers : List Master)
  | mbxLockRelease (n : Fin 32) (m : Master) (v : Word)
  | h2mDataWrite (n : Fin 32) (m : Master) (v : Word)
  | vciArgWrite (n : Fin 32) (k : Fin 16) (m : Master) (v : Word)
  | m2hDataRead (n : Fin 32) (m : Master)
  | m2hAckWrite (n : Fin 32) (m : Master) (v : Word)
  | mpScan
  | vciCompletionDeliver (n : Fin 32)
  | conduitEnable (c : Fin 16) (v : Word)
  | conduitHeadWrite (c : Fin 16) (v : Word)
  | descriptorStart (c : Fin 16)
  | descriptorComplete (c : Fin 16) (index : Word)
  | hostRingEnable (r : Fin 32) (v : Word)
  | hostRingRdWrite (r : Fin 32) (v : Word)
  | sidebandWrite (command : Byte) (off : BitVec 24) (v : Word) (pec : Option Byte)
  | sidebandRead (command : Byte) (off : BitVec 24)
  | sidebandTimeout
  | sidebandAddressMatch
  -- VCI commands (R391-R399): a job command runs at the front of the job queue, another names its tag
  | nopCmd (tag : BitVec 9)
  | describe
  | ddrConfig (causes : List (BitVec 4))
  | setClock (tag : BitVec 9)
  | setPowerCap (tag : BitVec 9)
  | subscribe (tag : BitVec 9)
  | jobLoad
  | jobArm (ms : Word)
  | jobRun
  | jobStart
  | jobDrain
  | jobResume
  | jobStop
  | jobUnload
  | checkpoint
  | substitute
  | streamOpen (tag : BitVec 9)
  | streamClose (tag : BitVec 9)
  | ringBind (tag : BitVec 9)
  | marker (tag : BitVec 9)
  | scaleWrite (tag : BitVec 9)
  | epochSwap (tag : BitVec 9)
  | eligibility (tag : BitVec 9)
  | collective (tag : BitVec 9)
  -- power (R406-R421, R493)
  | powerTargetWrite (v : Word)
  | idleTimeout
  | napTimeout
  | sentinelTimeout
  | entryIdle
  | entryNap
  | entrySentinel
  | wake (srcs : List WakeSource)
  | exitComplete
  | idleActivityExit
  | padRelease (group : Fin 6) (agrees : Bool)
  | governorEstimate (mean100us : BitVec 16)
  | governorRestore (mean1ms : BitVec 16)
  | thermalSample (sensors : List (BitVec 16))
  -- Sentinel (R422-R434)
  | sentinelSample (v : BitVec 16) (good taken : Bool)
  | sentinelTick
  | senMemAccess (isWrite : Bool) (v : Word) (m : Master)
  -- errors (R435-R450)
  | parityError (site : Site) (byDredger : Bool)
  | errorHandle
  | dredgerRead (kind : Fin 12) (found : Option Site)
  | ddrPatrolRead (line : BitVec 33) (fails : Bool)
  -- reset, bring-up, security (R455-R475, R482-R492)
  | powerOnReset
  | sysRstNAssert
  | glbResetWrite (v : Word) (m : Master)
  | bootAon
  | bootSupplies
  | supplyTimeout
  | pgMainLow
  | bootFuses
  | bootRom
  | bootGo (v : Word)
  | bootFirmware
  | bootDdr5
  | bootSramBist (failed : List (BitVec 4 × BitVec 12 × DWord)) (noSpare : Option Site)
  | bootFlumeSelfTest (failedColumns : List (Fin 100 × DWord))
  | bootNcSelfTest (failedNcs : List (Fin 272 × DWord))
  | bootLeat
  | bootRuntime (ms : Word)
  | svnCommit
  | lifeCycleGo (v : Word)
  | tamper (src : TamperSource)
  | jtagUpdateIr (ir : Byte)
  -- commands without operands of the families above
  | attestationGo
  | attestationDone
  | referencePresent
  | d3hotExit
  | sysRstNRelease
  | pgMainHigh
  | jtagTestLogicReset
deriving DecidableEq, Repr

end Sys2Proof
end

