-- ==== Sys2Proof/Decode.lean ====
section
/-! DEFINITION. Commands from words: no row of the opcode table gives bits, so no word spells a command. -/

namespace Sys2Proof

/-- The command that a word spells by the table's bits: none, since no row has bits. -/
def decodeTableWord (_nbits _w : Nat) : Option Instr := none

end Sys2Proof
end

