-- ==== Sys2Proof/Machine/Bits.lean ====
section
/-! DEFINITION. Bit fields, sign extension, byte order and rounding helpers used by every family (R9). -/

namespace Sys2Proof.Machine

/-- Bits [hi:lo] of a number. -/
def bits (v hi lo : Nat) : Nat := (v / 2 ^ lo) % 2 ^ (hi + 1 - lo)

/-- Bit i of a number. -/
def bit (v i : Nat) : Bool := (v / 2 ^ i) % 2 == 1

/-- A Bool as a 0/1 number. -/
def b2n (b : Bool) : Nat := if b then 1 else 0

/-- Replace bits [hi:lo] of a number by the low bits of f. -/
def putBits (v hi lo f : Nat) : Nat :=
  v % 2 ^ lo + (f % 2 ^ (hi + 1 - lo)) * 2 ^ lo + v / 2 ^ (hi + 1) * 2 ^ (hi + 1)

/-- The signed value of the low w bits of a number. -/
def signedOf (w v : Nat) : Int :=
  if v % 2 ^ w < 2 ^ (w - 1) then (v % 2 ^ w : Nat) else ((v % 2 ^ w : Nat) : Int) - (2 ^ w : Nat)

/-- An integer as its low w bits. -/
def unsignedOf (w : Nat) (v : Int) : Nat := (v % (2 ^ w : Nat)).toNat

/-- Clamp an integer into a range. -/
def clampI (lo hi v : Int) : Int := if v < lo then lo else if hi < v then hi else v

/-- Integer division truncated toward zero (R195, R204, R255). -/
def truncDiv (a : Int) (b : Nat) : Int := Int.tdiv a (b : Int)

/-- Quotient rounded to nearest, ties to even (R71, R149). -/
def roundDiv (a : Int) (b : Nat) : Int :=
  let q := a / (b : Int)
  let r := a % (b : Int)
  if 2 * r < (b : Int) then q else if (b : Int) < 2 * r then q + 1 else if q % 2 = 0 then q else q + 1

/-- Quotient rounded up. -/
def ceilDiv (a b : Nat) : Nat := (a + b - 1) / b

/-- n bytes of a number, least significant first (R9). -/
def toBytes : Nat → Nat → List Byte
  | 0, _ => []
  | n + 1, v => BitVec.ofNat 8 v :: toBytes n (v / 256)

/-- The number a little-endian list of bytes spells (R9). -/
def ofBytes : List Byte → Nat
  | [] => 0
  | b :: bs => b.toNat + 256 * ofBytes bs

/-- n zero bytes. -/
def zeroBytes (n : Nat) : List Byte := List.replicate n 0

/-- The set bits of a mask, ascending, among the first n. -/
def maskBits (n v : Nat) : List Nat := (List.range n).filter (bit v)

/-- Number of set bits among the first n. -/
def popcount (n v : Nat) : Nat := (maskBits n v).length

/-- Bitwise operations on 64-bit numbers go through BitVec. -/
def w64 (v : Nat) : DWord := BitVec.ofNat 64 v

/-- A 32-bit register value from a number. -/
def w32 (v : Nat) : Word := BitVec.ofNat 32 v

/-- Halves of a 64-bit value (R13). -/
def loWord (v : Nat) : Word := BitVec.ofNat 32 v
/-- The high half of a 64-bit value (R13). -/
def hiWord (v : Nat) : Word := BitVec.ofNat 32 (v / 2 ^ 32)
/-- A 64-bit value from its halves (R13). -/
def pair64 (hi lo : Word) : Nat := hi.toNat * 2 ^ 32 + lo.toNat

end Sys2Proof.Machine
end

