-- ==== Sys2Proof/Machine/Hash.lean ====
section
/-! DEFINITION. SHA-256, HMAC-SHA-256 and CRC-32C, which the manual names (R269, R400, R464, R468, R473). -/

namespace Sys2Proof.Machine

/-- The first 64 primes. -/
def shaPrimes : List Nat :=
  (List.range 312).filter (fun n => decide (2 ≤ n) && (List.range 16).all (fun i => n == i + 2 || n % (i + 2) != 0))

/-- The k-th root of x, rounded down, from a value whose bits at and above bit n are found. -/
def rootBits (k x : Nat) : Nat → Nat → Nat
  | 0, r => r
  | n + 1, r => rootBits k x n (if (r + 2 ^ n) ^ k ≤ x then r + 2 ^ n else r)

/-- The first 32 bits of the fraction of a prime's k-th root. -/
def rootFraction (k p : Nat) : Word := BitVec.ofNat 32 (rootBits k (p * 2 ^ (32 * k)) 37 0)

/-- Round constants, from cube roots, and the initial hash value, from square roots (FIPS 180-4). -/
def shaConsts : List Word := shaPrimes.map (rootFraction 3)
def shaInit : List Word := (shaPrimes.take 8).map (rootFraction 2)

/-- A big-endian 32-bit word of four bytes, and its bytes. -/
def beWord (l : List Byte) : Word := BitVec.ofNat 32 (ofBytes l.reverse)
def beBytes (w : Word) : List Byte := (toBytes 4 w.toNat).reverse

/-- A word turned right by each of three amounts; with the last a plain shift. -/
def turn3 (x : Word) (i j k : Nat) : Word := x.rotateRight i ^^^ x.rotateRight j ^^^ x.rotateRight k
def turn2 (x : Word) (i j k : Nat) : Word := x.rotateRight i ^^^ x.rotateRight j ^^^ (x >>> k)

/-- A block's schedule, newest word first, n words longer. -/
def shaGrow : Nat → List Word → List Word
  | 0, l => l
  | n + 1, l =>
    let back (k : Nat) : Word := l.getD (k - 1) 0
    shaGrow n ((back 16 + turn2 (back 15) 7 18 3 + back 7 + turn2 (back 2) 17 19 10) :: l)

/-- The two halves of the working state, a to d and e to h, newest first. -/
structure ShaVars where
  lo : List Word
  hi : List Word

/-- One round, by the sum of its constant and its schedule word. -/
def shaRound (x : ShaVars) (kw : Word) : ShaVars :=
  match x.lo, x.hi with
  | [a, b, c, d], [e, f, g, h] =>
    let mix := h + kw + turn3 e 6 11 25 + (g ^^^ (e &&& (f ^^^ g)))
    ⟨[mix + turn3 a 2 13 22 + ((a &&& b) ||| (c &&& (a ||| b))), a, b, c], [d + mix, e, f, g]⟩
  | _, _ => x

/-- One block of 64 bytes. -/
def shaBlock (h : List Word) (blk : List Byte) : List Word :=
  let first := (List.range 16).map (fun i => beWord ((blk.drop (4 * i)).take 4))
  let sums := List.zipWith (· + ·) shaConsts (shaGrow 48 first.reverse).reverse
  let x := sums.foldl shaRound ⟨h.take 4, h.drop 4⟩
  List.zipWith (· + ·) h (x.lo ++ x.hi)

/-- n blocks. -/
def shaBlocks : Nat → List Byte → List Word → List Word
  | 0, _, h => h
  | n + 1, m, h => shaBlocks n (m.drop 64) (shaBlock h (m.take 64))

/-- SHA-256. -/
def sha256 (m : List Byte) : List Byte :=
  let pad := (64 - (m.length + 9) % 64) % 64
  let full := m ++ [0x80] ++ zeroBytes pad ++ (toBytes 8 (8 * m.length)).reverse
  (shaBlocks (full.length / 64) full shaInit).flatMap beBytes

/-- HMAC-SHA-256 of a message under a key. -/
def hmac (key msg : List Byte) : List Byte :=
  let k := if 64 < key.length then sha256 key else key
  let k := k ++ zeroBytes (64 - k.length)
  sha256 (k.map (· ^^^ 0x5C) ++ sha256 (k.map (· ^^^ 0x36) ++ msg))

/-- One bit, then one byte, of CRC-32C (reflected, polynomial 0x82F63B78). -/
def crcBit (c : Word) : Word := if c.getLsbD 0 then (c >>> 1) ^^^ 0x82F63B78 else c >>> 1
def crcByte (c : Word) (b : Byte) : Word := (List.range 8).foldl (fun c _ => crcBit c) (c ^^^ b.setWidth 32)

/-- CRC-32C. -/
def crc32c (m : List Byte) : Nat := (~~~(m.foldl crcByte 0xFFFFFFFF)).toNat

/-- The bytes of an ASCII text. -/
def ascii (s : String) : List Byte := s.toList.map (fun c => BitVec.ofNat 8 c.toNat)

end Sys2Proof.Machine
end

