-- ==== Sys2Proof/Config.lean ====
section
/-! DEFINITION. What an implementation of the WD4 fixes and the manual leaves open: uninterpreted constants with no
body, so that no proof can see a value (log entries 2, 3 and 4). -/

namespace Sys2Proof.Config

/-- A value that the manual leaves open: the n-th one drawn. State.free counts the draws (log entry 2). -/
opaque freeValue : Nat → BitVec 64

/-- Whether the increment of a base register is kept where a slot's result goes to the same register, by the two values: the
manual does not say, and results are a function of the image and its data (R117, R156, log entry 2). -/
opaque keepsIncrement : BitVec 64 → BitVec 64 → Bool

/-- The six half-band coefficients of this silicon stepping (R75), 18 bits signed. Lorvis may choose them (log entry 3). -/
opaque halfBandCoef : Nat → BitVec 18

/-- SLH-DSA-SHA2-128s verification (FIPS 205, R467): public key, message, signature (log entry 4). -/
opaque slhVerify : List Byte → List Byte → List Byte → Bool

/-- SLH-DSA-SHA2-128f PK.root from SK.seed, SK.prf and PK.seed (R473) (log entry 4). -/
opaque slhRoot : List Byte → List Byte

/-- SLH-DSA-SHA2-128f signature by the 48-byte key of R473 over a message (R474) (log entry 4). -/
opaque slhSign : List Byte → List Byte → List Byte

/-- The fused voltage–frequency table: clock in MHz to VDD_CORE in steps of 5 mV (R486); the table is fused and not given (log
entry 3). -/
opaque avsTable : Nat → BitVec 8

/-- Lane latency of a link after release, INTK_STRn_LAT of a stream with a given group delay (R15); the manual
reports it in a register and gives no formula (log entry 3). -/
opaque streamLatency : Nat → BitVec 32

/-- Fetch slots of an NC beside its first: hints wait for a free one (R212); the manual does not number them (log entry 118). -/
opaque fetchSlots : BitVec 8

/-- Entry address of a Kraty runtime, by its SHA-256: the bundle does not hold it (R303, R467) (log entry 3). -/
opaque runtimeEntry : List Byte → BitVec 64

/-- The set of its slice in which a DDR5 line lies in the system cache (R308 gives the slice alone) (log entry 3). -/
opaque cacheSet : Nat → BitVec 12

/-- The figures that a traffic section states: 0 column mid-cut, 1 row mid-cut, from 2 on each leat port's two directions; the
manual gives no layout of the section (log entry 19). -/
opaque trafficFigure : List Byte → Nat → BitVec 32

/-- Service core mask and service regions (base, length) of a service section; the manual gives no layout of the section
(log entry 19). -/
opaque serviceMask : List Byte → BitVec 16
opaque serviceRegions : List Byte → List (Nat × Nat)

/-- Contents of the boot ROM, which attestation measures (R474), and the key of the journal's MAC from the device secret,
whose derivation the manual does not give (R464) (log entry 4). -/
opaque bootRom : List Byte
opaque journalKey : List Byte → List Byte

/-- How the fuse map is laid out when it is measured (R474) (log entry 4). -/
opaque fuseImage : List (Nat × Nat) → List Byte

/-- SOURCE of an error in a memory that R444 does not number, below the codes of EVENT entries, and ADDR of a word in a
memory whose layout no table gives: both by the class of the memory, the second by its index (R446, log entry 29). -/
opaque errSource : Nat → BitVec 7
opaque errAddr : Nat → Nat → BitVec 24

/-- The line of an NC's Cistern cache that a line of a row takes, by NC, header and line (R210, R446, log entry 139). -/
opaque cacheLine : Nat → Nat → Nat → BitVec 14

/-- Reads in one lap of the Dredger over the junction's memories, whose words R444 does not number (log entry 3). -/
opaque junctionLap : BitVec 16

end Sys2Proof.Config
end

