-- ==== Sys2Proof/Machine/RegMap.lean ====
section
/-! DEFINITION. The register map of BAR0 (R351): for every register its place, its reset value, the bits a write sets
(RW), the bits a write sets while the named lock is 0 (RW/L), and that lock (R10). Bits in neither mask are read-only,
reserved or action bits and keep their value. -/

namespace Sys2Proof.Machine

/-- The lock bit that a register's description names (R10). -/
inductive Lock where
  | never | tbJob | sysRun | mrFlow | laneLink | linkEn | strOpen | strFir | senEn | cdEn | hrEn | flmRun
  | ncJob | ncJob0 | bootStep | jrnlBusy | attBusy
deriving DecidableEq, Repr

/-- One row of a register table: count registers, stride bytes apart. -/
structure RegRow where
  base   : Nat
  stride : Nat
  count  : Nat
  reset  : Nat
  rw     : Nat
  rwl    : Nat
  lock   : Lock
deriving DecidableEq, Repr

/-- R7, R361, R382, R455, part 1. -/
def rowsGlobal1 : List RegRow :=
  [ ⟨0, 4, 1, 0x0D401F4C, 0, 0, .never⟩ -- glbIdent
  , ⟨4, 4, 1, 0xA001, 0, 0, .never⟩ -- glbVariant
  , ⟨8, 4, 1, 0, 0, 0, .never⟩ -- glbReset
  , ⟨0xC, 4, 1, 0, 0, 0, .never⟩ -- glbResetBad
  , ⟨0x10, 4, 1, 0, 0, 0, .never⟩ -- glbContention
  , ⟨0x14, 4, 1, 0, 0, 0, .never⟩ -- glbBadacc
  , ⟨0x18, 4, 1, 0, 0, 0, .never⟩ -- glbFencedAcc
  , ⟨0x20, 4, 1, 0, 0, 0, .never⟩ -- hifStat
  , ⟨0x24, 4, 1, 0, 0xC0000000, 0, .never⟩ -- hifBar2BaseLo
  , ⟨0x28, 4, 1, 0, 0xFFFF, 0, .never⟩ -- hifBar2BaseHi
  , ⟨0x2C, 4, 1, 0, 0, 0, .never⟩ -- hifBmeHeld
  , ⟨0x30, 4, 1, 0, 0, 0, .never⟩ -- hifPoisonRx
  , ⟨0x34, 4, 1, 0, 0, 0, .never⟩ -- hifResets
  , ⟨0x38, 4, 1, 0, 0, 0, .never⟩ -- hifBar2Ca
  , ⟨0x3C, 4, 1, 0, 0, 0, .never⟩ -- sbPecErr
  , ⟨0x40, 4, 1, 0, 1, 0, .never⟩ -- sbCtl
  , ⟨0x44, 4, 1, 0, 0, 0, .never⟩ -- sbStat
  , ⟨0x48, 4, 1, 0, 0, 0, .never⟩ -- sbTimeouts
  , ⟨0x4C, 4, 1, 0, 0, 0, .never⟩ -- sbWakes
  , ⟨0x50, 4, 1, 0, 0, 0, .never⟩ -- hifResetDiscards
  , ⟨0x8000, 0x10, 64, 0, 0xFFFFFFFC, 0, .never⟩ -- msixAddrLo
  , ⟨0x8004, 0x10, 64, 0, 0xFFFFFFFF, 0, .never⟩ -- msixAddrHi
  , ⟨0x8008, 0x10, 64, 0, 0xFFFFFFFF, 0, .never⟩ -- msixData
  , ⟨0x800C, 0x10, 64, 1, 1, 0, .never⟩ -- msixCtl
  ]

/-- R7, R361, R382, R455, part 2. -/
def rowsGlobal2 : List RegRow :=
  [ ⟨0x9000, 4, 2, 0, 0, 0, .never⟩ -- msixPba
  , ⟨0xA000, 8, 64, 0, 0, 0, .never⟩ -- intVecCount
  , ⟨0xA004, 8, 64, 0, 0xFFFFFFFF, 0, .never⟩ -- intVecSeen
  ]

/-- R7, R361, R382, R455. -/
def rowsGlobal : List RegRow := rowsGlobal1 ++ rowsGlobal2

/-- R383, R405. -/
def rowsMailbox : List RegRow :=
  [ ⟨0x10000, 0x10, 32, 0, 0, 0, .never⟩ -- h2mData
  , ⟨0x10004, 0x10, 32, 0, 0, 0, .never⟩ -- h2mStatus
  , ⟨0x10008, 0x10, 32, 0, 0, 0, .never⟩ -- h2mAck
  , ⟨0x10200, 0x10, 32, 0, 0, 0, .never⟩ -- m2hData
  , ⟨0x10204, 0x10, 32, 0, 0, 0, .never⟩ -- m2hStatus
  , ⟨0x10208, 0x10, 32, 0, 0x8000FFFF, 0, .never⟩ -- m2hAck
  , ⟨0x10400, 4, 32, 0, 0x1F, 0, .never⟩ -- mbxLock
  , ⟨0x10480, 4, 1, 0, 0, 0, .never⟩ -- mbxDenied
  , ⟨0x10484, 4, 1, 0, 0, 0, .never⟩ -- mbxOverwrite
  , ⟨0x10488, 4, 1, 0, 0, 0, .never⟩ -- mbxAborts
  , ⟨0x1048C, 4, 1, 0, 0, 0, .never⟩ -- mbxBadrel
  , ⟨0x10490, 4, 1, 0, 0, 0, .never⟩ -- vciStat
  , ⟨0x10494, 4, 1, 0, 0, 0, .never⟩ -- vciEvtSeq
  , ⟨0x10498, 4, 1, 0, 0, 0, .never⟩ -- vciScans
  , ⟨0x1049C, 4, 1, 0, 0, 0, .never⟩ -- vciSuperseded
  , ⟨0x104A0, 4, 1, 0, 0, 0, .never⟩ -- vciRefused
  , ⟨0x104A4, 4, 1, 0, 0, 0, .never⟩ -- vciOrphanCpl
  , ⟨0x104A8, 4, 1, 0, 0, 0, .never⟩ -- vciEvtLost
  , ⟨0x104AC, 4, 1, 0, 0, 0, .never⟩ -- vciNaks
  , ⟨0x10800, 4, 512, 0, 0xFFFFFFFF, 0, .never⟩ -- vciArgs
  , ⟨0x11000, 4, 512, 0, 0, 0, .never⟩ -- vciRess
  ]

/-- R433, R499, part 1. -/
def rowsPower1 : List RegRow :=
  [ ⟨0x20000, 4, 1, 0, 0, 0, .never⟩ -- pwrStat
  , ⟨0x20004, 4, 1, 0, 0xF0007, 0, .never⟩ -- pwrCtl
  , ⟨0x20008, 4, 1, 0, 0xFFFFFFFF, 0, .never⟩ -- pwrIdleTmo
  , ⟨0x2000C, 4, 1, 0, 0xFFFFFFFF, 0, .never⟩ -- pwrNapTmo
  , ⟨0x20010, 4, 1, 0, 0xFFFFFFFF, 0, .never⟩ -- pwrSentTmo
  , ⟨0x20014, 4, 1, 3, 0xFFF3F, 0, .never⟩ -- pwrWakeEn
  , ⟨0x20018, 4, 1, 0, 0, 0, .never⟩ -- pwrWakeCause
  , ⟨0x2001C, 4, 1, 0, 0, 0, .never⟩ -- pwrPadHold
  , ⟨0x20020, 4, 1, 0xA0, 0, 0, .never⟩ -- pwrCap
  , ⟨0x20024, 4, 1, 0, 0, 0, .never⟩ -- pwrEst
  , ⟨0x20028, 4, 1, 0, 0, 0, .never⟩ -- pwrEstPeak
  , ⟨0x2002C, 4, 1, 0, 1, 0, .never⟩ -- pwrGovCtl
  , ⟨0x20030, 4, 1, 0, 0, 0, .never⟩ -- pwrFlumeMhz
  , ⟨0x20034, 4, 1, 0, 0, 0, .never⟩ -- pwrRaceMhz
  , ⟨0x20038, 4, 1, 0, 0, 0, .never⟩ -- pwrApcMhz
  , ⟨0x20040, 4, 1, 0, 0, 0, .never⟩ -- pwrIdleEntries
  , ⟨0x20044, 4, 1, 0, 0, 0, .never⟩ -- pwrNapEntries
  , ⟨0x20048, 4, 1, 0, 0, 0, .never⟩ -- pwrSentEntries
  , ⟨0x2004C, 4, 1, 0, 0, 0, .never⟩ -- pwrAborts
  , ⟨0x20050, 4, 1, 0, 0, 0, .never⟩ -- pwrWakes
  , ⟨0x20054, 4, 1, 0, 0, 0, .never⟩ -- pwrThrottleSteps
  , ⟨0x20058, 4, 1, 0, 0, 0, .never⟩ -- pwrThermalMs
  , ⟨0x2005C, 4, 1, 0, 0, 0, .never⟩ -- pwrPadMismatch
  , ⟨0x20080, 4, 1, 0x2EE02EE, 0, 0, .never⟩ -- pwrAvs
  ]

/-- R433, R499, part 2. -/
def rowsPower2 : List RegRow :=
  [ ⟨0x20084, 4, 1, 0, 0, 0, .never⟩ -- pwrAvsErrs
  , ⟨0x20088, 4, 1, 0, 0, 0, .never⟩ -- pwrTj
  , ⟨0x2008C, 4, 1, 0, 0, 0, .never⟩ -- pwrTjMax
  , ⟨0x20090, 4, 1, 0x6E5F64, 0, 0, .never⟩ -- pwrTlim
  , ⟨0x20094, 4, 1, 0, 0, 0, .never⟩ -- pwrSupplyStat
  , ⟨0x20098, 4, 1, 0, 0, 0, .never⟩ -- pwrTrips
  ]

/-- R433, R499. -/
def rowsPower : List RegRow := rowsPower1 ++ rowsPower2

/-- R62, R296, part 1. -/
def rowsTimebase1 : List RegRow :=
  [ ⟨0x30000, 4, 1, 0, 0, 7, .tbJob⟩ -- tbCtl
  , ⟨0x30004, 4, 1, 0, 0, 0, .never⟩ -- tbStat
  , ⟨0x30008, 4, 1, 0, 0, 0, .never⟩ -- tbCap
  , ⟨0x3000C, 4, 1, 0, 0, 0, .never⟩ -- tbCapLo
  , ⟨0x30010, 4, 1, 0, 0, 0, .never⟩ -- tbCapHi
  , ⟨0x30014, 4, 1, 0, 0, 0, .never⟩ -- tbCapFine
  , ⟨0x30018, 4, 1, 0, 0, 0, .never⟩ -- tbTbcLo
  , ⟨0x3001C, 4, 1, 0, 0, 0, .never⟩ -- tbTbcHi
  , ⟨0x30020, 4, 1, 0, 0, 0, .never⟩ -- tbFreqAdj
  , ⟨0x30024, 4, 1, 0, 0, 0xFFFFFFFF, .tbJob⟩ -- tbPpsPhase
  , ⟨0x30028, 4, 1, 0, 0, 0, .never⟩ -- tbPpsCapLo
  , ⟨0x3002C, 4, 1, 0, 0, 0, .never⟩ -- tbPpsCapHi
  , ⟨0x30030, 4, 1, 0, 0, 0, .never⟩ -- tbPpsCapFine
  , ⟨0x30034, 4, 1, 0, 0, 0, .never⟩ -- tbPpsSeq
  , ⟨0x30038, 4, 1, 0, 0xFFFFFFFF, 0, .never⟩ -- tbLoadLo
  , ⟨0x3003C, 4, 1, 0, 0xFFFFFFFF, 0, .never⟩ -- tbLoadHi
  , ⟨0x30040, 4, 1, 0, 0, 0, .never⟩ -- tbLoad
  , ⟨0x30044, 4, 1, 0, 0, 0, .never⟩ -- tbHoldEntries
  , ⟨0x30048, 4, 1, 0, 0, 0, .never⟩ -- tbSyncOffset
  , ⟨0x3004C, 4, 1, 0, 0, 0, .never⟩ -- tbSyncDelay
  , ⟨0x30050, 4, 4, 0, 0, 0xFFFFFFFF, .tbJob⟩ -- tbAsym
  , ⟨0x30060, 4, 1, 0xC8, 0xFFFF83FF, 0, .never⟩ -- tbPpso
  , ⟨0x30064, 4, 1, 0x10, 0xFFFF, 0, .never⟩ -- tbClko
  , ⟨0x30068, 4, 1, 0, 0, 0, .never⟩ -- tbLoadCancels
  ]

/-- R62, R296, part 2. -/
def rowsTimebase2 : List RegRow :=
  [ ⟨0x30100, 0x20, 8, 0, 3, 0xFF00, .sysRun⟩ -- sysCtl
  , ⟨0x30104, 0x20, 8, 0x800, 0, 0xFFFFFFFF, .sysRun⟩ -- sysPeriod
  , ⟨0x30108, 0x20, 8, 0, 0, 0xFFFFFFFF, .sysRun⟩ -- sysPhase
  , ⟨0x3010C, 0x20, 8, 0x10001, 0, 0xFFFF00FF, .sysRun⟩ -- sysGap
  , ⟨0x30110, 0x20, 8, 0, 0, 0x3FFF, .sysRun⟩ -- sysDly
  , ⟨0x30114, 0x20, 8, 0, 0, 0, .never⟩ -- sysStat
  , ⟨0x30118, 0x20, 8, 0, 0, 0, .never⟩ -- sysPulses
  , ⟨0x3011C, 0x20, 8, 0, 0, 0, .never⟩ -- sysIgnored
  , ⟨0x30200, 0x10, 4, 0, 0xFFFFFFFF, 0, .never⟩ -- tbcmpLo
  , ⟨0x30204, 0x10, 4, 0, 0xFFFFFFFF, 0, .never⟩ -- tbcmpHi
  , ⟨0x30208, 0x10, 4, 0, 0xFFFFFF01, 0, .never⟩ -- tbcmpCtl
  , ⟨0x3020C, 0x10, 4, 0, 0, 0, .never⟩ -- tbcmpStat
  , ⟨0x30400, 0x20, 16, 0, 0xFFF3, 0, .never⟩ -- gtCtl
  , ⟨0x30404, 0x20, 16, 0, 0xFFFFFFFF, 0, .never⟩ -- gtCnt
  , ⟨0x30408, 0x20, 16, 0xFFFFFFFF, 0xFFFFFFFF, 0, .never⟩ -- gtCmp
  , ⟨0x3040C, 0x20, 16, 0, 0x3F3F, 0, .never⟩ -- gtAct
  , ⟨0x30410, 0x20, 16, 0, 0, 0, .never⟩ -- gtStat
  , ⟨0x30414, 0x20, 16, 0, 0, 0, .never⟩ -- gtMatches
  , ⟨0x30418, 0x20, 16, 0, 0, 0, .never⟩ -- gtOvfs
  , ⟨0x30800, 0x20, 8, 0, 0xFFFF0003, 0, .never⟩ -- trgoCtl
  , ⟨0x30804, 0x20, 8, 0x10, 0xFFFFFFFF, 0, .never⟩ -- trgoTime
  , ⟨0x30808, 0x20, 8, 0, 0, 0, .never⟩ -- trgoCapLo
  , ⟨0x3080C, 0x20, 8, 0, 0, 0, .never⟩ -- trgoCapHi
  , ⟨0x30810, 0x20, 8, 0, 0, 0, .never⟩ -- trgoSeq
  ]

/-- R62, R296, part 3. -/
def rowsTimebase3 : List RegRow :=
  [ ⟨0x30814, 0x20, 8, 0, 0, 0, .never⟩ -- trgoSuppressed
  , ⟨0x30900, 0x20, 4, 0, 0x80FF0300, 0, .never⟩ -- trgiCtl
  , ⟨0x30904, 0x20, 4, 0, 0, 0xFFFFFFFF, .mrFlow⟩ -- trgiMask
  , ⟨0x30908, 0x20, 4, 0, 0, 0xFFFF, .mrFlow⟩ -- trgiAxon
  , ⟨0x3090C, 0x20, 4, 0, 0, 0, .never⟩ -- trgiCapLo
  , ⟨0x30910, 0x20, 4, 0, 0, 0, .never⟩ -- trgiCapHi
  , ⟨0x30914, 0x20, 4, 0, 0, 0, .never⟩ -- trgiCapFine
  , ⟨0x30918, 0x20, 4, 0, 0, 0, .never⟩ -- trgiSeq
  , ⟨0x30A00, 4, 16, 0, 0, 0, .never⟩ -- trgLinePulses
  ]

/-- R62, R296. -/
def rowsTimebase : List RegRow := rowsTimebase1 ++ rowsTimebase2 ++ rowsTimebase3

/-- R454. -/
def rowsErrors : List RegRow :=
  [ ⟨0x40000, 4, 1, 0, 0, 0, .never⟩ -- errStat
  , ⟨0x40004, 4, 1, 0, 0, 0, .never⟩ -- errAppends
  , ⟨0x40008, 4, 1, 0, 0, 0, .never⟩ -- errXresetDrops
  , ⟨0x40010, 4, 8, 0, 0, 0, .never⟩ -- errPendNc
  , ⟨0x40030, 4, 1, 0, 0, 0, .never⟩ -- errPendOther
  , ⟨0x40040, 4, 1, 0, 0x1FF, 0, .never⟩ -- errSel
  , ⟨0x40044, 4, 1, 0, 0, 0, .never⟩ -- errWr
  , ⟨0x40048, 4, 1, 0, 0, 0, .never⟩ -- errHnd
  , ⟨0x4004C, 4, 1, 0, 0, 0, .never⟩ -- errLost
  , ⟨0x40050, 4, 1, 0, 0, 0, .never⟩ -- errUstat
  , ⟨0x40054, 4, 1, 0, 7, 0, .never⟩ -- errEntSel
  , ⟨0x40058, 4, 4, 0, 0, 0, .never⟩ -- errEnt
  , ⟨0x40068, 4, 4, 0, 0, 0, .never⟩ -- errCnt
  , ⟨0x40100, 4, 1, 0xFFF, 0xFFF, 0, .never⟩ -- drgCtl
  , ⟨0x40104, 4, 1, 0, 0xF, 0, .never⟩ -- drgSel
  , ⟨0x40108, 4, 1, 0, 0, 0, .never⟩ -- drgLap
  , ⟨0x4010C, 4, 1, 0, 0, 0, .never⟩ -- drgAge
  , ⟨0x40110, 4, 1, 0, 0, 0, .never⟩ -- drgLaps
  , ⟨0x40114, 4, 1, 0, 0, 0, .never⟩ -- drgFound
  , ⟨0x40118, 4, 1, 0x64, 0xFFFF, 0, .never⟩ -- drgDdrRate
  , ⟨0x4011C, 4, 1, 0, 0, 0, .never⟩ -- drgGoldenErr
  ]

/-- R85, part 1. -/
def rowsIntake1 : List RegRow :=
  [ ⟨0x50000, 4, 1, 0, 0, 0, .never⟩ -- intkLanesUp
  , ⟨0x50004, 4, 1, 0, 0, 0, .never⟩ -- intkLinksUp
  , ⟨0x50008, 4, 1, 0, 0, 0, .never⟩ -- intkOpenLo
  , ⟨0x5000C, 4, 1, 0, 0, 0, .never⟩ -- intkOpenHi
  , ⟨0x50010, 4, 6, 0, 0, 0, .never⟩ -- intkHbCoef
  , ⟨0x50100, 0x10, 24, 0, 0, 0x1F7, .laneLink⟩ -- intkLaneCfg
  , ⟨0x50104, 0x10, 24, 0, 0, 0, .never⟩ -- intkLaneStat
  , ⟨0x50108, 0x10, 24, 0, 0, 0, .never⟩ -- intkLaneSherr
  , ⟨0x5010C, 0x10, 24, 0, 0, 0, .never⟩ -- intkLaneCrcerr
  , ⟨0x50400, 0x40, 6, 0, 0, 0x77FCF07, .linkEn⟩ -- intkLinkCfg
  , ⟨0x50404, 0x40, 6, 0, 1, 0xFFF0FF00, .linkEn⟩ -- intkLinkCtl
  , ⟨0x50408, 0x40, 6, 0, 0, 0, .never⟩ -- intkLinkStat
  , ⟨0x5040C, 0x40, 6, 0, 0, 0, .never⟩ -- intkLinkLat
  , ⟨0x50410, 0x40, 6, 0, 0, 0xFFFFFFFF, .linkEn⟩ -- intkLinkLatExp
  , ⟨0x50414, 0x40, 6, 0, 0, 0xFFFFFFFF, .linkEn⟩ -- intkLinkAdcLat
  , ⟨0x50418, 0x40, 6, 0, 0, 0xFFFFFFFF, .linkEn⟩ -- intkLinkSper
  , ⟨0x5041C, 0x40, 6, 0, 0, 0, .never⟩ -- intkLinkRealigns
  , ⟨0x50420, 0x40, 6, 0, 0, 0, .never⟩ -- intkLinkSysrefMiss
  , ⟨0x50424, 0x40, 6, 0, 0, 0, .never⟩ -- intkLinkEbErr
  , ⟨0x50428, 0x40, 6, 0, 0, 0, .never⟩ -- intkLinkCrcBlocks
  , ⟨0x51000, 0x100, 64, 0, 0, 0x1FFFF, .strOpen⟩ -- intkStrCtl
  , ⟨0x51004, 0x100, 64, 0, 0xFFFFFFFF, 0, .never⟩ -- intkStrFtwLo
  , ⟨0x51008, 0x100, 64, 0, 0xFFFF, 0, .never⟩ -- intkStrFtwHi
  , ⟨0x5100C, 0x100, 64, 0, 0, 0x701FF, .strOpen⟩ -- intkStrSrc
  ]

/-- R85, part 2. Every coefficient register of a stream's window is writable, t = 96 to 127 too, though at most 96 taps are in use
(log entry 125). -/
def rowsIntake2 : List RegRow :=
  [ ⟨0x51010, 0x100, 64, 0, 0, 0x1F7FF33F, .strOpen⟩ -- intkStrDec
  , ⟨0x51014, 0x100, 64, 0x100010, 0, 0x7FF07FF, .strOpen⟩ -- intkStrFrame
  , ⟨0x51018, 0x100, 64, 0, 0, 0xFFFFFF00, .strOpen⟩ -- intkStrBufLo
  , ⟨0x5101C, 0x100, 64, 0, 0, 0xFFFF, .strOpen⟩ -- intkStrBufHi
  , ⟨0x51020, 0x100, 64, 2, 0, 0x11F, .strOpen⟩ -- intkStrBufCfg
  , ⟨0x51024, 0x100, 64, 0, 0, 0, .never⟩ -- intkStrLat
  , ⟨0x51028, 0x100, 64, 0, 0, 0, .never⟩ -- intkStrGd
  , ⟨0x5102C, 0x100, 64, 0, 0, 0, .never⟩ -- intkStrStat
  , ⟨0x51030, 0x100, 64, 0, 0, 0, .never⟩ -- intkStrFrames
  , ⟨0x51034, 0x100, 64, 0, 0, 0, .never⟩ -- intkStrDropped
  , ⟨0x51038, 0x100, 64, 0, 0, 0, .never⟩ -- intkStrLost
  , ⟨0x5103C, 0x100, 64, 0, 0, 0, .never⟩ -- intkStrSat
  , ⟨0x51040, 0x100, 64, 0, 0, 0, .never⟩ -- intkStrFrameNo
  , ⟨0x58000, 4, 8192, 0, 0, 0x3FFFF, .strFir⟩ -- intkStrFir
  ]

/-- R85. -/
def rowsIntake : List RegRow := rowsIntake1 ++ rowsIntake2

/-- R434, part 1. -/
def rowsSentinel1 : List RegRow :=
  [ ⟨0x60000, 4, 1, 0x100, 0x80000000, 0xFFFF, .senEn⟩ -- senCtl
  , ⟨0x60004, 4, 1, 0, 0, 0, .never⟩ -- senStat
  , ⟨0x60008, 4, 1, 0, 0, 0x1030F, .senEn⟩ -- senSdiCfg
  , ⟨0x6000C, 4, 1, 0, 0, 0, .never⟩ -- senTick
  , ⟨0x60010, 4, 1, 0, 0, 0, .never⟩ -- senSamples
  , ⟨0x60014, 4, 1, 0, 0, 0, .never⟩ -- senOvr
  , ⟨0x60018, 4, 1, 0, 0, 0, .never⟩ -- senBqSat
  , ⟨0x6001C, 4, 1, 0, 0, 0, .never⟩ -- senTickLong
  , ⟨0x60020, 4, 1, 0, 0, 0, .never⟩ -- senSpikes
  , ⟨0x60024, 4, 1, 0, 0, 0, .never⟩ -- senBadWord
  , ⟨0x60028, 4, 1, 0, 0, 0, .never⟩ -- senWakes
  , ⟨0x6002C, 4, 1, 0, 0, 0, .never⟩ -- senLogCount
  , ⟨0x60030, 4, 1, 0, 0x1FFFF, 0, .never⟩ -- senMemAddr
  , ⟨0x60034, 4, 1, 0, 0, 0, .never⟩ -- senMemData
  , ⟨0x60100, 0x20, 8, 0, 0, 0xFFFFF, .senEn⟩ -- senBqB0
  , ⟨0x60104, 0x20, 8, 0, 0, 0xFFFFF, .senEn⟩ -- senBqB1
  , ⟨0x60108, 0x20, 8, 0, 0, 0xFFFFF, .senEn⟩ -- senBqB2
  , ⟨0x6010C, 0x20, 8, 0, 0, 0xFFFFF, .senEn⟩ -- senBqA1
  , ⟨0x60110, 0x20, 8, 0, 0, 0xFFFFF, .senEn⟩ -- senBqA2
  , ⟨0x60114, 0x20, 8, 0, 0, 0xFFF00F0F, .senEn⟩ -- senBqCfg
  , ⟨0x60200, 0x10, 4, 0, 0, 0xFFFFFF0F, .senEn⟩ -- senEnvCfg
  , ⟨0x60204, 0x10, 4, 0, 0, 0, .never⟩ -- senEnvVal
  , ⟨0x60400, 0x10, 32, 0, 0, 0xF3FFFFFF, .senEn⟩ -- senRuleCond
  , ⟨0x60404, 0x10, 32, 0, 0, 0xFFFFFF, .senEn⟩ -- senRuleLvl
  ]

/-- R434, part 2. -/
def rowsSentinel2 : List RegRow :=
  [ ⟨0x60408, 0x10, 32, 0, 0, 0xF3F7, .senEn⟩ -- senRuleAct
  , ⟨0x6040C, 0x10, 32, 0, 0, 0, .never⟩ -- senRuleFired
  , ⟨0x60800, 4, 1, 0, 0xFF, 0, .never⟩ -- senLogSel
  , ⟨0x60804, 4, 1, 0, 0, 0, .never⟩ -- senLogTbcLo
  , ⟨0x60808, 4, 1, 0, 0, 0, .never⟩ -- senLogTbcHi
  , ⟨0x6080C, 4, 1, 0, 0, 0, .never⟩ -- senLogInfo
  , ⟨0x60810, 4, 1, 0, 0, 0, .never⟩ -- senLogTick
  ]

/-- R434. -/
def rowsSentinel : List RegRow := rowsSentinel1 ++ rowsSentinel2

/-- R384. -/
def rowsConduit : List RegRow :=
  [ ⟨0x80000, 0x40, 16, 0, 1, 0, .never⟩ -- cdCtl
  , ⟨0x80004, 0x40, 16, 0, 0, 0, .never⟩ -- cdStat
  , ⟨0x80008, 0x40, 16, 0, 0, 0xFFFFF000, .cdEn⟩ -- cdRingLo
  , ⟨0x8000C, 0x40, 16, 0, 0, 0xFFFFFFFF, .cdEn⟩ -- cdRingHi
  , ⟨0x80010, 0x40, 16, 0, 0, 0xFFFFF000, .cdEn⟩ -- cdCplLo
  , ⟨0x80014, 0x40, 16, 0, 0, 0xFFFFFFFF, .cdEn⟩ -- cdCplHi
  , ⟨0x80018, 0x40, 16, 4, 0, 0x1F, .cdEn⟩ -- cdSize
  , ⟨0x8001C, 0x40, 16, 0, 0xFFFFFFFF, 0, .never⟩ -- cdHead
  , ⟨0x80020, 0x40, 16, 0, 0xFFFFFFFF, 0, .never⟩ -- cdCplrd
  , ⟨0x80024, 0x40, 16, 0, 0, 0, .never⟩ -- cdTail
  , ⟨0x80028, 0x40, 16, 0, 0, 0, .never⟩ -- cdCplwr
  , ⟨0x8002C, 0x40, 16, 0, 0, 0, .never⟩ -- cdDone
  , ⟨0x80030, 0x40, 16, 0, 0, 0, .never⟩ -- cdErrs
  , ⟨0x80800, 0x40, 32, 0, 3, 0, .never⟩ -- hrCtl
  , ⟨0x80804, 0x40, 32, 0, 0, 0xFFFFF000, .hrEn⟩ -- hrBaseLo
  , ⟨0x80808, 0x40, 32, 0, 0, 0xFFFFFFFF, .hrEn⟩ -- hrBaseHi
  , ⟨0x8080C, 0x40, 32, 0x10, 0, 0x1FFFFFF, .hrEn⟩ -- hrSize
  , ⟨0x80810, 0x40, 32, 0, 0, 0, .never⟩ -- hrWr
  , ⟨0x80814, 0x40, 32, 0, 0xFFFFFFFF, 0, .never⟩ -- hrRd
  , ⟨0x80818, 0x40, 32, 0, 0, 0xFFFFFFFC, .hrEn⟩ -- hrWrbackLo
  , ⟨0x8081C, 0x40, 32, 0, 0, 0xFFFFFFFF, .hrEn⟩ -- hrWrbackHi
  , ⟨0x80820, 0x40, 32, 0, 0, 0, .never⟩ -- hrRefused
  ]

/-- R115, R185, R295, part 1. -/
def rowsFlume1 : List RegRow :=
  [ ⟨0x100000, 4, 1, 0, 0, 0x100, .flmRun⟩ -- flmCtl
  , ⟨0x100004, 4, 1, 0, 0, 0, .never⟩ -- flmStat
  , ⟨0x100008, 4, 1, 0, 0, 0, .never⟩ -- flmEccLo
  , ⟨0x10000C, 4, 1, 0, 0, 0, .never⟩ -- flmEccHi
  , ⟨0x100010, 4, 1, 0, 0, 0, .never⟩ -- flmWaitLo
  , ⟨0x100014, 4, 1, 0, 0, 0, .never⟩ -- flmWaitHi
  , ⟨0x100018, 4, 1, 0, 0, 0, .never⟩ -- flmAdmits
  , ⟨0x10001C, 4, 1, 0, 0, 0, .never⟩ -- flmBubbles
  , ⟨0x100020, 4, 1, 0, 0, 0, .never⟩ -- flmInflight
  , ⟨0x100024, 4, 1, 0, 0, 0, .never⟩ -- flmL
  , ⟨0x100028, 4, 1, 0, 0, 0, .never⟩ -- flmII
  , ⟨0x100030, 4, 1, 0, 0, 0, .never⟩ -- flmFaultCell
  , ⟨0x100034, 4, 1, 0, 0, 0, .never⟩ -- flmFaultCause
  , ⟨0x100038, 4, 1, 0, 0, 0, .never⟩ -- flmFaultEccLo
  , ⟨0x10003C, 4, 1, 0, 0, 0, .never⟩ -- flmFaultEccHi
  , ⟨0x100040, 4, 1, 0, 0, 0, .never⟩ -- flmFaultCells
  , ⟨0x100044, 4, 7, 0, 0, 0, .never⟩ -- flmFaultCount
  , ⟨0x100060, 4, 4, 0, 0, 0, .never⟩ -- flmColmap
  , ⟨0x100070, 4, 1, 0, 0x7F7F, 0, .never⟩ -- flmCellSel
  , ⟨0x100074, 4, 1, 0, 0, 0, .never⟩ -- flmCellStat
  , ⟨0x100078, 4, 1, 0, 0, 0, .never⟩ -- flmCellOcc
  , ⟨0x10007C, 4, 1, 0, 0, 0, .never⟩ -- flmCellOrphans
  , ⟨0x100080, 4, 1, 0, 0, 0, .never⟩ -- flmCellFaultEccLo
  , ⟨0x100084, 4, 1, 0, 0, 0, .never⟩ -- flmCellFaultEccHi
  ]

/-- R115, R185, R295, part 2. -/
def rowsFlume2 : List RegRow :=
  [ ⟨0x100100, 4, 1, 0, 0, 0, .never⟩ -- flmEpoch
  , ⟨0x100104, 4, 1, 0, 0, 0, .never⟩ -- flmEpochCtl
  , ⟨0x100108, 4, 1, 0, 0, 0, .never⟩ -- flmEpochStat
  , ⟨0x10010C, 4, 1, 0, 0, 0, .never⟩ -- flmSwaps
  , ⟨0x100110, 4, 1, 0, 0, 0, .never⟩ -- flmSwapsIgnored
  , ⟨0x100114, 4, 1, 0x10100, 0, 0x1FFFF, .flmRun⟩ -- flmLadderCtl
  , ⟨0x100118, 4, 1, 0, 0, 0, .never⟩ -- flmLadderStat
  , ⟨0x10011C, 4, 1, 0, 0, 0, .never⟩ -- flmMisfits
  , ⟨0x100120, 4, 1, 0, 0, 0, .never⟩ -- flmReruns
  , ⟨0x100124, 4, 1, 0, 0, 0, .never⟩ -- flmUncals
  , ⟨0x100128, 4, 1, 0, 0, 0, .never⟩ -- flmRerunFull
  , ⟨0x100130, 4, 1, 0, 0x3F, 0, .never⟩ -- flmGhistSel
  , ⟨0x100140, 4, 16, 0, 0, 0, .never⟩ -- flmGhist
  , ⟨0x100200, 0x20, 64, 0, 0, 0x800F0FFF, .flmRun⟩ -- gaugeCfg
  , ⟨0x100204, 0x20, 64, 0x3F803D80, 0xFFFFFFFF, 0, .never⟩ -- gaugeBounds
  , ⟨0x100208, 0x20, 64, 0, 0, 0, .never⟩ -- gaugeEma
  , ⟨0x10020C, 0x20, 64, 0, 0, 0, .never⟩ -- gaugeLast
  , ⟨0x100210, 0x20, 64, 0, 0, 0, .never⟩ -- gaugeStat
  , ⟨0x100214, 0x20, 64, 0, 0, 0, .never⟩ -- gaugeFrames
  , ⟨0x100C00, 0x10, 16, 0, 0, 0, .never⟩ -- lgCfg
  , ⟨0x100C04, 0x10, 16, 0, 0, 0, .never⟩ -- lgMisfits
  , ⟨0x100C08, 0x10, 16, 0, 0, 0, .never⟩ -- lgUncals
  , ⟨0x100C0C, 0x10, 16, 0, 0, 0, .never⟩ -- lgDrifts
  , ⟨0x108000, 4, 1, 0x400, 0, 0xFFFF, .mrFlow⟩ -- jnCtl
  ]

/-- R115, R185, R295, part 3. -/
def rowsFlume3 : List RegRow :=
  [ ⟨0x108004, 4, 1, 0, 0, 0, .never⟩ -- jnStat
  , ⟨0x108008, 4, 1, 0, 0, 0, .never⟩ -- jnInjected
  , ⟨0x10800C, 4, 1, 0, 0, 0, .never⟩ -- jnEvents
  , ⟨0x108010, 4, 1, 0, 0, 0, .never⟩ -- jnRecords
  , ⟨0x108014, 4, 1, 0, 0, 0, .never⟩ -- jnInjWaits
  , ⟨0x108018, 4, 1, 0, 0, 0, .never⟩ -- jnClips
  , ⟨0x10801C, 4, 1, 0, 0, 0, .never⟩ -- jnWsat
  , ⟨0x108020, 4, 1, 0, 0, 0, .never⟩ -- jnGatherTrunc
  , ⟨0x108024, 4, 1, 0, 0, 0xFFFFFFC0, .mrFlow⟩ -- jnRqBaseLo
  , ⟨0x108028, 4, 1, 0, 0, 0xFFFF, .mrFlow⟩ -- jnRqBaseHi
  , ⟨0x10802C, 4, 1, 0x400, 0, 0x1FFFF, .mrFlow⟩ -- jnRqCfg
  , ⟨0x108030, 4, 1, 0, 0, 0, .never⟩ -- jnRqWr
  , ⟨0x108034, 4, 1, 0, 0xFFFF, 0, .never⟩ -- jnRqRd
  , ⟨0x108038, 4, 1, 0, 0, 0xFFFFFFE0, .mrFlow⟩ -- jnLedgerBaseLo
  , ⟨0x10803C, 4, 1, 0, 0, 0xFFFFFFFF, .mrFlow⟩ -- jnLedgerBaseHi
  , ⟨0x108040, 4, 1, 0, 0, 0xFFFF, .mrFlow⟩ -- jnLedgerCfg
  , ⟨0x108044, 4, 1, 0, 0xFFF, 0, .never⟩ -- jnWsel
  , ⟨0x108048, 4, 1, 0, 0, 0, .never⟩ -- jnWlive
  , ⟨0x10804C, 4, 1, 0, 0, 0, .never⟩ -- jnWlast
  , ⟨0x108050, 4, 1, 0, 0, 0, .never⟩ -- jnHwseq
  , ⟨0x108054, 4, 1, 0, 0, 0, .never⟩ -- jnRqSkip
  , ⟨0x108058, 4, 1, 0, 0, 0, .never⟩ -- jnRqLost
  ]

/-- R115, R185, R295. -/
def rowsFlume : List RegRow := rowsFlume1 ++ rowsFlume2 ++ rowsFlume3

/-- R216, R247, R248, R272, R273, R454, part 1. -/
def rowsMillrace1 : List RegRow :=
  [ ⟨0x200000, 4, 1, 0x110, 0, 0x110, .ncJob⟩ -- ncCtl
  , ⟨0x200004, 4, 1, 0, 0, 0, .never⟩ -- ncStat
  , ⟨0x200008, 4, 1, 0, 0, 0, .never⟩ -- ncMap
  , ⟨0x20000C, 4, 1, 0, 0, 0, .never⟩ -- ncTick
  , ⟨0x200010, 4, 1, 0, 0, 0xFF000F, .ncJob⟩ -- ncMemCfg
  , ⟨0x200014, 4, 1, 0, 0, 0, .never⟩ -- ncDirty
  , ⟨0x200018, 4, 1, 0, 0, 0, .never⟩ -- ncMissq
  , ⟨0x200020, 4, 1, 0, 0, 0, .never⟩ -- ncSopsLo
  , ⟨0x200024, 4, 1, 0, 0, 0, .never⟩ -- ncSopsHi
  , ⟨0x200028, 4, 1, 0, 0, 0, .never⟩ -- ncSpikes
  , ⟨0x20002C, 4, 1, 0, 0, 0, .never⟩ -- ncSaturate
  , ⟨0x200030, 4, 1, 0, 0, 0, .never⟩ -- ncRefDrops
  , ⟨0x200034, 4, 1, 0, 0, 0, .never⟩ -- ncVsat
  , ⟨0x200038, 4, 1, 0, 0, 0, .never⟩ -- ncLate
  , ⟨0x20003C, 4, 1, 0, 0, 0, .never⟩ -- ncEarly
  , ⟨0x200040, 4, 1, 0, 0, 0, .never⟩ -- ncBadAxon
  , ⟨0x200044, 4, 1, 0, 0, 0, .never⟩ -- ncMarkerUpd
  , ⟨0x200048, 4, 1, 0, 0, 0, .never⟩ -- ncTrigPulses
  , ⟨0x20004C, 4, 1, 0, 0, 0, .never⟩ -- ncCistHits
  , ⟨0x200050, 4, 1, 0, 0, 0, .never⟩ -- ncCistMisses
  , ⟨0x200054, 4, 1, 0, 0, 0, .never⟩ -- ncCistLatMax
  , ⟨0x200058, 4, 1, 0, 0, 0, .never⟩ -- ncHintsTx
  , ⟨0x20005C, 4, 1, 0, 0, 0, .never⟩ -- ncHintsRx
  , ⟨0x200060, 4, 1, 0, 0, 0, .never⟩ -- ncHintFetches
  ]

/-- R216, R247, R248, R272, R273, R454, part 2. -/
def rowsMillrace2 : List RegRow :=
  [ ⟨0x200064, 4, 1, 0, 0, 0, .never⟩ -- ncHintUnused
  , ⟨0x200068, 4, 1, 0, 0, 0, .never⟩ -- ncHintDrops
  , ⟨0x20006C, 4, 1, 0, 0, 0, .never⟩ -- ncWritebacks
  , ⟨0x200070, 4, 1, 0, 0x3FFF, 0, .never⟩ -- ncNsel
  , ⟨0x200074, 4, 1, 0, 0, 0, .never⟩ -- ncNsnapStat
  , ⟨0x200078, 4, 4, 0, 0, 0, .never⟩ -- ncNsnap
  , ⟨0x20008C, 4, 1, 0, 0, 0, .never⟩ -- ncNresets
  , ⟨0x200100, 0x20, 8, 0, 0x80000000, 0x7C0FFFFF, .ncJob⟩ -- lrnCtl
  , ⟨0x200104, 0x20, 8, 0, 0, 0xFF7F00, .ncJob⟩ -- lrnStruct
  , ⟨0x200108, 0x20, 8, 0, 0, 0x3FFFFFFF, .ncJob⟩ -- lrnRwdCfg
  , ⟨0x20010C, 0x20, 8, 0, 0xFF, 0, .never⟩ -- lrnReward
  , ⟨0x200110, 0x20, 8, 0, 0, 0, .never⟩ -- lrnR
  , ⟨0x200114, 0x20, 8, 0, 0, 0, .never⟩ -- lrnUpdates
  , ⟨0x200200, 4, 1, 0, 0, 0, .never⟩ -- lrnStat
  , ⟨0x200204, 4, 1, 0, 0, 0, .never⟩ -- lrnPeq
  , ⟨0x200208, 4, 1, 0, 0, 0, .never⟩ -- lrnUq
  , ⟨0x20020C, 4, 1, 0, 0, 0, .never⟩ -- lrnEtickHi
  , ⟨0x200210, 4, 1, 0, 0, 0, .never⟩ -- lrnPrunes
  , ⟨0x200214, 4, 1, 0, 0, 0, .never⟩ -- lrnSprouts
  , ⟨0x200218, 4, 1, 0, 0, 0, .never⟩ -- lrnSproutNoslot
  , ⟨0x20021C, 4, 1, 0, 0, 0, .never⟩ -- lrnSproutLost
  , ⟨0x200220, 4, 1, 0, 0, 0, .never⟩ -- lrnFreeUpd
  , ⟨0x200224, 4, 1, 0, 0, 0, .never⟩ -- lrnHoldCycles
  , ⟨0x200230, 4, 1, 0, 0xFFF, 0, .never⟩ -- lrnTsel
  ]

/-- R216, R247, R248, R272, R273, R454, part 3. -/
def rowsMillrace3 : List RegRow :=
  [ ⟨0x200234, 4, 1, 0, 0, 0xFF, .ncJob⟩ -- lrnTdata
  , ⟨0x200400, 4, 1, 0x40, 0, 0x1FF, .mrFlow⟩ -- rtWin
  , ⟨0x200404, 4, 1, 0, 0, 0, .never⟩ -- rtStat
  , ⟨0x200408, 4, 1, 0, 0, 0, .never⟩ -- rtPond
  , ⟨0x20040C, 4, 1, 0, 0xF, 0, .never⟩ -- rtWsel
  , ⟨0x200410, 4, 1, 0, 0, 0, .never⟩ -- rtWstat
  , ⟨0x200414, 4, 1, 0, 0, 0, .never⟩ -- rtInjected
  , ⟨0x200418, 4, 1, 0, 0, 0, .never⟩ -- rtDelivered
  , ⟨0x20041C, 4, 1, 0, 0, 0, .never⟩ -- rtUndeliv
  , ⟨0x200420, 4, 1, 0, 0, 0, .never⟩ -- rtBranchWaits
  , ⟨0x200424, 4, 1, 0, 0, 0, .never⟩ -- rtCplStale
  , ⟨0x200428, 4, 1, 0, 0, 0, .never⟩ -- rtGrpInvalid
  , ⟨0x20042C, 4, 1, 0, 0, 0, .never⟩ -- rtPondDiscards
  , ⟨0x200430, 4, 1, 0, 0, 0, .never⟩ -- rtPondMax
  , ⟨0x200434, 4, 1, 0, 0, 0, .never⟩ -- rtReplMax
  , ⟨0x200438, 4, 1, 0, 0, 0, .never⟩ -- rtWinWaits
  , ⟨0x20043C, 4, 1, 0, 0, 0, .never⟩ -- rtHintWaits
  , ⟨0x200510, 0x10, 15, 0, 0, 0xC000003F, .mrFlow⟩ -- rtGrpCtl
  , ⟨0x200514, 0x10, 15, 0, 0, 0xFFFF, .mrFlow⟩ -- rtGrpRow
  , ⟨0x200518, 0x10, 15, 0, 0, 0xFFFF, .mrFlow⟩ -- rtGrpCol
  , ⟨0x200600, 4, 1, 0x100000, 0, 0xFF0000, .mrFlow⟩ -- mrCtl
  , ⟨0x200604, 4, 1, 0x640, 0, 0xFFFFFF, .ncJob0⟩ -- mrTickLen
  , ⟨0x200608, 4, 1, 0x40, 0, 0xFFFF, .mrFlow⟩ -- mrBarLead
  , ⟨0x20060C, 4, 1, 0x100, 0, 0, .never⟩ -- mrDevid
  ]

/-- R216, R247, R248, R272, R273, R454, part 4. -/
def rowsMillrace4 : List RegRow :=
  [ ⟨0x200610, 4, 1, 0, 0, 0, .never⟩ -- mrStat
  , ⟨0x200614, 4, 1, 0, 0, 0, .never⟩ -- mrTick
  , ⟨0x200618, 4, 1, 0, 0, 0, .never⟩ -- mrTstartLo
  , ⟨0x20061C, 4, 1, 0, 0, 0, .never⟩ -- mrTstartHi
  , ⟨0x200620, 4, 1, 0, 0, 0, .never⟩ -- mrSlip
  , ⟨0x200624, 4, 1, 0x10, 0, 0xFF, .mrFlow⟩ -- mrCplBatch
  , ⟨0x200628, 4, 1, 0, 0, 0, .never⟩ -- mrOverdueTicks
  , ⟨0x20062C, 4, 1, 0, 0, 0, .never⟩ -- mrStretchQuanta
  , ⟨0x200630, 4, 1, 0, 0, 0, .never⟩ -- mrForced
  , ⟨0x200634, 4, 1, 0, 0, 0, .never⟩ -- mrCloseLate
  , ⟨0x200638, 4, 1, 0, 0, 0, .never⟩ -- mrDups
  , ⟨0x20063C, 4, 1, 0, 0, 0, .never⟩ -- mrLandErr
  , ⟨0x200640, 4, 1, 0, 0, 0, .never⟩ -- mrHintLandDrops
  , ⟨0x200644, 4, 1, 0, 0, 0, .never⟩ -- mrBadClass
  , ⟨0x200648, 4, 1, 0, 0, 0, .never⟩ -- mrDrains
  , ⟨0x200650, 4, 1, 0, 0x3F, 0, .never⟩ -- mrTlogSel
  , ⟨0x200654, 4, 1, 0, 0, 0, .never⟩ -- mrTlogTick
  , ⟨0x200658, 4, 1, 0, 0, 0, .never⟩ -- mrTlogAtLo
  , ⟨0x20065C, 4, 1, 0, 0, 0, .never⟩ -- mrTlogAtHi
  , ⟨0x200660, 4, 1, 0, 0, 0, .never⟩ -- mrTlogInfo
  , ⟨0x200664, 4, 1, 0, 0, 0, .never⟩ -- mrTlogCount
  , ⟨0x200680, 4, 4, 0, 0xFF, 0, .never⟩ -- lrnGreward
  , ⟨0x200690, 4, 1, 0, 0, 0xFFFFF000, .ncJob0⟩ -- lrnCkptBaseLo
  , ⟨0x200694, 4, 1, 0, 0, 0xFFFF, .ncJob0⟩ -- lrnCkptBaseHi
  ]

/-- R216, R247, R248, R272, R273, R454, part 5. -/
def rowsMillrace5 : List RegRow :=
  [ ⟨0x200698, 4, 1, 0, 0, 0, .never⟩ -- lrnCkptSeq
  , ⟨0x20069C, 4, 1, 0, 0, 0, .never⟩ -- lrnCkptEtickLo
  , ⟨0x2006A0, 4, 1, 0, 0, 0, .never⟩ -- lrnCkptEtickHi
  , ⟨0x2006A4, 4, 1, 0, 0, 0, .never⟩ -- lrnCkptFails
  , ⟨0x200800, 0x20, 64, 0, 0, 0xFFFFFFFF, .ncJob⟩ -- ncPset0
  , ⟨0x200804, 0x20, 64, 0, 0, 0x7FFFFFFF, .ncJob⟩ -- ncPset1
  , ⟨0x200808, 0x20, 64, 0, 0, 0xFF3FFFFF, .ncJob⟩ -- ncPset2
  ]

/-- R216, R247, R248, R272, R273, R454. -/
def rowsMillrace : List RegRow := rowsMillrace1 ++ rowsMillrace2 ++ rowsMillrace3 ++ rowsMillrace4 ++ rowsMillrace5

/-- R347, part 1. -/
def rowsLeat1 : List RegRow :=
  [ ⟨0x300000, 4, 1, 2, 2, 0, .never⟩ -- lkCtl
  , ⟨0x300004, 4, 1, 0, 0, 0xFFFFFFFF, .ncJob0⟩ -- lkSysid
  , ⟨0x300008, 4, 1, 0, 0, 0, .never⟩ -- lkStat
  , ⟨0x30000C, 4, 1, 0, 0, 0, .never⟩ -- lkLinksDown
  , ⟨0x300010, 4, 1, 0, 0, 0x1FFF000, .ncJob0⟩ -- lkReplayBase
  , ⟨0x300014, 4, 1, 0, 0, 0xF300000F, .ncJob0⟩ -- lkTsync
  , ⟨0x300018, 4, 1, 0x3E8, 0, 0xFFFF, .ncJob0⟩ -- lkCollTmo
  , ⟨0x30001C, 4, 1, 0, 0, 0, .never⟩ -- lkUnreach
  , ⟨0x300020, 4, 1, 0, 0, 0, .never⟩ -- lkReplayed
  , ⟨0x300024, 4, 1, 0, 0, 0, .never⟩ -- lkTransitDrops
  , ⟨0x300028, 4, 1, 0, 0, 0, .never⟩ -- lkCollDups
  , ⟨0x30002C, 4, 1, 0, 0, 0, .never⟩ -- lkNotices
  , ⟨0x300030, 4, 1, 0, 0, 0, .never⟩ -- lkTransitLo
  , ⟨0x300034, 4, 1, 0, 0, 0, .never⟩ -- lkTransitHi
  , ⟨0x300100, 0x80, 4, 0, 0, 0x87EF300F, .ncJob0⟩ -- lkPortCfg
  , ⟨0x300104, 0x80, 4, 0, 0, 0, .never⟩ -- lkPortStat
  , ⟨0x300108, 0x80, 4, 0, 0, 0, .never⟩ -- lkPortPartner
  , ⟨0x30010C, 0x80, 4, 0, 0, 0, .never⟩ -- lkPortCwLo
  , ⟨0x300110, 0x80, 4, 0, 0, 0, .never⟩ -- lkPortCwHi
  , ⟨0x300114, 0x80, 4, 0, 0, 0, .never⟩ -- lkPortCsymLo
  , ⟨0x300118, 0x80, 4, 0, 0, 0, .never⟩ -- lkPortCsymHi
  , ⟨0x30011C, 0x80, 4, 0, 0, 0, .never⟩ -- lkPortUncorr
  , ⟨0x300120, 0x80, 4, 0, 0, 0, .never⟩ -- lkPortReplays
  , ⟨0x300124, 0x80, 4, 0, 0, 0, .never⟩ -- lkPortDowns
  ]

/-- R347, part 2. -/
def rowsLeat2 : List RegRow :=
  [ ⟨0x300128, 0x80, 4, 0, 0, 0, .never⟩ -- lkPortTxpktLo
  , ⟨0x30012C, 0x80, 4, 0, 0, 0, .never⟩ -- lkPortTxpktHi
  , ⟨0x300130, 0x80, 4, 0, 0, 0, .never⟩ -- lkPortRxpktLo
  , ⟨0x300134, 0x80, 4, 0, 0, 0, .never⟩ -- lkPortRxpktHi
  , ⟨0x300138, 0x80, 4, 0, 0, 0, .never⟩ -- lkPortQual
  , ⟨0x300400, 0x10, 16, 0, 0, 0x80000033, .ncJob0⟩ -- lkRoute
  , ⟨0x300404, 0x10, 16, 0, 0, 0xFFFFFFFF, .ncJob0⟩ -- lkRoutePmask
  , ⟨0x300408, 0x10, 16, 0, 0, 0xFFFFFFFF, .ncJob0⟩ -- lkRouteRmask
  , ⟨0x30040C, 0x10, 16, 0, 0, 0, .never⟩ -- lkRouteStat
  , ⟨0x300600, 0x10, 16, 0, 0, 0x870FFFFF, .ncJob0⟩ -- lkCollCfg
  , ⟨0x300604, 0x10, 16, 0, 0, 0, .never⟩ -- lkCollStat
  , ⟨0x300608, 0x10, 16, 0, 0, 0, .never⟩ -- lkCollResLo
  , ⟨0x30060C, 0x10, 16, 0, 0, 0, .never⟩ -- lkCollResHi
  ]

/-- R347. -/
def rowsLeat : List RegRow := rowsLeat1 ++ rowsLeat2

/-- R324, part 1. -/
def rowsMemory1 : List RegRow :=
  [ ⟨0x400000, 4, 1, 0, 0, 0, .never⟩ -- memDdrStat
  , ⟨0x400004, 4, 1, 0, 0, 0, .never⟩ -- memDdrRate
  , ⟨0x400008, 4, 1, 0, 0, 0, .never⟩ -- memDdrSizeLo
  , ⟨0x40000C, 4, 1, 0, 0, 0, .never⟩ -- memDdrSizeHi
  , ⟨0x400010, 4, 1, 0, 0, 0xC0000000, .ncJob0⟩ -- memCistBaseLo
  , ⟨0x400014, 4, 1, 0, 0, 0xFFFF, .ncJob0⟩ -- memCistBaseHi
  , ⟨0x400018, 4, 1, 0, 0, 0x3F, .ncJob0⟩ -- memCistSize
  , ⟨0x401000, 0x100, 4, 0, 0, 0, .never⟩ -- ddrStat
  , ⟨0x401004, 0x100, 4, 0, 0, 0, .never⟩ -- ddrRetries
  , ⟨0x401008, 0x100, 4, 0, 0, 0, .never⟩ -- ddrRdErr
  , ⟨0x40100C, 0x100, 4, 0, 0, 0, .never⟩ -- ddrParErr
  , ⟨0x401010, 0x100, 4, 0, 0, 0, .never⟩ -- ddrAbcErr
  , ⟨0x408000, 4, 1, 0xFF, 0, 0xFFFF, .ncJob0⟩ -- scWaymask0
  , ⟨0x408004, 4, 1, 0xF00, 0, 0xFFFF, .ncJob0⟩ -- scWaymask1
  , ⟨0x408008, 4, 1, 0xF00, 0, 0xFFFF, .ncJob0⟩ -- scWaymask2
  , ⟨0x40800C, 4, 1, 0xF000, 0, 0xFFFF, .ncJob0⟩ -- scWaymask3
  , ⟨0x408010, 4, 1, 0xF0, 0, 0xFFFF, .ncJob0⟩ -- scWaymask4
  , ⟨0x408014, 4, 1, 0xF, 0, 0xFFFF, .ncJob0⟩ -- scWaymask5
  , ⟨0x408018, 4, 1, 0x10, 0, 0x3F, .ncJob0⟩ -- scPfCtl
  , ⟨0x40801C, 4, 1, 0, 0, 0, .never⟩ -- scPinned
  , ⟨0x408020, 4, 1, 0, 0, 0, .never⟩ -- scHitsLo
  , ⟨0x408024, 4, 1, 0, 0, 0, .never⟩ -- scHitsHi
  , ⟨0x408028, 4, 1, 0, 0, 0, .never⟩ -- scMissesLo
  , ⟨0x40802C, 4, 1, 0, 0, 0, .never⟩ -- scMissesHi
  ]

/-- R324, part 2. -/
def rowsMemory2 : List RegRow :=
  [ ⟨0x408030, 4, 1, 0, 0, 0, .never⟩ -- scPfIssued
  , ⟨0x408034, 4, 1, 0, 0, 0, .never⟩ -- scPfUseful
  , ⟨0x408038, 4, 1, 0, 0, 0, .never⟩ -- scPinMisses
  , ⟨0x409000, 4, 4, 0xFFFFFFFF, 0xFFFFFFFF, 0, .never⟩ -- pondPwr
  , ⟨0x409010, 4, 4, 0xFFFFFFFF, 0, 0, .never⟩ -- pondState
  , ⟨0x409020, 4, 1, 0, 0xFFFFFFFF, 0, .never⟩ -- pondNapkeepLo
  , ⟨0x409024, 4, 1, 0, 0xFFFFFFFF, 0, .never⟩ -- pondNapkeepHi
  , ⟨0x409028, 4, 1, 0, 0, 0, .never⟩ -- pondOffacc
  , ⟨0x40902C, 4, 1, 0, 0, 0, .never⟩ -- pondRefused
  , ⟨0x409030, 4, 1, 0, 0, 0, .never⟩ -- pondMisalign
  , ⟨0x409034, 4, 1, 0, 0, 0, .never⟩ -- pondAtomics
  ]

/-- R324. -/
def rowsMemory : List RegRow := rowsMemory1 ++ rowsMemory2

/-- R475, part 1. -/
def rowsSecurity1 : List RegRow :=
  [ ⟨0x500000, 4, 1, 3, 0, 0, .never⟩ -- secLc
  , ⟨0x500004, 4, 1, 0, 4, 0, .never⟩ -- secBootCtl
  , ⟨0x500008, 4, 1, 0, 0, 0, .never⟩ -- secBootStat
  , ⟨0x50000C, 4, 1, 0, 0, 0, .never⟩ -- secBootMs
  , ⟨0x500010, 4, 1, 0, 0, 0xFFFFFFC0, .bootStep⟩ -- secFwBaseLo
  , ⟨0x500014, 4, 1, 0, 0, 0xFFFFFFFF, .bootStep⟩ -- secFwBaseHi
  , ⟨0x500018, 4, 1, 0, 0, 0xFFFFFFFF, .bootStep⟩ -- secFwLen
  , ⟨0x50001C, 4, 1, 0, 0, 0xFFFFFFC0, .jrnlBusy⟩ -- secJrnlBaseLo
  , ⟨0x500020, 4, 1, 0, 0, 0xFFFFFFFF, .jrnlBusy⟩ -- secJrnlBaseHi
  , ⟨0x500024, 4, 1, 0, 0, 0xFFFFFFFF, .jrnlBusy⟩ -- secJrnlCap
  , ⟨0x500028, 4, 1, 0, 0, 0, .never⟩ -- secJrnlSeq
  , ⟨0x50002C, 4, 1, 0, 0, 0, .never⟩ -- secJrnlStat
  , ⟨0x500030, 4, 1, 0, 0, 0, .never⟩ -- secRun
  , ⟨0x500034, 4, 1, 0, 0, 0, .never⟩ -- secWarmCount
  , ⟨0x500040, 4, 1, 0, 0, 0, .never⟩ -- secSvn
  , ⟨0x500044, 4, 1, 0, 0, 0, .never⟩ -- secSvnCommit
  , ⟨0x500048, 4, 1, 0, 0, 0, .never⟩ -- secKeyslot
  , ⟨0x500050, 4, 1, 0, 7, 0, .never⟩ -- secLcCtl
  , ⟨0x500054, 4, 1, 0, 0xFFFFFFFF, 0, .never⟩ -- secLcTokenLo
  , ⟨0x500058, 4, 1, 0, 0xFFFFFFFF, 0, .never⟩ -- secLcTokenHi
  , ⟨0x50005C, 4, 1, 0, 0, 0, .never⟩ -- secLcStat
  , ⟨0x500060, 4, 1, 0, 0, 0, .never⟩ -- secTamper
  , ⟨0x500064, 4, 1, 0, 0, 0, .never⟩ -- secTampers
  , ⟨0x500068, 4, 1, 0, 0, 0, .never⟩ -- secFwRejects
  ]

/-- R475, part 2. -/
def rowsSecurity2 : List RegRow :=
  [ ⟨0x500080, 4, 8, 0, 0, 0, .never⟩ -- secIdPk
  , ⟨0x5000A0, 4, 8, 0, 0xFFFFFFFF, 0, .attBusy⟩ -- secAttNonce
  , ⟨0x5000C0, 4, 1, 0, 0xFFFFFFFF, 0, .never⟩ -- secAttDstLo
  , ⟨0x5000C4, 4, 1, 0, 0xFFFFFFFF, 0, .never⟩ -- secAttDstHi
  , ⟨0x5000C8, 4, 1, 0, 0, 0, .never⟩ -- secAttCtl
  , ⟨0x5000CC, 4, 1, 0, 0, 0, .never⟩ -- secAttStat
  , ⟨0x5000D0, 4, 1, 0, 0, 0, .never⟩ -- secAttSeq
  , ⟨0x5000D4, 4, 1, 0, 0, 0, .never⟩ -- secAttIgnored
  , ⟨0x5000E0, 4, 4, 0, 0, 0, .never⟩ -- secQualBiterr
  ]

/-- R475. -/
def rowsSecurity : List RegRow := rowsSecurity1 ++ rowsSecurity2

/-- The table of the block that holds an offset (R351); nothing for an unassigned block. -/
def rowsAt (a : Nat) : List RegRow :=
  if a < 0x10000 then rowsGlobal else if a < 0x20000 then rowsMailbox else if a < 0x30000 then rowsPower
  else if a < 0x40000 then rowsTimebase else if a < 0x50000 then rowsErrors else if a < 0x60000 then rowsIntake
  else if a < 0x70000 then rowsSentinel else if a < 0x80000 then [] else if a < 0x100000 then rowsConduit
  else if a < 0x200000 then rowsFlume else if a < 0x300000 then rowsMillrace else if a < 0x400000 then rowsLeat
  else if a < 0x500000 then rowsMemory else if a < 0x600000 then rowsSecurity else []

/-- All 256 NC windows address the same fabric registers (R248, R273): offsets 0x600-0x6FF read in window 0. -/
def canonReg (a : Nat) : Nat :=
  if 0x200000 ≤ a ∧ a < 0x300000 ∧ 0x600 ≤ a % 0x1000 ∧ a % 0x1000 < 0x700 then 0x200000 + a % 0x1000 else a

/-- The offset at which the table of its block lists a register: an NC window's registers are listed for window 0. -/
def tableReg (a : Nat) : Nat := if 0x200000 ≤ a ∧ a < 0x300000 then 0x200000 + a % 0x1000 else a

/-- A row holds an offset. -/
def RegRow.holds (r : RegRow) (a : Nat) : Bool :=
  decide (r.base ≤ a) && (a - r.base) % r.stride == 0 && decide ((a - r.base) / r.stride < r.count)

/-- The row of a register, if the manual assigns one to the offset. -/
def findReg (a : Nat) : Option RegRow := (rowsAt a).find? (fun r => r.holds (tableReg a))

/-- The value a register holds at whole-device reset, before the fuses are read (R10 and each table's Reset column). -/
def regReset (a : Nat) : Word :=
  match findReg a with
  | some r => BitVec.ofNat 32 r.reset
  | none => 0

end Sys2Proof.Machine
end

