-- ==== Sys2Proof/Machine/RegNames.lean ====
section
/-! DEFINITION. The BAR0 offset of every register, under the manual's name; an index is the n, m, p, r, c, g, d, k or v of
the manual. A register of an NC window takes the window first (R187); the fabric registers stand in window 0 (R248). -/

namespace Sys2Proof.Machine.Reg

/-! R7, R361, R382, R455 -/
abbrev glbIdent : Nat := 0
abbrev glbVariant : Nat := 4
abbrev glbReset : Nat := 8
abbrev glbResetBad : Nat := 0xC
abbrev glbContention : Nat := 0x10
abbrev glbBadacc : Nat := 0x14
abbrev glbFencedAcc : Nat := 0x18
abbrev hifStat : Nat := 0x20
abbrev hifBar2BaseLo : Nat := 0x24
abbrev hifBar2BaseHi : Nat := 0x28
abbrev hifBmeHeld : Nat := 0x2C
abbrev hifPoisonRx : Nat := 0x30
abbrev hifResets : Nat := 0x34
abbrev hifBar2Ca : Nat := 0x38
abbrev sbPecErr : Nat := 0x3C
abbrev sbCtl : Nat := 0x40
abbrev sbStat : Nat := 0x44
abbrev sbTimeouts : Nat := 0x48
abbrev sbWakes : Nat := 0x4C
abbrev hifResetDiscards : Nat := 0x50
abbrev msixAddrLo (n : Nat) : Nat := 0x8000 + 0x10 * n
abbrev msixAddrHi (n : Nat) : Nat := 0x8004 + 0x10 * n
abbrev msixData (n : Nat) : Nat := 0x8008 + 0x10 * n
abbrev msixCtl (n : Nat) : Nat := 0x800C + 0x10 * n
abbrev msixPba (n : Nat) : Nat := 0x9000 + 4 * n
abbrev intVecCount (n : Nat) : Nat := 0xA000 + 8 * n
abbrev intVecSeen (n : Nat) : Nat := 0xA004 + 8 * n

/-! R383, R405 -/
abbrev h2mData (n : Nat) : Nat := 0x10000 + 0x10 * n
abbrev h2mStatus (n : Nat) : Nat := 0x10004 + 0x10 * n
abbrev h2mAck (n : Nat) : Nat := 0x10008 + 0x10 * n
abbrev m2hData (n : Nat) : Nat := 0x10200 + 0x10 * n
abbrev m2hStatus (n : Nat) : Nat := 0x10204 + 0x10 * n
abbrev m2hAck (n : Nat) : Nat := 0x10208 + 0x10 * n
abbrev mbxLock (n : Nat) : Nat := 0x10400 + 4 * n
abbrev mbxDenied : Nat := 0x10480
abbrev mbxOverwrite : Nat := 0x10484
abbrev mbxAborts : Nat := 0x10488
abbrev mbxBadrel : Nat := 0x1048C
abbrev vciStat : Nat := 0x10490
abbrev vciEvtSeq : Nat := 0x10494
abbrev vciScans : Nat := 0x10498
abbrev vciSuperseded : Nat := 0x1049C
abbrev vciRefused : Nat := 0x104A0
abbrev vciOrphanCpl : Nat := 0x104A4
abbrev vciEvtLost : Nat := 0x104A8
abbrev vciNaks : Nat := 0x104AC
abbrev vciArgs (n : Nat) : Nat := 0x10800 + 4 * n
abbrev vciRess (n : Nat) : Nat := 0x11000 + 4 * n

/-! R433, R499 -/
abbrev pwrStat : Nat := 0x20000
abbrev pwrCtl : Nat := 0x20004
abbrev pwrIdleTmo : Nat := 0x20008
abbrev pwrNapTmo : Nat := 0x2000C
abbrev pwrSentTmo : Nat := 0x20010
abbrev pwrWakeEn : Nat := 0x20014
abbrev pwrWakeCause : Nat := 0x20018
abbrev pwrPadHold : Nat := 0x2001C
abbrev pwrCap : Nat := 0x20020
abbrev pwrEst : Nat := 0x20024
abbrev pwrEstPeak : Nat := 0x20028
abbrev pwrGovCtl : Nat := 0x2002C
abbrev pwrFlumeMhz : Nat := 0x20030
abbrev pwrRaceMhz : Nat := 0x20034
abbrev pwrApcMhz : Nat := 0x20038
abbrev pwrIdleEntries : Nat := 0x20040
abbrev pwrNapEntries : Nat := 0x20044
abbrev pwrSentEntries : Nat := 0x20048
abbrev pwrAborts : Nat := 0x2004C
abbrev pwrWakes : Nat := 0x20050
abbrev pwrThrottleSteps : Nat := 0x20054
abbrev pwrThermalMs : Nat := 0x20058
abbrev pwrPadMismatch : Nat := 0x2005C
abbrev pwrAvs : Nat := 0x20080
abbrev pwrAvsErrs : Nat := 0x20084
abbrev pwrTj : Nat := 0x20088
abbrev pwrTjMax : Nat := 0x2008C
abbrev pwrTlim : Nat := 0x20090
abbrev pwrSupplyStat : Nat := 0x20094
abbrev pwrTrips : Nat := 0x20098

/-! R62, R296 -/
abbrev tbCtl : Nat := 0x30000
abbrev tbStat : Nat := 0x30004
abbrev tbCap : Nat := 0x30008
abbrev tbCapLo : Nat := 0x3000C
abbrev tbCapHi : Nat := 0x30010
abbrev tbCapFine : Nat := 0x30014
abbrev tbTbcLo : Nat := 0x30018
abbrev tbTbcHi : Nat := 0x3001C
abbrev tbFreqAdj : Nat := 0x30020
abbrev tbPpsPhase : Nat := 0x30024
abbrev tbPpsCapLo : Nat := 0x30028
abbrev tbPpsCapHi : Nat := 0x3002C
abbrev tbPpsCapFine : Nat := 0x30030
abbrev tbPpsSeq : Nat := 0x30034
abbrev tbLoadLo : Nat := 0x30038
abbrev tbLoadHi : Nat := 0x3003C
abbrev tbLoad : Nat := 0x30040
abbrev tbHoldEntries : Nat := 0x30044
abbrev tbSyncOffset : Nat := 0x30048
abbrev tbSyncDelay : Nat := 0x3004C
abbrev tbAsym (n : Nat) : Nat := 0x30050 + 4 * n
abbrev tbPpso : Nat := 0x30060
abbrev tbClko : Nat := 0x30064
abbrev tbLoadCancels : Nat := 0x30068
abbrev sysCtl (n : Nat) : Nat := 0x30100 + 0x20 * n
abbrev sysPeriod (n : Nat) : Nat := 0x30104 + 0x20 * n
abbrev sysPhase (n : Nat) : Nat := 0x30108 + 0x20 * n
abbrev sysGap (n : Nat) : Nat := 0x3010C + 0x20 * n
abbrev sysDly (n : Nat) : Nat := 0x30110 + 0x20 * n
abbrev sysStat (n : Nat) : Nat := 0x30114 + 0x20 * n
abbrev sysPulses (n : Nat) : Nat := 0x30118 + 0x20 * n
abbrev sysIgnored (n : Nat) : Nat := 0x3011C + 0x20 * n
abbrev tbcmpLo (n : Nat) : Nat := 0x30200 + 0x10 * n
abbrev tbcmpHi (n : Nat) : Nat := 0x30204 + 0x10 * n
abbrev tbcmpCtl (n : Nat) : Nat := 0x30208 + 0x10 * n
abbrev tbcmpStat (n : Nat) : Nat := 0x3020C + 0x10 * n
abbrev gtCtl (n : Nat) : Nat := 0x30400 + 0x20 * n
abbrev gtCnt (n : Nat) : Nat := 0x30404 + 0x20 * n
abbrev gtCmp (n : Nat) : Nat := 0x30408 + 0x20 * n
abbrev gtAct (n : Nat) : Nat := 0x3040C + 0x20 * n
abbrev gtStat (n : Nat) : Nat := 0x30410 + 0x20 * n
abbrev gtMatches (n : Nat) : Nat := 0x30414 + 0x20 * n
abbrev gtOvfs (n : Nat) : Nat := 0x30418 + 0x20 * n
abbrev trgoCtl (n : Nat) : Nat := 0x30800 + 0x20 * n
abbrev trgoTime (n : Nat) : Nat := 0x30804 + 0x20 * n
abbrev trgoCapLo (n : Nat) : Nat := 0x30808 + 0x20 * n
abbrev trgoCapHi (n : Nat) : Nat := 0x3080C + 0x20 * n
abbrev trgoSeq (n : Nat) : Nat := 0x30810 + 0x20 * n
abbrev trgoSuppressed (n : Nat) : Nat := 0x30814 + 0x20 * n
abbrev trgiCtl (n : Nat) : Nat := 0x30900 + 0x20 * n
abbrev trgiMask (n : Nat) : Nat := 0x30904 + 0x20 * n
abbrev trgiAxon (n : Nat) : Nat := 0x30908 + 0x20 * n
abbrev trgiCapLo (n : Nat) : Nat := 0x3090C + 0x20 * n
abbrev trgiCapHi (n : Nat) : Nat := 0x30910 + 0x20 * n
abbrev trgiCapFine (n : Nat) : Nat := 0x30914 + 0x20 * n
abbrev trgiSeq (n : Nat) : Nat := 0x30918 + 0x20 * n
abbrev trgLinePulses (n : Nat) : Nat := 0x30A00 + 4 * n

/-! R454 -/
abbrev errStat : Nat := 0x40000
abbrev errAppends : Nat := 0x40004
abbrev errXresetDrops : Nat := 0x40008
abbrev errPendNc (n : Nat) : Nat := 0x40010 + 4 * n
abbrev errPendOther : Nat := 0x40030
abbrev errSel : Nat := 0x40040
abbrev errWr : Nat := 0x40044
abbrev errHnd : Nat := 0x40048
abbrev errLost : Nat := 0x4004C
abbrev errUstat : Nat := 0x40050
abbrev errEntSel : Nat := 0x40054
abbrev errEnt (n : Nat) : Nat := 0x40058 + 4 * n
abbrev errCnt (n : Nat) : Nat := 0x40068 + 4 * n
abbrev drgCtl : Nat := 0x40100
abbrev drgSel : Nat := 0x40104
abbrev drgLap : Nat := 0x40108
abbrev drgAge : Nat := 0x4010C
abbrev drgLaps : Nat := 0x40110
abbrev drgFound : Nat := 0x40114
abbrev drgDdrRate : Nat := 0x40118
abbrev drgGoldenErr : Nat := 0x4011C

/-! R85 -/
abbrev intkLanesUp : Nat := 0x50000
abbrev intkLinksUp : Nat := 0x50004
abbrev intkOpenLo : Nat := 0x50008
abbrev intkOpenHi : Nat := 0x5000C
abbrev intkHbCoef (n : Nat) : Nat := 0x50010 + 4 * n
abbrev intkLaneCfg (n : Nat) : Nat := 0x50100 + 0x10 * n
abbrev intkLaneStat (n : Nat) : Nat := 0x50104 + 0x10 * n
abbrev intkLaneSherr (n : Nat) : Nat := 0x50108 + 0x10 * n
abbrev intkLaneCrcerr (n : Nat) : Nat := 0x5010C + 0x10 * n
abbrev intkLinkCfg (n : Nat) : Nat := 0x50400 + 0x40 * n
abbrev intkLinkCtl (n : Nat) : Nat := 0x50404 + 0x40 * n
abbrev intkLinkStat (n : Nat) : Nat := 0x50408 + 0x40 * n
abbrev intkLinkLat (n : Nat) : Nat := 0x5040C + 0x40 * n
abbrev intkLinkLatExp (n : Nat) : Nat := 0x50410 + 0x40 * n
abbrev intkLinkAdcLat (n : Nat) : Nat := 0x50414 + 0x40 * n
abbrev intkLinkSper (n : Nat) : Nat := 0x50418 + 0x40 * n
abbrev intkLinkRealigns (n : Nat) : Nat := 0x5041C + 0x40 * n
abbrev intkLinkSysrefMiss (n : Nat) : Nat := 0x50420 + 0x40 * n
abbrev intkLinkEbErr (n : Nat) : Nat := 0x50424 + 0x40 * n
abbrev intkLinkCrcBlocks (n : Nat) : Nat := 0x50428 + 0x40 * n
abbrev intkStrCtl (n : Nat) : Nat := 0x51000 + 0x100 * n
abbrev intkStrFtwLo (n : Nat) : Nat := 0x51004 + 0x100 * n
abbrev intkStrFtwHi (n : Nat) : Nat := 0x51008 + 0x100 * n
abbrev intkStrSrc (n : Nat) : Nat := 0x5100C + 0x100 * n
abbrev intkStrDec (n : Nat) : Nat := 0x51010 + 0x100 * n
abbrev intkStrFrame (n : Nat) : Nat := 0x51014 + 0x100 * n
abbrev intkStrBufLo (n : Nat) : Nat := 0x51018 + 0x100 * n
abbrev intkStrBufHi (n : Nat) : Nat := 0x5101C + 0x100 * n
abbrev intkStrBufCfg (n : Nat) : Nat := 0x51020 + 0x100 * n
abbrev intkStrLat (n : Nat) : Nat := 0x51024 + 0x100 * n
abbrev intkStrGd (n : Nat) : Nat := 0x51028 + 0x100 * n
abbrev intkStrStat (n : Nat) : Nat := 0x5102C + 0x100 * n
abbrev intkStrFrames (n : Nat) : Nat := 0x51030 + 0x100 * n
abbrev intkStrDropped (n : Nat) : Nat := 0x51034 + 0x100 * n
abbrev intkStrLost (n : Nat) : Nat := 0x51038 + 0x100 * n
abbrev intkStrSat (n : Nat) : Nat := 0x5103C + 0x100 * n
abbrev intkStrFrameNo (n : Nat) : Nat := 0x51040 + 0x100 * n
abbrev intkStrFir (n : Nat) : Nat := 0x58000 + 4 * n

/-! R434 -/
abbrev senCtl : Nat := 0x60000
abbrev senStat : Nat := 0x60004
abbrev senSdiCfg : Nat := 0x60008
abbrev senTick : Nat := 0x6000C
abbrev senSamples : Nat := 0x60010
abbrev senOvr : Nat := 0x60014
abbrev senBqSat : Nat := 0x60018
abbrev senTickLong : Nat := 0x6001C
abbrev senSpikes : Nat := 0x60020
abbrev senBadWord : Nat := 0x60024
abbrev senWakes : Nat := 0x60028
abbrev senLogCount : Nat := 0x6002C
abbrev senMemAddr : Nat := 0x60030
abbrev senMemData : Nat := 0x60034
abbrev senBqB0 (n : Nat) : Nat := 0x60100 + 0x20 * n
abbrev senBqB1 (n : Nat) : Nat := 0x60104 + 0x20 * n
abbrev senBqB2 (n : Nat) : Nat := 0x60108 + 0x20 * n
abbrev senBqA1 (n : Nat) : Nat := 0x6010C + 0x20 * n
abbrev senBqA2 (n : Nat) : Nat := 0x60110 + 0x20 * n
abbrev senBqCfg (n : Nat) : Nat := 0x60114 + 0x20 * n
abbrev senEnvCfg (n : Nat) : Nat := 0x60200 + 0x10 * n
abbrev senEnvVal (n : Nat) : Nat := 0x60204 + 0x10 * n
abbrev senRuleCond (n : Nat) : Nat := 0x60400 + 0x10 * n
abbrev senRuleLvl (n : Nat) : Nat := 0x60404 + 0x10 * n
abbrev senRuleAct (n : Nat) : Nat := 0x60408 + 0x10 * n
abbrev senRuleFired (n : Nat) : Nat := 0x6040C + 0x10 * n
abbrev senLogSel : Nat := 0x60800
abbrev senLogTbcLo : Nat := 0x60804
abbrev senLogTbcHi : Nat := 0x60808
abbrev senLogInfo : Nat := 0x6080C
abbrev senLogTick : Nat := 0x60810

/-! R384 -/
abbrev cdCtl (n : Nat) : Nat := 0x80000 + 0x40 * n
abbrev cdStat (n : Nat) : Nat := 0x80004 + 0x40 * n
abbrev cdRingLo (n : Nat) : Nat := 0x80008 + 0x40 * n
abbrev cdRingHi (n : Nat) : Nat := 0x8000C + 0x40 * n
abbrev cdCplLo (n : Nat) : Nat := 0x80010 + 0x40 * n
abbrev cdCplHi (n : Nat) : Nat := 0x80014 + 0x40 * n
abbrev cdSize (n : Nat) : Nat := 0x80018 + 0x40 * n
abbrev cdHead (n : Nat) : Nat := 0x8001C + 0x40 * n
abbrev cdCplrd (n : Nat) : Nat := 0x80020 + 0x40 * n
abbrev cdTail (n : Nat) : Nat := 0x80024 + 0x40 * n
abbrev cdCplwr (n : Nat) : Nat := 0x80028 + 0x40 * n
abbrev cdDone (n : Nat) : Nat := 0x8002C + 0x40 * n
abbrev cdErrs (n : Nat) : Nat := 0x80030 + 0x40 * n
abbrev hrCtl (n : Nat) : Nat := 0x80800 + 0x40 * n
abbrev hrBaseLo (n : Nat) : Nat := 0x80804 + 0x40 * n
abbrev hrBaseHi (n : Nat) : Nat := 0x80808 + 0x40 * n
abbrev hrSize (n : Nat) : Nat := 0x8080C + 0x40 * n
abbrev hrWr (n : Nat) : Nat := 0x80810 + 0x40 * n
abbrev hrRd (n : Nat) : Nat := 0x80814 + 0x40 * n
abbrev hrWrbackLo (n : Nat) : Nat := 0x80818 + 0x40 * n
abbrev hrWrbackHi (n : Nat) : Nat := 0x8081C + 0x40 * n
abbrev hrRefused (n : Nat) : Nat := 0x80820 + 0x40 * n

/-! R115, R185, R295 -/
abbrev flmCtl : Nat := 0x100000
abbrev flmStat : Nat := 0x100004
abbrev flmEccLo : Nat := 0x100008
abbrev flmEccHi : Nat := 0x10000C
abbrev flmWaitLo : Nat := 0x100010
abbrev flmWaitHi : Nat := 0x100014
abbrev flmAdmits : Nat := 0x100018
abbrev flmBubbles : Nat := 0x10001C
abbrev flmInflight : Nat := 0x100020
abbrev flmL : Nat := 0x100024
abbrev flmII : Nat := 0x100028
abbrev flmFaultCell : Nat := 0x100030
abbrev flmFaultCause : Nat := 0x100034
abbrev flmFaultEccLo : Nat := 0x100038
abbrev flmFaultEccHi : Nat := 0x10003C
abbrev flmFaultCells : Nat := 0x100040
abbrev flmFaultCount (n : Nat) : Nat := 0x100044 + 4 * n
abbrev flmColmap (n : Nat) : Nat := 0x100060 + 4 * n
abbrev flmCellSel : Nat := 0x100070
abbrev flmCellStat : Nat := 0x100074
abbrev flmCellOcc : Nat := 0x100078
abbrev flmCellOrphans : Nat := 0x10007C
abbrev flmCellFaultEccLo : Nat := 0x100080
abbrev flmCellFaultEccHi : Nat := 0x100084
abbrev flmEpoch : Nat := 0x100100
abbrev flmEpochCtl : Nat := 0x100104
abbrev flmEpochStat : Nat := 0x100108
abbrev flmSwaps : Nat := 0x10010C
abbrev flmSwapsIgnored : Nat := 0x100110
abbrev flmLadderCtl : Nat := 0x100114
abbrev flmLadderStat : Nat := 0x100118
abbrev flmMisfits : Nat := 0x10011C
abbrev flmReruns : Nat := 0x100120
abbrev flmUncals : Nat := 0x100124
abbrev flmRerunFull : Nat := 0x100128
abbrev flmGhistSel : Nat := 0x100130
abbrev flmGhist (n : Nat) : Nat := 0x100140 + 4 * n
abbrev gaugeCfg (n : Nat) : Nat := 0x100200 + 0x20 * n
abbrev gaugeBounds (n : Nat) : Nat := 0x100204 + 0x20 * n
abbrev gaugeEma (n : Nat) : Nat := 0x100208 + 0x20 * n
abbrev gaugeLast (n : Nat) : Nat := 0x10020C + 0x20 * n
abbrev gaugeStat (n : Nat) : Nat := 0x100210 + 0x20 * n
abbrev gaugeFrames (n : Nat) : Nat := 0x100214 + 0x20 * n
abbrev lgCfg (n : Nat) : Nat := 0x100C00 + 0x10 * n
abbrev lgMisfits (n : Nat) : Nat := 0x100C04 + 0x10 * n
abbrev lgUncals (n : Nat) : Nat := 0x100C08 + 0x10 * n
abbrev lgDrifts (n : Nat) : Nat := 0x100C0C + 0x10 * n
abbrev jnCtl : Nat := 0x108000
abbrev jnStat : Nat := 0x108004
abbrev jnInjected : Nat := 0x108008
abbrev jnEvents : Nat := 0x10800C
abbrev jnRecords : Nat := 0x108010
abbrev jnInjWaits : Nat := 0x108014
abbrev jnClips : Nat := 0x108018
abbrev jnWsat : Nat := 0x10801C
abbrev jnGatherTrunc : Nat := 0x108020
abbrev jnRqBaseLo : Nat := 0x108024
abbrev jnRqBaseHi : Nat := 0x108028
abbrev jnRqCfg : Nat := 0x10802C
abbrev jnRqWr : Nat := 0x108030
abbrev jnRqRd : Nat := 0x108034
abbrev jnLedgerBaseLo : Nat := 0x108038
abbrev jnLedgerBaseHi : Nat := 0x10803C
abbrev jnLedgerCfg : Nat := 0x108040
abbrev jnWsel : Nat := 0x108044
abbrev jnWlive : Nat := 0x108048
abbrev jnWlast : Nat := 0x10804C
abbrev jnHwseq : Nat := 0x108050
abbrev jnRqSkip : Nat := 0x108054
abbrev jnRqLost : Nat := 0x108058

/-! R216, R247, R248, R272, R273, R454 -/
abbrev ncCtl (w : Nat) : Nat := 0x200000 + 0x1000 * w
abbrev ncStat (w : Nat) : Nat := 0x200004 + 0x1000 * w
abbrev ncMap (w : Nat) : Nat := 0x200008 + 0x1000 * w
abbrev ncTick (w : Nat) : Nat := 0x20000C + 0x1000 * w
abbrev ncMemCfg (w : Nat) : Nat := 0x200010 + 0x1000 * w
abbrev ncDirty (w : Nat) : Nat := 0x200014 + 0x1000 * w
abbrev ncMissq (w : Nat) : Nat := 0x200018 + 0x1000 * w
abbrev ncSopsLo (w : Nat) : Nat := 0x200020 + 0x1000 * w
abbrev ncSopsHi (w : Nat) : Nat := 0x200024 + 0x1000 * w
abbrev ncSpikes (w : Nat) : Nat := 0x200028 + 0x1000 * w
abbrev ncSaturate (w : Nat) : Nat := 0x20002C + 0x1000 * w
abbrev ncRefDrops (w : Nat) : Nat := 0x200030 + 0x1000 * w
abbrev ncVsat (w : Nat) : Nat := 0x200034 + 0x1000 * w
abbrev ncLate (w : Nat) : Nat := 0x200038 + 0x1000 * w
abbrev ncEarly (w : Nat) : Nat := 0x20003C + 0x1000 * w
abbrev ncBadAxon (w : Nat) : Nat := 0x200040 + 0x1000 * w
abbrev ncMarkerUpd (w : Nat) : Nat := 0x200044 + 0x1000 * w
abbrev ncTrigPulses (w : Nat) : Nat := 0x200048 + 0x1000 * w
abbrev ncCistHits (w : Nat) : Nat := 0x20004C + 0x1000 * w
abbrev ncCistMisses (w : Nat) : Nat := 0x200050 + 0x1000 * w
abbrev ncCistLatMax (w : Nat) : Nat := 0x200054 + 0x1000 * w
abbrev ncHintsTx (w : Nat) : Nat := 0x200058 + 0x1000 * w
abbrev ncHintsRx (w : Nat) : Nat := 0x20005C + 0x1000 * w
abbrev ncHintFetches (w : Nat) : Nat := 0x200060 + 0x1000 * w
abbrev ncHintUnused (w : Nat) : Nat := 0x200064 + 0x1000 * w
abbrev ncHintDrops (w : Nat) : Nat := 0x200068 + 0x1000 * w
abbrev ncWritebacks (w : Nat) : Nat := 0x20006C + 0x1000 * w
abbrev ncNsel (w : Nat) : Nat := 0x200070 + 0x1000 * w
abbrev ncNsnapStat (w : Nat) : Nat := 0x200074 + 0x1000 * w
abbrev ncNsnap (w n : Nat) : Nat := 0x200078 + 0x1000 * w + 4 * n
abbrev ncNresets (w : Nat) : Nat := 0x20008C + 0x1000 * w
abbrev lrnCtl (w n : Nat) : Nat := 0x200100 + 0x1000 * w + 0x20 * n
abbrev lrnStruct (w n : Nat) : Nat := 0x200104 + 0x1000 * w + 0x20 * n
abbrev lrnRwdCfg (w n : Nat) : Nat := 0x200108 + 0x1000 * w + 0x20 * n
abbrev lrnReward (w n : Nat) : Nat := 0x20010C + 0x1000 * w + 0x20 * n
abbrev lrnR (w n : Nat) : Nat := 0x200110 + 0x1000 * w + 0x20 * n
abbrev lrnUpdates (w n : Nat) : Nat := 0x200114 + 0x1000 * w + 0x20 * n
abbrev lrnStat (w : Nat) : Nat := 0x200200 + 0x1000 * w
abbrev lrnPeq (w : Nat) : Nat := 0x200204 + 0x1000 * w
abbrev lrnUq (w : Nat) : Nat := 0x200208 + 0x1000 * w
abbrev lrnEtickHi (w : Nat) : Nat := 0x20020C + 0x1000 * w
abbrev lrnPrunes (w : Nat) : Nat := 0x200210 + 0x1000 * w
abbrev lrnSprouts (w : Nat) : Nat := 0x200214 + 0x1000 * w
abbrev lrnSproutNoslot (w : Nat) : Nat := 0x200218 + 0x1000 * w
abbrev lrnSproutLost (w : Nat) : Nat := 0x20021C + 0x1000 * w
abbrev lrnFreeUpd (w : Nat) : Nat := 0x200220 + 0x1000 * w
abbrev lrnHoldCycles (w : Nat) : Nat := 0x200224 + 0x1000 * w
abbrev lrnTsel (w : Nat) : Nat := 0x200230 + 0x1000 * w
abbrev lrnTdata (w : Nat) : Nat := 0x200234 + 0x1000 * w
abbrev rtWin (w : Nat) : Nat := 0x200400 + 0x1000 * w
abbrev rtStat (w : Nat) : Nat := 0x200404 + 0x1000 * w
abbrev rtPond (w : Nat) : Nat := 0x200408 + 0x1000 * w
abbrev rtWsel (w : Nat) : Nat := 0x20040C + 0x1000 * w
abbrev rtWstat (w : Nat) : Nat := 0x200410 + 0x1000 * w
abbrev rtInjected (w : Nat) : Nat := 0x200414 + 0x1000 * w
abbrev rtDelivered (w : Nat) : Nat := 0x200418 + 0x1000 * w
abbrev rtUndeliv (w : Nat) : Nat := 0x20041C + 0x1000 * w
abbrev rtBranchWaits (w : Nat) : Nat := 0x200420 + 0x1000 * w
abbrev rtCplStale (w : Nat) : Nat := 0x200424 + 0x1000 * w
abbrev rtGrpInvalid (w : Nat) : Nat := 0x200428 + 0x1000 * w
abbrev rtPondDiscards (w : Nat) : Nat := 0x20042C + 0x1000 * w
abbrev rtPondMax (w : Nat) : Nat := 0x200430 + 0x1000 * w
abbrev rtReplMax (w : Nat) : Nat := 0x200434 + 0x1000 * w
abbrev rtWinWaits (w : Nat) : Nat := 0x200438 + 0x1000 * w
abbrev rtHintWaits (w : Nat) : Nat := 0x20043C + 0x1000 * w
abbrev rtGrpCtl (w n : Nat) : Nat := 0x200500 + 0x1000 * w + 0x10 * n
abbrev rtGrpRow (w n : Nat) : Nat := 0x200504 + 0x1000 * w + 0x10 * n
abbrev rtGrpCol (w n : Nat) : Nat := 0x200508 + 0x1000 * w + 0x10 * n
abbrev mrCtl : Nat := 0x200600
abbrev mrTickLen : Nat := 0x200604
abbrev mrBarLead : Nat := 0x200608
abbrev mrDevid : Nat := 0x20060C
abbrev mrStat : Nat := 0x200610
abbrev mrTick : Nat := 0x200614
abbrev mrTstartLo : Nat := 0x200618
abbrev mrTstartHi : Nat := 0x20061C
abbrev mrSlip : Nat := 0x200620
abbrev mrCplBatch : Nat := 0x200624
abbrev mrOverdueTicks : Nat := 0x200628
abbrev mrStretchQuanta : Nat := 0x20062C
abbrev mrForced : Nat := 0x200630
abbrev mrCloseLate : Nat := 0x200634
abbrev mrDups : Nat := 0x200638
abbrev mrLandErr : Nat := 0x20063C
abbrev mrHintLandDrops : Nat := 0x200640
abbrev mrBadClass : Nat := 0x200644
abbrev mrDrains : Nat := 0x200648
abbrev mrTlogSel : Nat := 0x200650
abbrev mrTlogTick : Nat := 0x200654
abbrev mrTlogAtLo : Nat := 0x200658
abbrev mrTlogAtHi : Nat := 0x20065C
abbrev mrTlogInfo : Nat := 0x200660
abbrev mrTlogCount : Nat := 0x200664
abbrev lrnGreward (n : Nat) : Nat := 0x200680 + 4 * n
abbrev lrnCkptBaseLo : Nat := 0x200690
abbrev lrnCkptBaseHi : Nat := 0x200694
abbrev lrnCkptSeq : Nat := 0x200698
abbrev lrnCkptEtickLo : Nat := 0x20069C
abbrev lrnCkptEtickHi : Nat := 0x2006A0
abbrev lrnCkptFails : Nat := 0x2006A4
abbrev ncPset0 (w n : Nat) : Nat := 0x200800 + 0x1000 * w + 0x20 * n
abbrev ncPset1 (w n : Nat) : Nat := 0x200804 + 0x1000 * w + 0x20 * n
abbrev ncPset2 (w n : Nat) : Nat := 0x200808 + 0x1000 * w + 0x20 * n

/-! R347 -/
abbrev lkCtl : Nat := 0x300000
abbrev lkSysid : Nat := 0x300004
abbrev lkStat : Nat := 0x300008
abbrev lkLinksDown : Nat := 0x30000C
abbrev lkReplayBase : Nat := 0x300010
abbrev lkTsync : Nat := 0x300014
abbrev lkCollTmo : Nat := 0x300018
abbrev lkUnreach : Nat := 0x30001C
abbrev lkReplayed : Nat := 0x300020
abbrev lkTransitDrops : Nat := 0x300024
abbrev lkCollDups : Nat := 0x300028
abbrev lkNotices : Nat := 0x30002C
abbrev lkTransitLo : Nat := 0x300030
abbrev lkTransitHi : Nat := 0x300034
abbrev lkPortCfg (n : Nat) : Nat := 0x300100 + 0x80 * n
abbrev lkPortStat (n : Nat) : Nat := 0x300104 + 0x80 * n
abbrev lkPortPartner (n : Nat) : Nat := 0x300108 + 0x80 * n
abbrev lkPortCwLo (n : Nat) : Nat := 0x30010C + 0x80 * n
abbrev lkPortCwHi (n : Nat) : Nat := 0x300110 + 0x80 * n
abbrev lkPortCsymLo (n : Nat) : Nat := 0x300114 + 0x80 * n
abbrev lkPortCsymHi (n : Nat) : Nat := 0x300118 + 0x80 * n
abbrev lkPortUncorr (n : Nat) : Nat := 0x30011C + 0x80 * n
abbrev lkPortReplays (n : Nat) : Nat := 0x300120 + 0x80 * n
abbrev lkPortDowns (n : Nat) : Nat := 0x300124 + 0x80 * n
abbrev lkPortTxpktLo (n : Nat) : Nat := 0x300128 + 0x80 * n
abbrev lkPortTxpktHi (n : Nat) : Nat := 0x30012C + 0x80 * n
abbrev lkPortRxpktLo (n : Nat) : Nat := 0x300130 + 0x80 * n
abbrev lkPortRxpktHi (n : Nat) : Nat := 0x300134 + 0x80 * n
abbrev lkPortQual (n : Nat) : Nat := 0x300138 + 0x80 * n
abbrev lkRoute (n : Nat) : Nat := 0x300400 + 0x10 * n
abbrev lkRoutePmask (n : Nat) : Nat := 0x300404 + 0x10 * n
abbrev lkRouteRmask (n : Nat) : Nat := 0x300408 + 0x10 * n
abbrev lkRouteStat (n : Nat) : Nat := 0x30040C + 0x10 * n
abbrev lkCollCfg (n : Nat) : Nat := 0x300600 + 0x10 * n
abbrev lkCollStat (n : Nat) : Nat := 0x300604 + 0x10 * n
abbrev lkCollResLo (n : Nat) : Nat := 0x300608 + 0x10 * n
abbrev lkCollResHi (n : Nat) : Nat := 0x30060C + 0x10 * n

/-! R324 -/
abbrev memDdrStat : Nat := 0x400000
abbrev memDdrRate : Nat := 0x400004
abbrev memDdrSizeLo : Nat := 0x400008
abbrev memDdrSizeHi : Nat := 0x40000C
abbrev memCistBaseLo : Nat := 0x400010
abbrev memCistBaseHi : Nat := 0x400014
abbrev memCistSize : Nat := 0x400018
abbrev ddrStat (n : Nat) : Nat := 0x401000 + 0x100 * n
abbrev ddrRetries (n : Nat) : Nat := 0x401004 + 0x100 * n
abbrev ddrRdErr (n : Nat) : Nat := 0x401008 + 0x100 * n
abbrev ddrParErr (n : Nat) : Nat := 0x40100C + 0x100 * n
abbrev ddrAbcErr (n : Nat) : Nat := 0x401010 + 0x100 * n
abbrev scWaymask0 : Nat := 0x408000
abbrev scWaymask1 : Nat := 0x408004
abbrev scWaymask2 : Nat := 0x408008
abbrev scWaymask3 : Nat := 0x40800C
abbrev scWaymask4 : Nat := 0x408010
abbrev scWaymask5 : Nat := 0x408014
abbrev scPfCtl : Nat := 0x408018
abbrev scPinned : Nat := 0x40801C
abbrev scHitsLo : Nat := 0x408020
abbrev scHitsHi : Nat := 0x408024
abbrev scMissesLo : Nat := 0x408028
abbrev scMissesHi : Nat := 0x40802C
abbrev scPfIssued : Nat := 0x408030
abbrev scPfUseful : Nat := 0x408034
abbrev scPinMisses : Nat := 0x408038
abbrev pondPwr (n : Nat) : Nat := 0x409000 + 4 * n
abbrev pondState (n : Nat) : Nat := 0x409010 + 4 * n
abbrev pondNapkeepLo : Nat := 0x409020
abbrev pondNapkeepHi : Nat := 0x409024
abbrev pondOffacc : Nat := 0x409028
abbrev pondRefused : Nat := 0x40902C
abbrev pondMisalign : Nat := 0x409030
abbrev pondAtomics : Nat := 0x409034

/-! R475 -/
abbrev secLc : Nat := 0x500000
abbrev secBootCtl : Nat := 0x500004
abbrev secBootStat : Nat := 0x500008
abbrev secBootMs : Nat := 0x50000C
abbrev secFwBaseLo : Nat := 0x500010
abbrev secFwBaseHi : Nat := 0x500014
abbrev secFwLen : Nat := 0x500018
abbrev secJrnlBaseLo : Nat := 0x50001C
abbrev secJrnlBaseHi : Nat := 0x500020
abbrev secJrnlCap : Nat := 0x500024
abbrev secJrnlSeq : Nat := 0x500028
abbrev secJrnlStat : Nat := 0x50002C
abbrev secRun : Nat := 0x500030
abbrev secWarmCount : Nat := 0x500034
abbrev secSvn : Nat := 0x500040
abbrev secSvnCommit : Nat := 0x500044
abbrev secKeyslot : Nat := 0x500048
abbrev secLcCtl : Nat := 0x500050
abbrev secLcTokenLo : Nat := 0x500054
abbrev secLcTokenHi : Nat := 0x500058
abbrev secLcStat : Nat := 0x50005C
abbrev secTamper : Nat := 0x500060
abbrev secTampers : Nat := 0x500064
abbrev secFwRejects : Nat := 0x500068
abbrev secIdPk (n : Nat) : Nat := 0x500080 + 4 * n
abbrev secAttNonce (n : Nat) : Nat := 0x5000A0 + 4 * n
abbrev secAttDstLo : Nat := 0x5000C0
abbrev secAttDstHi : Nat := 0x5000C4
abbrev secAttCtl : Nat := 0x5000C8
abbrev secAttStat : Nat := 0x5000CC
abbrev secAttSeq : Nat := 0x5000D0
abbrev secAttIgnored : Nat := 0x5000D4
abbrev secQualBiterr (n : Nat) : Nat := 0x5000E0 + 4 * n

/-- VCI argument word k of pair n (R405). -/
abbrev vciArg (n k : Nat) : Nat := vciArgs (16 * n + k)
/-- VCI result word k of pair n (R405). -/
abbrev vciRes (n k : Nat) : Nat := vciRess (16 * n + k)
/-- Allocation ways of requester class c (R309, R324). -/
abbrev scWaymask (c : Nat) : Nat := 0x408000 + 4 * c
/-- FIR coefficient t of stream n (R85). -/
abbrev intkStrFirT (n t : Nat) : Nat := 0x58000 + 0x200 * n + 4 * t

end Sys2Proof.Machine.Reg
end

