-- ==== Sys2Proof/Machine/SMap.lean ====
section
/-! DEFINITION. The one sparse map of the model: memories, register banks, tables and per-unit state are lists of
(key, value) pairs in one canonical form: keys strictly rising, no entry equal to what an unlisted key reads as. -/

namespace Sys2Proof.Machine

/-- A sparse map from numbers to values; what an unlisted key reads as is given at each access. -/
structure SMap (α : Type) where
  cells : List (Nat × α)
deriving DecidableEq, Repr

namespace SMap

variable {α : Type}

/-- The map that lists nothing. -/
def empty : SMap α := ⟨[]⟩

/-- The first value listed under a key, or the default. -/
def look (d : α) : List (Nat × α) → Nat → α
  | [], _ => d
  | c :: m, k => if c.1 = k then c.2 else look d m k

/-- What a key reads as. -/
def get (d : α) (m : SMap α) (k : Nat) : α := look d m.cells k

/-- List a pair before the first greater key. -/
def ins (k : Nat) (v : α) : List (Nat × α) → List (Nat × α)
  | [] => [(k, v)]
  | c :: m => if k < c.1 then (k, v) :: c :: m else c :: ins k v m

/-- Remove every pair of a key. -/
def del (k : Nat) : List (Nat × α) → List (Nat × α)
  | [] => []
  | c :: m => if c.1 = k then del k m else c :: del k m

/-- Write a key; writing the default removes the entry, so that equal maps are equal data. -/
def set [DecidableEq α] (d : α) (m : SMap α) (k : Nat) (v : α) : SMap α :=
  ⟨if v = d then del k m.cells else ins k v (del k m.cells)⟩

/-- Write a run of keys from k upward. -/
def setMany [DecidableEq α] (d : α) (m : SMap α) (k : Nat) : List α → SMap α
  | [] => m
  | v :: vs => setMany d (set d m k v) (k + 1) vs

/-- Keys strictly rising above a bound (none: no bound), and no entry equal to the default. -/
def canon [DecidableEq α] (d : α) : Option Nat → List (Nat × α) → Bool
  | _, [] => true
  | lo, c :: m => (match lo with | none => true | some l => decide (l < c.1)) && decide (c.2 ≠ d) && canon d (some c.1) m

/-- The canonical form holds. -/
def wf [DecidableEq α] (d : α) (m : SMap α) : Bool := canon d none m.cells

end SMap

end Sys2Proof.Machine
end

