-- ==== Sys2Proof/Machine/State.lean ====
section
/-! DEFINITION. The state of one WD4: every BAR0 register in one sparse bank, the memories, and what each unit holds
besides its registers. Plain data throughout. -/

namespace Sys2Proof.Machine

/-! ## Timebase (R32-R61) -/

/-- What a general timer holds besides its registers (R57, R59, R60). -/
structure Gt where
  pendCnt  : Option Nat := none
  pendCmp  : Option Nat := none
  /-- A reset that replaces the timer's next step (R57). -/
  rst      : Bool := false
  /-- High words held for a linked pair (R59), on the even timer. -/
  heldCnt  : Option Nat := none
  heldCmp  : Option Nat := none
  /-- Coming active edges at which a crossbar line's pulse closes the timer's gate (R55). -/
  skip     : Nat := 0
deriving DecidableEq, Repr

/-- What a SYSREF channel holds (R45-R47, R501). -/
structure Sysref where
  /-- The grid point at which it next pulses or stays silent. -/
  next     : Option Nat := none
  /-- First period after the pulse in progress. -/
  pulseEnd : Option Nat := none
  /-- GAPPED: grid points used of the present burst and gap. -/
  gapPos   : Nat := 0
  /-- The pulse in progress is a ONE_SHOT pulse. -/
  shot     : Bool := false
  /-- After SENTINEL: the grid point at which the pad is released (R416). -/
  held     : Option Nat := none
deriving DecidableEq, Repr

/-- A TIMESYNC exchange in progress on a port (R42, R340). Stamps are TB72 values in fine units. -/
structure Exchange where
  isOpen : Bool := false
  xseq   : Nat := 0
  /-- Parent: t1. Child: t2. -/
  first  : Nat := 0
  /-- Child: t3. -/
  third  : Nat := 0
deriving DecidableEq, Repr

/-- Timebase state besides its registers. -/
structure Tb where
  tbc      : Nat := 0
  loadPend : Option Nat := none
  /-- The timebase PLL has locked (R32). -/
  running  : Bool := false
  gts      : SMap Gt := ⟨[]⟩
  sysref   : SMap Sysref := ⟨[]⟩
  xch      : SMap Exchange := ⟨[]⟩
  /-- Number of the next exchange this parent starts; exchanges of this child that failed in a row, whatever their port (R37). -/
  xseq     : Nat := 0
  syncFails : Nat := 0
  ppsFall  : Option Nat := none
  /-- The armed values of the compare units (R53). -/
  cmp      : SMap Nat := ⟨[]⟩
  /-- TB_CLK_OUT: last rising edge and the divider in force (R52). -/
  clkRise  : Nat := 0
  clkDiv   : Nat := 16
  /-- Accumulator of the TB keeper, in 1/8 periods (R61). -/
  keeper   : Nat := 0
  /-- SENT_CLK periods since the last XT32 edge in SENTINEL (R431). -/
  sent     : Nat := 0
  /-- Gate levels the Sentinel drives (R55, R430). -/
  senGates : Nat := 0
  /-- Crossbar lines at 1, and trigger outputs with a qualifying pulse, in the present TB_CLK period (R292, R293). -/
  lineAt   : Nat := 0
  outAt    : Nat := 0
  /-- Pulses of each network line that have yet to be taken from its crossing (R55, R292). -/
  lineDue  : SMap Nat := ⟨[]⟩
deriving DecidableEq, Repr

/-! ## Intake (R63-R85) -/

/-- One component of a sample in a filter chain, with its marks: a CRC mismatch or a saturation taken in (R69, R76). -/
structure Samp where
  v   : Int := 0
  crc : Bool := false
  sat : Bool := false
deriving DecidableEq, Repr

/-- What a JESD204C link holds (R66-R71). -/
structure Link where
  /-- The LEMC phase: TBC of the aligning pulse, moved with every load of the TBC (R67). -/
  lemc    : Option Int := none
  /-- t_lemc of R71 in 1/65,536 fine units. -/
  tLemc   : Int := 0
  /-- Samples released since the boundary of t_lemc. -/
  j       : Nat := 0
  /-- By converter, samples still to come of a multiblock whose CRC failed (R69). -/
  crcLeft : SMap Nat := ⟨[]⟩
deriving DecidableEq, Repr

/-- A frame the framer is writing (R77-R79). -/
structure Filling where
  frame  : Nat
  slot   : Nat
  /-- Output samples written so far. -/
  count  : Nat := 0
  stamp  : Nat := 0
  flags  : Nat := 0
  sats   : Nat := 0
  memErr : Bool := false
deriving DecidableEq, Repr

/-- A finished output sample that the framer has not taken: its components and its exact stamp in 1/65,536 fine units. -/
structure OutSample where
  comps : List Samp
  stamp : Int
deriving DecidableEq, Repr

/-- Resumption after a realignment (R70): inputs to discard and the first frame to start. -/
structure Resume where
  skip  : Nat
  frame : Nat
deriving DecidableEq, Repr

/-- What a stream context holds (R73-R83). Histories are newest first, one list per component. -/
structure Strm where
  acc      : Nat := 0
  ftw      : Nat := 0
  ftwPend  : Option Nat := none
  cic      : List (List Samp) := []
  cicN     : Nat := 0
  hb1      : List (List Samp) := []
  hb1N     : Nat := 0
  hb2      : List (List Samp) := []
  hb2N     : Nat := 0
  fir      : List (List Samp) := []
  firN     : Nat := 0
  outq     : List OutSample := []
  /-- Index, since open, of the head of outq. -/
  outIx    : Nat := 0
  /-- The next frame number, unwrapped. -/
  nextFrame : Nat := 0
  filling  : List Filling := []
  /-- Slots in use. -/
  busy     : List Nat := []
  /-- Where the search for a free slot begins (log entry 8). -/
  nextSlot : Nat := 0
  resume   : Option Resume := none
  /-- Exact stamp of output sample 0 of the present frame grid, before the group delay, in 1/65,536 fine units. -/
  grid0    : Option Int := none
  relink   : Bool := false
  /-- A close waits for the frames in progress (R83). -/
  closing  : Bool := false
  /-- Opened in gather mode: its frames come from a gather decoder (R286). -/
  gather   : Bool := false
deriving DecidableEq, Repr

/-! ## Frames, the Flume array and the ladder (R86-R185) -/

/-- Tally of one saturation group in one pass (R165); peak is a BF16 code. -/
structure Tally where
  lanes : Nat := 0
  sat   : Nat := 0
  peak  : Nat := 0
deriving DecidableEq, Repr

/-- A frame, with all that is known of it from its slot to its result. -/
structure Frame where
  stream   : Nat := 0
  frame    : Nat := 0
  tb72     : Nat := 0
  slot     : Nat := 0
  /-- Device address of the slot's payload, and its length in bytes. -/
  addr     : Nat := 0
  len      : Nat := 0
  /-- Writers of its slot: the intake framer, or a gather decoder (R286). -/
  gather   : Bool := false
  /-- TBC at which its forebay became full. -/
  fullAt   : Nat := 0
  /-- Admission waits in TB_CLK periods, summed over passes (R290). -/
  wait     : Nat := 0
  passes   : Nat := 0
  epoch    : Nat := 0
  /-- Rung code of each layer group, two bits each (R180). -/
  rungs    : Nat := 0
  uncal    : Nat := 0
  /-- Flags of its descriptor (R79). -/
  flags    : Nat := 0
  /-- Staged words of each column, the attribute word apart (R132). -/
  words    : SMap (List Nat) := ⟨[]⟩
  tallies  : SMap Tally := ⟨[]⟩
  /-- Tailgate words by column × 4 + lane (R110). -/
  out      : SMap (List Nat) := ⟨[]⟩
  memErr   : Bool := false
  /-- The counts of R452 at the frame's first admission. -/
  flmErrs  : Nat := 0
  flmErr   : Bool := false
  /-- Pass output discarded after a schedule fault (R113). -/
  doomed   : Bool := false
deriving DecidableEq, Repr

/-- How a frame reaches its staging banks (R104). -/
inductive StageMode where
  | writeThrough | waitCopy | copying | ready
deriving DecidableEq, Repr

/-- A frame between its slot and its admission, with the payload bytes that its staging banks hold, by their place in the
payload, and the column and number of each bank word that failed its check (R132, R440). -/
structure Staged where
  fr    : Frame
  mode  : StageMode
  bytes : SMap Nat := ⟨[]⟩
  lost  : List (Nat × Nat) := []
deriving DecidableEq, Repr

/-- An admission record (R120). -/
inductive AdmitKind where
  | frame | bubble | empty
deriving DecidableEq, Repr

/-- A boundary's admission record, with the frame it admitted. -/
structure AdmitRec where
  kind : AdmitKind := .empty
  fr   : Frame := {}
  e0   : Nat := 0
  /-- Holds a staging bank until its last headgate word has entered (R104). -/
  bank : Bool := false
  /-- The frame's pass has ended (R109). -/
  ovr : Bool := true
deriving DecidableEq, Repr

/-- A message on its way (R93-R95): the cell whose switch holds it, the remaining offsets and the inbound side it came
by: 0 north, 1 east, 2 south, 3 west, 4 the cell's own send. Row −1 is a headgate. -/
structure Flight where
  row  : Int
  col  : Int
  dx   : Int
  dy   : Int
  ch   : Nat
  data : Nat
  side : Nat
  /-- Executed cycle of its send; it claims its first link in the next (R94). -/
  born : Nat
deriving DecidableEq, Repr

/-- Where a result goes. -/
inductive Dest where
  | reg (n : Nat)
  | mac | sail | alu
deriving DecidableEq, Repr

/-- A result not yet readable (R122, R128). -/
structure PendWrite where
  due     : Nat
  issued  : Nat
  handler : Bool
  dest    : Dest
  value   : Nat
deriving DecidableEq, Repr

/-- A loop in progress (R121): its first slot, its length and the repetitions left. -/
structure LoopState where
  start : Nat
  len   : Nat
  left  : Nat
deriving DecidableEq, Repr

/-- A rung window (R171). -/
structure Window where
  pos  : Nat
  len  : Nat
  alt  : Nat
  lg   : Nat
  rung : Nat
deriving DecidableEq, Repr

/-- A flume cell (R90). -/
structure Cell where
  regs    : SMap Nat := ⟨[]⟩
  accG    : SMap Int := ⟨[]⟩
  accF    : SMap Nat := ⟨[]⟩
  pwl     : SMap Nat := ⟨[]⟩
  macRes  : Nat := 0
  sailRes : Nat := 0
  aluRes  : Nat := 0
  sailLg  : Nat := 5
  sailFmt : Nat := 0
  lfsr    : Nat := 0
  sailIn  : List Nat := []
  /-- The output block, and a completed block with the cycle from which it may be drained. -/
  sailOut : List Nat := []
  sailNext : List Nat := []
  sailAt  : Nat := 0
  /-- Element formats of the two blocks: a SAILCFG keeps the output buffer (R126). -/
  sailOutFmt  : Nat := 0
  sailNextFmt : Nat := 0
  chans   : SMap (List Nat) := ⟨[]⟩
  sram    : SMap Nat := ⟨[]⟩
  sched   : SMap Nat := ⟨[]⟩
  bodyStart : Nat := 0
  bodyLen   : Nat := 0
  binds   : SMap Nat := ⟨[]⟩
  windows : List Window := []
  page0   : Nat := 0
  page1   : Nat := 0
  pageLen : Nat := 0
  /-- Main stream: next slot index, first cycle in which it may issue, loops. -/
  slot    : Nat := 0
  mainAt  : Nat := 0
  /-- The main-stream slot index that issued last (R503). -/
  lastSlot : Nat := 0
  loops   : List LoopState := []
  /-- A rung window being issued from ALT: the slot after its last (0: none) and where the main stream goes on. -/
  altEnd  : Nat := 0
  altBack : Nat := 0
  /-- Handler lane: running, next slot, first cycle in which it may issue, queued dispatches (arrival cycle, channel). -/
  hand    : Bool := false
  handSlot : Nat := 0
  handAt  : Nat := 0
  queue   : List (Nat × Nat) := []
  halted  : Bool := false
  failed  : Bool := false
  cause   : Nat := 0
  faultEcc : Nat := 0
  pend    : List PendWrite := []
  /-- What this cycle's slots have used: the cycle, the main stream's units, the banks. -/
  useAt   : Nat := 0
  units   : Nat := 0
  banks   : Nat := 0
deriving DecidableEq, Repr

/-- A headgate entry of the loaded image (R134). -/
structure HeadEntry where
  col  : Nat
  k    : Nat
  word : Nat
  hdr  : Nat
deriving DecidableEq, Repr

/-- A tailgate entry of the loaded image (R134). -/
structure TailEntry where
  col   : Nat
  stage : Nat
  p     : Nat
  lane  : Nat
deriving DecidableEq, Repr

/-- Smoothing of a headgate (R164): period, saturation group, two pages of BF16 multipliers. -/
structure Smooth where
  p     : Nat := 0
  group : Nat := 0
  page0 : List Nat := []
  page1 : List Nat := []
deriving DecidableEq, Repr

/-- A shadow write held or to come (R178): cell, word address within the page, words. -/
structure ShadowWrite where
  /-- Tag of its SCALE_WRITE. -/
  tag   : Nat
  row   : Nat
  col   : Nat
  word  : Nat
  words : List Nat
deriving DecidableEq, Repr

/-- The Flume array and the ladder controller besides their registers. -/
structure Flume where
  /-- FLM_ECC. -/
  ecc     : Nat := 0
  cells   : SMap Cell := ⟨[]⟩
  /-- FLM_CELL_ORPHANS by cell, kept from job to job (R12, R115). -/
  orphans : SMap Nat := ⟨[]⟩
  /-- First fault of each cell, its cause and FLM_ECC, held until the job is unloaded (R112). -/
  faults  : SMap (Nat × Nat) := ⟨[]⟩
  /-- Failed cells whose columns the MP has not marked yet (R114). -/
  dead    : List Nat := []
  flights : List Flight := []
  /-- The newest record first (R120). -/
  recs    : List AdmitRec := []
  d       : Nat := 1
  /-- Executed cycle of the last boundary; none before the first. -/
  lastAdmit : Option Nat := none
  boundaries : Nat := 0
  head    : List HeadEntry := []
  /-- Per column, the executed cycle after its last headgate word. -/
  headDone : SMap Nat := ⟨[]⟩
  tail    : List TailEntry := []
  staging : SMap (Nat × Nat) := ⟨[]⟩
  tgBytes : SMap Nat := ⟨[]⟩
  smooth  : SMap Smooth := ⟨[]⟩
  staged  : List Staged := []
  /-- Junction input buffer: bytes reserved per column (R106). -/
  reserved : SMap Nat := ⟨[]⟩
  /-- TBC at which the present wait began. -/
  waitFrom : Option Nat := none
  waitCounts : Bool := false
  /-- FLUME_CLK to take at the next boundary, and whether it is being applied (R24). -/
  clkPend : Option Nat := none
  clkBusy : Bool := false
  /-- The executed cycle at which the array stops after a schedule fault (R113). -/
  stopAt  : Option Nat := none
  /-- Frames that were in flight at the first schedule fault, reported when the array stops (R113). -/
  lost    : List Frame := []
  /-- A cell has failed: the array stops at its next boundary (R114). -/
  failing : Bool := false
  /-- Frames whose pass has ended and that await their tallies or verdict; the first is the oldest. -/
  passed  : List (Frame × Bool) := []
  /-- DATA errors of the junction input buffers (R452). -/
  bufErrs : Nat := 0
  satGroups : SMap Nat := ⟨[]⟩
  lgLimit : SMap Nat := ⟨[]⟩
  hist    : SMap Nat := ⟨[]⟩
  /-- Gauges updated in this job, and gauges updated since reset, whose EMA their status shows (R173, R174). -/
  emaSet  : SMap Bool := ⟨[]⟩
  emaEver : SMap Bool := ⟨[]⟩
  swapPend : Bool := false
  /-- The executed cycle from which a boundary applies the pending swap: one requested in a boundary's own cycle waits for
  the following boundary (R179). -/
  swapFrom : Nat := 0
  shadow  : List ShadowWrite := []
  /-- Fresh admissions are held by a drain (R397). -/
  drain   : Bool := false
deriving DecidableEq, Repr

/-! ## Neuron cores (R186-R217, R249-R267) -/

/-- An event that an NC has taken and not applied: it waits for a Cistern row or for its learning tick (R208, R254). -/
structure NcEvent where
  axon    : Nat
  tick    : Nat
  mult    : Nat
  payload : Nat
deriving DecidableEq, Repr

/-- What a queued bank update does (R261). -/
inductive UpdKind where
  | delta (d : Int) (slot : Nat)
  | pre (word : Nat)
  | sprout (word : Nat) (slot : Nat)
deriving DecidableEq, Repr

/-- A queued update: the row's header, and the synapse word address, or the word's index in a cached Cistern row. -/
structure Upd where
  header : Nat
  cist   : Bool
  word   : Nat
  kind   : UpdKind
deriving DecidableEq, Repr

/-- A row in the Cistern cache (R210): its words, its last use, whether a hint fetched it and no event used it, and its
modified lines (R267). -/
structure CachedRow where
  header : Nat
  words  : List Nat
  used   : Nat
  hinted : Bool
  dirty  : List Nat
deriving DecidableEq, Repr

/-- A Cistern fetch in progress (R208, R212), with the last use of its row (R210). -/
structure Fetch where
  header : Nat
  hinted : Bool
  used   : Nat := 0
  /-- It has received an error response once and is retried (R443). -/
  again  : Bool := false
deriving DecidableEq, Repr

/-- A neuron core. Neuron state and axon entries are 128-bit numbers (R191, R200); synapse words 16-bit (R203). -/
structure Nc where
  state   : SMap Nat := ⟨[]⟩
  /-- Accumulators and dirty marks by page × 16,384 + neuron (R196). -/
  acc     : SMap Int := ⟨[]⟩
  dirty   : SMap Bool := ⟨[]⟩
  syn     : SMap Nat := ⟨[]⟩
  axon    : SMap Nat := ⟨[]⟩
  /-- Decay entries by set × 256 + Δt (R194). -/
  decay   : SMap Nat := ⟨[]⟩
  /-- Δt tables by the index of LRN_TSEL (R257, R272). -/
  dt      : SMap Nat := ⟨[]⟩
  /-- The core map of the job has a record for this NC. -/
  inJob   : Bool := false
  /-- The open tick (R197). -/
  openTick : Nat := 0
  /-- Packets delivered through L and not yet taken. -/
  events  : List Nat := []
  hints   : List Nat := []
  missq   : List NcEvent := []
  peq     : List NcEvent := []
  fetches : List Fetch := []
  /-- Rows of waiting events for which the cache has no room yet, and hints that await a fetch slot, by row (R210, R212). -/
  fetchQ  : List Nat := []
  hintQ   : List Nat := []
  /-- By row that so waits, when an event or a hint named it last (R210). -/
  queuedUse : SMap Nat := ⟨[]⟩
  cached  : List CachedRow := []
  cacheAge : Nat := 0
  /-- Updates queued in the banks (bank b under key b), and those of a held pass (R206, R266). -/
  banks   : SMap (List Upd) := ⟨[]⟩
  heldUpd : List Upd := []
  /-- Neurons that have pulsed their line in the open tick (R213). -/
  pulsed  : SMap Bool := ⟨[]⟩
  /-- By neuron, what the comparator's P holds of the open tick's contributions beyond the clamped accumulator (R213). -/
  trigRest : SMap Int := ⟨[]⟩
  /-- Slots enabled in the open tick (R258). -/
  enNow   : Nat := 0
  /-- Eligibility writes that apply at the next tick open (R260): slot, set, first and last neuron. -/
  eligPend : List (Nat × Bool × Nat × Nat) := []
  snap    : Option Nat := none
  /-- It has taken an uncorrectable error (R190). -/
  failed  : Bool := false
  failTick : Nat := 0
  /-- Words that fail their check until they are restored (R440): row headers, axon entries, and the failed 16-bit words of
  synapse bank words as a mask by bank word. -/
  badHeaders : List Nat := []
  badAxons : List Nat := []
  badSyn  : SMap Nat := ⟨[]⟩
deriving DecidableEq, Repr

/-! ## Routers (R218-R236) -/

/-- A packet that leaves by several outputs: its virtual channel and the branches that have not left (R228). Outputs:
0 north, 1 east, 2 south, 3 west, 4 the L port, 5 a leat egress. -/
structure Repl where
  vc       : Nat
  branches : List (Nat × Nat)
deriving DecidableEq, Repr

/-- A packet in a delay pond and the tick at whose close it leaves (R230). -/
structure PondPkt where
  tick : Nat
  pkt  : Nat
deriving DecidableEq, Repr

/-- The latest report of a child, or a router's own (R236). -/
structure Report where
  tick : Nat := 0
  sent : Nat := 0
  recv : Nat := 0
  done : Bool := false
  got  : Bool := false
deriving DecidableEq, Repr

/-- A scheduled close (R239): its tick, AT as a full TBC, quanta, and whether it is a FORCE. -/
structure Close where
  tick  : Nat
  at_   : Nat
  q     : Nat
  force : Bool
  /-- Originating device (R220). -/
  dev   : Nat := 0
deriving DecidableEq, Repr

/-- A packet at the injection port: the devices still to be sent, and the input port by which it enters the mesh. -/
structure Inject where
  pkt  : Nat
  devs : List Nat
  port : Nat
deriving DecidableEq, Repr

/-- A router. -/
structure Router where
  /-- Input buffers by port × 5 + virtual channel (R222): ports N, E, S, W, L, J, G; channels event, hint, completion and
  barrier, control, transit. -/
  inbuf   : SMap (List Nat) := ⟨[]⟩
  repl    : List Repl := []
  /-- Packets that the NC has emitted, and copies at the injection port (R229, R231). -/
  fromNc  : List Nat := []
  inject  : List Inject := []
  pond    : List PondPkt := []
  nextSeq : SMap Nat := ⟨[]⟩
  acked   : SMap Nat := ⟨[]⟩
  /-- Counts of the ticks by tick mod 2 (R235). -/
  sent    : SMap Nat := ⟨[]⟩
  recv    : SMap Nat := ⟨[]⟩
  openTick : Nat := 0
  /-- COMPLETION packets delivered here. -/
  cpls    : List Nat := []
  /-- Latest reports of the children, by direction (R236). -/
  reports : SMap Report := ⟨[]⟩
  close   : Option Close := none
  /-- Inputs that have delivered a DRAIN, and whether this router has sent its own (R244). -/
  drainIn : Nat := 0
  drainOut : Bool := false
  /-- Arbitration (R223): by output, 1 + the NOC_CLK cycle of its last packet (6: the injection port, R231); by output × 5 +
  virtual channel, the input served last; by input, the cycle in which its present hint came to the head of its buffer. -/
  outAt   : SMap Nat := ⟨[]⟩
  lastIn  : SMap Nat := ⟨[]⟩
  hintAt  : SMap Nat := ⟨[]⟩
  /-- NOC_CLK cycles from which the injection port waits for a window, and for a hint's way (R232, R247). -/
  winFrom : Option Nat := none
  hintFrom : Option Nat := none
deriving DecidableEq, Repr

/-- A landing-table entry (R232). -/
structure Landing where
  next : Nat := 0
  seen : Nat := 0
  pend : Nat := 0
  /-- Its present ACK has to be sent once more (R338). -/
  again : Bool := false
deriving DecidableEq, Repr

/-- A tick-log entry (R242). -/
structure TlogE where
  tick  : Nat
  at_   : Nat
  flags : Nat
deriving DecidableEq, Repr

/-- The barrier and the fabric's shared state. -/
structure Barrier where
  /-- C(t − 1) as a full TBC, TBASE and t0 (R238). -/
  lastClose : Nat := 0
  tbase   : Nat := 0
  t0      : Nat := 0
  /-- The root has broadcast the close of this tick. -/
  closed  : Option Close := none
  /-- Closes sent to child devices that not every child has reported past, oldest first (R342). -/
  unheard : List Close := []
  tlog    : List TlogE := []
  /-- Latest reports of child devices, by port (R236). -/
  children : SMap Report := ⟨[]⟩
  landing : SMap Landing := ⟨[]⟩
  /-- T of a requested drain: T + 1 is the drain tick (R244). -/
  drainTick : Option Nat := none
deriving DecidableEq, Repr

/-! ## Leat ports (R325-R346) -/

/-- A DATA codeword kept for replay (R329). -/
structure SentCw where
  seq     : Nat
  packets : List Nat
  resent  : Nat
deriving DecidableEq, Repr

/-- A TIMESYNC packet on its way out, with the TBC at which it is due and its fine stamp there (R42, R340). -/
structure TimeOut where
  pkt  : Nat
  due  : Nat
  fine : Nat
deriving DecidableEq, Repr

/-- A leat port. -/
structure Port where
  /-- Packets for the transmit stage, landed packets, entries in use at the partner and entries freed here, by link VC. -/
  egress  : SMap (List Nat) := ⟨[]⟩
  landing : SMap (List Nat) := ⟨[]⟩
  /-- TIMESYNC packets that wait for slot 1 of a codeword (R340). -/
  times   : List TimeOut := []
  used    : SMap Nat := ⟨[]⟩
  freed   : SMap Nat := ⟨[]⟩
  /-- Egress entries reserved by packets on their way through the mesh (R339). -/
  reserved : SMap Nat := ⟨[]⟩
  txSeq   : Nat := 0
  rxNext  : Nat := 0
  nak     : Bool := false
  replay  : List SentCw := []
  /-- Open tick when it went down, and the copies replayed (R332, R346). -/
  downTick  : Nat := 0
  downReplayed : Nat := 0
  /-- SYSID of the trained partner (R330). -/
  sysid   : Nat := 0
  /-- Qualification runs failed in a row; two stand until EN is written from 0 to 1 (R461). -/
  qualFails : Nat := 0
deriving DecidableEq, Repr

/-- A collective group's outstanding collective (R345). -/
structure Coll where
  pend   : Bool := false
  tag    : Nat := 0
  value  : Nat := 0
  /-- ROOT: devices counted, and the combination so far. -/
  seen   : Nat := 0
  total  : Nat := 0
  /-- ROOT: the result of the last completed collective and its number, for resending (R345). -/
  last   : Nat := 0
  began  : Nat := 0
  /-- TBC at which the outstanding collective began. -/
  since  : Nat := 0
deriving DecidableEq, Repr

/-! ## Trigger outputs (R293) -/

/-- What a TRIG_OUT pin is doing. -/
inductive TrigPhase where
  | idle | width | holdoff
deriving DecidableEq, Repr

/-- A TRIG_OUT pin: its phase, the TBC at which the phase begins and ends, and in SENTINEL the SENT_CLK periods that are left
of it (R293, R431). -/
structure TrigOut where
  phase : TrigPhase := .idle
  since : Nat := 0
  fin   : Nat := 0
  left  : Nat := 0
deriving DecidableEq, Repr

/-! ## Sentinel (R422-R432) -/

/-- A biquad section: its last two inputs and outputs (R424). -/
structure Biquad where
  x1 : Int := 0
  x2 : Int := 0
  y1 : Int := 0
  y2 : Int := 0
deriving DecidableEq, Repr

/-- An event that a sentinel tick applies (R426, R428): header, multiplicity, payload. -/
structure SenEvent where
  header  : Nat
  mult    : Nat
  payload : Nat
deriving DecidableEq, Repr

/-- A Sentinel log entry (R432). -/
structure SenLogE where
  tbc  : Nat
  rule : Nat
  tick : Nat
  val  : Nat
deriving DecidableEq, Repr

/-- The Sentinel. -/
structure Sen where
  /-- Consecutive good frames of the deserialiser, to 64 (R422). -/
  frames  : Nat := 0
  /-- The block of the decimator: its sum and its number of samples (R423). -/
  sum     : Int := 0
  count   : Nat := 0
  /-- Decimated samples that wait for the SENT_CLK side, oldest first (R423). -/
  fifo    : List Int := []
  /-- The latest decimated sample, 24 bits. -/
  sample  : Int := 0
  bq      : SMap Biquad := ⟨[]⟩
  env     : SMap Nat := ⟨[]⟩
  /-- Neuron state by neuron (R191), the 32-bit words of the parameter sets, decay entries by set × 256 + Δt, axon entries,
  row headers, synapse words (R427). -/
  state   : SMap Nat := ⟨[]⟩
  pset    : SMap Nat := ⟨[]⟩
  decay   : SMap Nat := ⟨[]⟩
  axon    : SMap Nat := ⟨[]⟩
  header  : SMap Nat := ⟨[]⟩
  syn     : SMap Nat := ⟨[]⟩
  /-- Events for the next tick. -/
  next    : List SenEvent := []
  /-- Rule histories, newest first (R429). -/
  hist    : SMap (List Bool) := ⟨[]⟩
  /-- TRIG_IN edges and timer events since the last tick, as masks (R429). -/
  edges   : Nat := 0
  gtEvents : Nat := 0
  log     : List SenLogE := []
  /-- Mailbox interrupts received (R368). -/
  mbxInts : Nat := 0
deriving DecidableEq, Repr

/-! ## Power, clocks and pins (R406-R420) -/

/-- State of the PCIe link (R406, R408). -/
inductive PcieLink where
  | l0 | l1 | l2 | down
deriving DecidableEq, Repr

/-- Pins that a rule drives or reads, as levels (true: high), and what the boundary scan holds (R491, R492). -/
structure Pins where
  sysRstN    : Bool := true
  perstN     : Bool := true
  pgMain     : Bool := false
  enCore     : Bool := false
  enSd       : Bool := false
  wakeN      : Bool := true
  clkreqN    : Bool := false
  thermtripN : Bool := true
  tamperN    : Bool := true
  /-- Strap pins (R479): SB_ADDR0-2 in bits 2-0, PCIE_SRNS in bit 3. -/
  straps     : Nat := 0
  ppsOut     : Bool := false
  /-- The level of TB_CLK_OUT (R52). -/
  clkOut     : Bool := false
  /-- The levels of TRIG_OUT0-7 (R293). -/
  trigOut    : Nat := 0
  /-- The JTAG instruction in force, whether a boundary-scan instruction holds the pads, and the cells of the boundary register,
  one bit for a ball (R491, R492). -/
  jtagIr     : Nat := 2
  padsHeld   : Bool := false
  boundary   : Nat := 0
deriving DecidableEq, Repr

/-- The power controller and the governor. -/
structure Power where
  /-- The target that waits or is being entered (R408); 0 none. -/
  target   : Nat := 0
  /-- Exiting toward this state (R413). -/
  exitTo   : Option Nat := none
  /-- The host's PCIe link and function states. -/
  link     : PcieLink := .down
  d3hot    : Bool := false
  /-- SET_CLOCK values in MHz (R24, R419). -/
  setFlume : Nat := 0
  setRace  : Nat := 0
  /-- By application core, with the clock in force. -/
  setApc   : SMap Nat := ⟨[]⟩
  apc      : SMap Nat := ⟨[]⟩
  /-- Clocks stepped down, newest first: 0 APC_CLK, 1 FLUME_CLK, 2 RACE_CLK (R419). -/
  steps    : List Nat := []
  /-- RACE_CLK to take at the next tick boundary (R24). -/
  racePend : Option Nat := none
  /-- Consecutive samples 3 °C below the thermal level (R420), and at or above the trip level (R494). -/
  coolRun  : Nat := 0
  tripRun  : Nat := 0
  /-- Samples with THERMAL set, toward the next count of PWR_THERMAL_MS. -/
  hotRun   : Nat := 0
  /-- TBC of the last activity, and of the entry into the present state (R408, R410). -/
  lastAct  : Nat := 0
  since    : Nat := 0
  /-- Leat ports that were in use before NAP or SENTINEL (R414). -/
  portsWere : Nat := 0
  /-- An activity since the entry into the present state (R411). -/
  acted    : Bool := false
  /-- Ports that send the wake pattern, and the TBC at which it ends (R412). -/
  wave     : Nat := 0
  waveEnd  : Nat := 0
  /-- The PWR event of an exit from SENTINEL waits for the link to reach L0 (R413, R432). -/
  exitTold : Bool := false
deriving DecidableEq, Repr

/-- What the configuration space holds besides Bus Master Enable, the function mask and the power state (R348, R357, R358):
the AER records of a poisoned write and of an internal error with their severities (true: fatal), the messages of fatal and
non-fatal errors sent, the completion-timeout range and its disable, LTR, the L1 substates enabled, and PME. -/
structure Pcie where
  poisoned   : Bool := false
  internal   : Bool := false
  sevPoisoned : Bool := false
  sevInternal : Bool := true
  fatals     : Nat := 0
  nonfatals  : Nat := 0
  cplRange   : Nat := 0
  cplOff     : Bool := false
  ltr        : Bool := false
  l1Subs     : Nat := 0
  pmeEn      : Bool := false
  pmeStatus  : Bool := false
deriving DecidableEq, Repr

/-! ## Application cores and the MP (R298-R303) -/

/-- Privilege modes (R298). -/
inductive PrivMode where
  | u | s | m
deriving DecidableEq, Repr

/-- A 64-byte line that a core's cache holds, by line number, and whether it has been modified (R298, R440). -/
structure CoreLine where
  line  : Nat := 0
  dirty : Bool := false
deriving DecidableEq, Repr

/-- An application core, as a program sees it: RV64 integer and floating-point registers and 512-bit vector registers by number,
and control and status registers by their RISC-V number, satp and the PMP entries among them; and what its caches hold, by the
line's place (R14, R298). The model executes no instruction (log entry 99). -/
structure Hart where
  /-- Held in reset (R303). -/
  held     : Bool := true
  vector   : Nat := 0
  pc       : Nat := 0
  mode     : PrivMode := .m
  x        : SMap (BitVec 64) := ⟨[]⟩
  f        : SMap (BitVec 64) := ⟨[]⟩
  v        : SMap (BitVec 512) := ⟨[]⟩
  csr      : SMap (BitVec 64) := ⟨[]⟩
  /-- Machine timer compare register (R300). -/
  mtimecmp : Nat := 0
  /-- 1,024 places each in L1I and L1D, 32,768 in L2. -/
  l1i      : SMap CoreLine := ⟨[]⟩
  l1d      : SMap CoreLine := ⟨[]⟩
  l2       : SMap CoreLine := ⟨[]⟩
  /-- Mailbox interrupts received (R368, R370). -/
  mbxInts  : Nat := 0
deriving DecidableEq, Repr

/-- The MP, an RV32IMC core (R14), and the mailbox interrupts it has received (R370). -/
structure MpCore where
  held     : Bool := true
  pc       : Nat := 0
  x        : SMap (BitVec 32) := ⟨[]⟩
  csr      : SMap (BitVec 32) := ⟨[]⟩
  mbxInts  : Nat := 0
deriving DecidableEq, Repr

/-! ## Command interface (R385-R404) -/

/-- A command that the MP has taken: its words, and the owner of its pair (R385, R389). -/
structure VciCmd where
  tag   : Nat
  op    : Nat
  imm   : Nat
  pair  : Nat
  owner : Nat
  args  : List Nat
  /-- A job command that has started and has not completed. -/
  begun : Bool := false
deriving DecidableEq, Repr

/-- A completion or event that waits for its pair (R388, R402): RES1 onward. -/
structure Reply where
  tag   : Nat
  op    : Nat
  code  : Nat
  res   : List Nat
  owner : Nat
  event : Bool
deriving DecidableEq, Repr

/-- A section of a package (R400). -/
structure Section where
  kind  : Nat
  index : Nat
  off   : Nat
  len   : Nat
deriving DecidableEq, Repr

/-- The package that JOB_LOAD stored (R396). -/
structure Pkg where
  addr     : Nat := 0
  len      : Nat := 0
deriving DecidableEq, Repr

/-- The command interface and the job. -/
structure Vci where
  jobq    : List VciCmd := []
  active  : List VciCmd := []
  replies : SMap (List Reply) := ⟨[]⟩
  masks   : SMap Nat := ⟨[]⟩
  /-- Host ring of each source: streams 0-63, 64 SERVICE, 65 MARKER (R504). -/
  binds   : SMap Nat := ⟨[]⟩
  pkg     : Pkg := {}
  /-- JOB_RUN's start TBC and first tick (R393). -/
  startAt : Option (Nat × Nat) := none
  /-- The tick whose close resumes the fabric, until that close (R244); and the begun CHECKPOINT drained the fabric itself and
  resumes it (R268). -/
  resume  : Option Nat := none
  ckptOwn : Bool := false
  /-- A split to be served by the MP: cause, link or group, open tick (R337, R345). -/
  split   : Option (Nat × Nat × Nat) := none
  /-- JOB_STOP has posted this many NOTDONE entries. -/
  notDone : Nat := 0
  /-- Service core mask and service regions of the package, and cores marked down (R304-R306). -/
  svcMask : Nat := 0
  regions : List (Nat × Nat) := []
  coresDown : Nat := 0
  /-- Cores that an uncorrectable error has stopped (R303). -/
  coresStopped : Nat := 0
  /-- An H2M word has been written since the last scan (R369). -/
  scanDue : Bool := false
  /-- Owner who wrote the H2M word of a pair (R389). -/
  issuers : SMap Nat := ⟨[]⟩
deriving DecidableEq, Repr

/-- What a board description sets that no register holds (R401): device regions, shape, and the other members' routes. -/
structure Board where
  shape   : Nat := 0
  master  : Nat := 0
  pkgBase : Nat := 0
  pkgLen  : Nat := 0
  goldBase : Nat := 0
  goldLen : Nat := 0
  svcBase : Nat := 0
  svcLen  : Nat := 0
  /-- Words of the routes section. -/
  routes  : List Nat := []
deriving DecidableEq, Repr

/-! ## Host side (R371-R381) -/

/-- An active descriptor of a Conduit channel (R373). -/
structure Desc where
  index : Nat
  src   : Nat
  dst   : Nat
  len   : Nat
  tag   : Nat
  int   : Bool
  bad   : Bool
deriving DecidableEq, Repr

/-- A Conduit channel: the next descriptor to start and those active. -/
structure Conduit where
  next   : Nat := 0
  active : List Desc := []
deriving DecidableEq, Repr

/-- A host ring (R376, R378): records given to its producer and not placed, oldest first; records whose writes wait for Bus
Master Enable (R356); whether the oldest unplaced record has had its PAD. -/
structure Ring where
  put    : List (List Byte) := []
  sent   : List (List Byte) := []
  padded : Bool := false
deriving DecidableEq, Repr

/-! ## Errors (R446, R447) -/

/-- An entry that the MP has not handled: its number, its contents, and the word it names. -/
structure ErrTodo where
  num   : Nat
  entry : QWord
  site  : Option Site
deriving DecidableEq, Repr

/-- One unit's error log. -/
structure ErrLog where
  wr      : Nat := 0
  hnd     : Nat := 0
  lost    : Nat := 0
  held    : Bool := false
  entries : SMap QWord := ⟨[]⟩
  todo    : List ErrTodo := []
  cntEvent : Nat := 0
  cntData  : Nat := 0
  cntFail  : Nat := 0
  cntFatal : Nat := 0
deriving DecidableEq, Repr

/-! ## Junction (R274-R291) -/

/-- A lane map (R274, R297). -/
structure LaneMap where
  mode   : Nat := 0
  graded : Bool := false
  fmt    : Nat := 0
  nt     : Nat := 0
  gain   : Nat := 0
  rows   : Nat := 0
  cols   : Nat := 0
  axbase : Nat := 0
  dth    : Nat := 0
  pscale : Nat := 0
deriving DecidableEq, Repr

/-- A stream window map (R283, R297). -/
structure WinMap where
  cbase : Nat := 0
  ncls  : Nat := 0
  hasRec : Bool := false
  wofs  : Nat := 0
  wlen  : Nat := 0
deriving DecidableEq, Repr

/-- A gather map (R286, R297). -/
structure GatherMap where
  cbase : Nat := 0
  count : Nat := 0
  src   : Nat := 0
  dst   : Nat := 0
  gth   : Nat := 0
  len   : Nat := 0
  en    : Bool := false
deriving DecidableEq, Repr

/-- An event that an encoder has to emit (R275-R278). -/
structure TrainEv where
  enc  : Nat
  /-- Its element: the lane of its column, and the place in the lane. -/
  lane : Nat
  elem : Nat
  /-- Train tick, from 0. -/
  j    : Nat
  rows : Nat
  cols : Nat
  axon : Nat
  mult : Nat
  payload : Nat
deriving DecidableEq, Repr

/-- A frame in the junction: eligible, assigned to a tick, or in its window. -/
structure JFrame where
  fr     : Frame
  /-- TBC at which it became eligible (R279). -/
  since  : Nat := 0
  /-- Train entries and clips, known once the encoders have read the frame (R275). -/
  trains : List TrainEv := []
  clip   : Bool := false
  tinj   : Option Nat := none
  /-- TBC at the start of t_inj (R280). -/
  tbc    : Nat := 0
  /-- Train ticks emitted so far. -/
  sent   : Nat := 0
  reserved : Bool := false
  /-- Flags [8:5] gathered over its ticks, and WSAT (R288). -/
  flags  : Nat := 0
  /-- The counts of R452 at the close of tick t_inj − 1. -/
  mrErrs : Nat := 0
deriving DecidableEq, Repr

/-- The junction besides its registers. -/
structure Junction where
  lanes   : SMap LaneMap := ⟨[]⟩
  wins    : SMap WinMap := ⟨[]⟩
  gathers : SMap GatherMap := ⟨[]⟩
  /-- Address of the delta store in Pond memory (R277, log entry 13). -/
  deltaBase : Nat := 0
  /-- FINAL frames not yet assigned, in order of eligibility (R279). -/
  eligible : List JFrame := []
  /-- Assigned frames whose trains or windows are not over. -/
  active  : List JFrame := []
  wctr    : SMap Nat := ⟨[]⟩
  wlast   : SMap Nat := ⟨[]⟩
  wsat    : SMap Bool := ⟨[]⟩
  /-- Window adds on their way, oldest first: source NC, counter, multiplicity (R282). -/
  adds    : List (Nat × Nat × Nat) := []
  /-- Last window tick of each stream's previous frame, plus 1 (R279). -/
  lastWin : SMap Nat := ⟨[]⟩
  /-- Next frame number of each gather decoder (R286). -/
  gatherNo : SMap Nat := ⟨[]⟩
  seq     : Nat := 0
  /-- Stream and frame of every record-queue entry, by index; 0xFF for a MARKER (R289). -/
  kept    : SMap (Nat × Nat × Nat) := ⟨[]⟩
  reserved : Nat := 0
  /-- The runtime's read of the entry at JN_RQ_RD has failed once (R289). -/
  retried : Bool := false
deriving DecidableEq, Repr

/-! ## Junction ledger (R290) -/

/-- One entry of the progress ledger as the ledger writer keeps it. -/
structure LedgerE where
  useq   : Nat := 0
  stream : Nat := 0
  frame  : Nat := 0
  tbc    : Nat := 0
  stages : Nat := 0
  wait   : Nat := 0
  tinj   : Nat := 0
  /-- Its stream has been opened anew since, so that any frame of the entry is a new use (R77). -/
  old    : Bool := false
deriving DecidableEq, Repr

/-! ## Host requests that wait for Bus Master Enable (R356) -/

/-- Who sent a host-bound request, and so what a host-side reset does to it. -/
inductive HostSender where
  | msix (vector : Nat)
  | ledger
  | conduit (channel : Nat)
  | ring (ring : Nat)
  | journal
  | report
  | fetch
deriving DecidableEq, Repr

/-- A host-bound request that waits. -/
structure HostReq where
  sender : HostSender
  addr   : Nat
  data   : List Byte
deriving DecidableEq, Repr

/-! ## System cache (R308-R310) -/

/-- One valid line of the system cache. -/
structure ScLine where
  line   : Nat
  way    : Nat
  pinned : Bool := false
  /-- Fetched by a prefetcher and not used since (R311). -/
  ahead  : Bool := false
  /-- Last use, for the least-recently-used choice. -/
  used   : Nat := 0
  /-- The 64 bytes that DDR5 holds under a modified line; none while it is unmodified (R440). -/
  under  : List Byte := []
deriving DecidableEq, Repr

/-- A stream that a prefetcher runs (R311). Lines are DDR5 line numbers. -/
structure Prefetch where
  slice  : Nat
  cls    : Nat
  /-- Lines from one fetch to the next; 0: a declared stream. -/
  stride : Int
  /-- Detected: the line last asked for. Declared: its first line. -/
  line   : Nat
  /-- Declared: its lines. -/
  count  : Nat := 0
  /-- When it last advanced. -/
  moved  : Nat := 0
deriving DecidableEq, Repr

/-! ## The Dredger (R444) -/

/-- One memory kind: the words read in the present lap, the TBC at which it began, the last lap in µs, laps, errors found. -/
structure Lap where
  pos   : Nat := 0
  began : Nat := 0
  last  : Nat := 0
  laps  : Nat := 0
  found : Nat := 0
deriving DecidableEq, Repr

/-! ## Fuses, bring-up and security (R455-R475) -/

/-- What the fuses hold (R1, R7, R466, R469-R473). -/
structure Fuses where
  ident   : Nat := 0x0D401F4C
  variant : Nat := 0xA001
  serial  : Nat := 0
  lc      : Nat := 3
  svn     : Nat := 0
  /-- SHA-256 of the public key of each slot, and the revoked slots. -/
  slots   : List (List Byte) := []
  revoked : Nat := 0
  /-- The device secret DS. -/
  secret  : List Byte := []
  /-- Units fused bad, by kind and physical index (R463). -/
  bad     : List (Nat × Nat) := []
deriving DecidableEq, Repr

/-- An entry of the defect journal (R464). -/
structure JEntry where
  kind   : Nat
  source : Nat
  index  : Nat
  run    : Nat
  mem    : Nat
deriving DecidableEq, Repr

/-- A unit that failed a test: its kind and index, the source of its entry, the failing memory and address (R464). -/
structure TestFail where
  kind   : Nat
  index  : Nat
  source : Nat
  mem    : Nat
deriving DecidableEq, Repr

/-- What AON retention holds besides the Sentinel (R409, R456, R460). -/
structure Retained where
  /-- SHA-256 of the journal at the last write-back, with the life-cycle state then; empty: none. -/
  digest : List Byte := []
  lc     : Nat := 0
  run    : Nat := 0
  warms  : Nat := 0
deriving DecidableEq, Repr

/-- Fields of the configuration header (R349). -/
inductive ConfigField where
  | vendorId | deviceId | classCode | subsystemVendor | subsystem | revision | serial
deriving DecidableEq, Repr

/-- Bring-up and security besides their registers. -/
structure Sec where
  journal : List JEntry := []
  /-- Run number of the latest full test. -/
  fullRun : Nat := 0
  /-- An entry was appended while a write-back waits (R465). -/
  jrnlDue : Bool := false
  /-- This bring-up is a warm restart, or one is asked for since GO; GO has been given; the units that failed the present test. -/
  warm    : Bool := false
  go      : Bool := false
  /-- The boot ROM waits for GO; the target of a life-cycle request that waits for its token (R356, R458, R471). -/
  romWait : Bool := false
  lcWait  : Option Nat := none
  failed  : List TestFail := []
  /-- Units off, by kind and index. -/
  off     : List (Nat × Nat) := []
  /-- A memory without a spare that has failed its test, with the word (R457). -/
  fatal   : Option Site := none
  /-- DDR_CONFIG has trained DDR5 in this bring-up. -/
  trained : Bool := false
  /-- Bytes 0 to 159 of the running bundle, and its address. -/
  header  : List Byte := []
  /-- SHA-256 of the runtime, of the last board description applied, of the loaded package; empty: none. -/
  runtime : List Byte := []
  board   : List Byte := []
  pkg     : List Byte := []
  /-- A tamper has been recorded since the last whole-device reset. -/
  tampered : Bool := false
  /-- The 256 KiB of the Vault, by offset; unlisted: 0 (R316). -/
  vault   : SMap Byte := ⟨[]⟩
  ret     : Retained := {}
deriving DecidableEq, Repr

/-! ## The device -/

/-- Everything of the WD4 but the queue of waiting commands. -/
structure Dev where
  /-- Every BAR0 register that is not a view of something below, keyed by offset; unlisted: its reset value. -/
  regs     : SMap (BitVec 32) := ⟨[]⟩
  /-- Every byte of Pond memory, DDR5 and host memory, keyed by device address (R307); unlisted: 0 (log entry 5). -/
  mem      : SMap Byte := ⟨[]⟩
  /-- Bytes of Pond memory and DDR5 whose check fails, until they are written or read clean (R435, R440), and bytes of host memory
  for which a read receives a poisoned or failed completion (R357). -/
  badMem   : SMap Bool := ⟨[]⟩
  /-- Free values drawn so far (log entry 2). -/
  free     : Nat := 0
  tb       : Tb := {}
  links    : SMap Link := ⟨[]⟩
  strms    : SMap Strm := ⟨[]⟩
  flume    : Flume := {}
  jn       : Junction := {}
  ledger   : SMap LedgerE := ⟨[]⟩
  errs     : SMap ErrLog := ⟨[]⟩
  /-- PCI command register Bus Master Enable and the MSI-X function mask. -/
  bme      : Bool := false
  fnMask   : Bool := false
  pcie     : Pcie := {}
  hostWait : List HostReq := []
  cache    : List ScLine := []
  cacheAge : Nat := 0
  /-- By one-port Pond bank, 1 + the rotation number of the requester served last (R312). -/
  pondLast : SMap Nat := ⟨[]⟩
  /-- The last misses of each class, newest first (R311). -/
  pfHist   : SMap (List Nat) := ⟨[]⟩
  pfs      : List Prefetch := []
  /-- Declared streams that wait for a prefetcher: class, first line, lines (R311). -/
  pfWait   : List (Nat × Nat × Nat) := []
  ncs      : SMap Nc := ⟨[]⟩
  routers  : SMap Router := ⟨[]⟩
  bar      : Barrier := {}
  ports    : SMap Port := ⟨[]⟩
  colls    : SMap Coll := ⟨[]⟩
  /-- Link-down notices already forwarded (R332), as a link mask. -/
  noticed  : Nat := 0
  trigOuts : SMap TrigOut := ⟨[]⟩
  /-- By network line, one more than the TBC of the last pulse that an NC gave, and that NC (R292). -/
  lineLast : SMap (Nat × Nat) := ⟨[]⟩
  sen      : Sen := {}
  pwr      : Power := {}
  pins     : Pins := {}
  /-- The application cores by number, and the MP (R14, R298). -/
  harts    : SMap Hart := ⟨[]⟩
  mp       : MpCore := {}
  vci      : Vci := {}
  board    : Board := {}
  conduits : SMap Conduit := ⟨[]⟩
  rings    : SMap Ring := ⟨[]⟩
  fuses    : Fuses := {}
  sec      : Sec := {}
  /-- The Dredger's laps by memory kind (R444). -/
  laps     : SMap Lap := ⟨[]⟩
  /-- Pond banks in transition: bank, code it goes to + 1 (R315). -/
  pondTo   : SMap Nat := ⟨[]⟩
  /-- What the last read command returned. -/
  lastRead : List Word := []
deriving DecidableEq, Repr

/-- What stops the machine with a fault: nothing does, since the manual gives every command an effect. -/
inductive Fault where
deriving DecidableEq, Repr

/-- What the model refuses. -/
inductive Refusal where
  /-- Raised by Dispatch alone: a command that has no meaning yet. Safe. -/
  | notModelled (mnemonic : String)
deriving DecidableEq, Repr

/-- The machine: the device and the commands that wait, first in, first out. -/
structure State where
  dev     : Dev
  pending : List Instr
deriving DecidableEq, Repr

/-- The machine right after reset (log entry 1). -/
def State.reset : State := { dev := {}, pending := [] }

end Sys2Proof.Machine
end

