-- ==== Sys2Proof/Machine/Ops.lean ====
section
/-! DEFINITION. The named operations over registers, memory, interrupts, error logs, the ledger and the system cache that
every family shares. -/

namespace Sys2Proof.Machine

namespace Dev

/-! ## Registers (R10-R13) -/

/-- A register's value. -/
def reg (d : Dev) (a : Nat) : Word := d.regs.get (regReset a) a

/-- A register's value as a number. -/
def rn (d : Dev) (a : Nat) : Nat := (d.reg a).toNat

/-- A field of a register. -/
def fld (d : Dev) (a hi lo : Nat) : Nat := bits (d.rn a) hi lo

/-- One bit of a register. -/
def flag (d : Dev) (a i : Nat) : Bool := bit (d.rn a) i

/-- Hardware sets a register. -/
def setReg (d : Dev) (a : Nat) (v : Nat) : Dev := { d with regs := d.regs.set (regReset a) a (BitVec.ofNat 32 v) }

/-- Hardware sets a field of a register. -/
def setFld (d : Dev) (a hi lo v : Nat) : Dev := d.setReg a (putBits (d.rn a) hi lo v)

/-- Hardware sets one bit of a register. -/
def setFlag (d : Dev) (a i : Nat) (v : Bool) : Dev := d.setFld a i i (b2n v)

/-- A counter counts; it wraps at 32 bits (R12). -/
def bump (d : Dev) (a : Nat) (n : Nat := 1) : Dev := d.setReg a (d.rn a + n)

/-- A counter that saturates at its greatest value. -/
def bumpSat (d : Dev) (a : Nat) (n : Nat := 1) : Dev := d.setReg a (min (d.rn a + n) 0xFFFFFFFF)

/-- A register that holds a maximum. -/
def maxReg (d : Dev) (a v : Nat) : Dev := d.setReg a (max (d.rn a) v)

/-- A value held in two registers (R13). -/
def rn64 (d : Dev) (lo hi : Nat) : Nat := pair64 (d.reg hi) (d.reg lo)

/-- Set a value held in two registers. -/
def setReg64 (d : Dev) (lo hi v : Nat) : Dev := (d.setReg lo v).setReg hi (v / 2 ^ 32)

/-- A counter held in two registers counts. -/
def bump64 (d : Dev) (lo hi n : Nat) : Dev := d.setReg64 lo hi (d.rn64 lo hi + n)

/-! ## Free values (log entry 2) -/

/-- The next free value. -/
def freeVal (d : Dev) : DWord := Config.freeValue d.free

/-- Count a draw. -/
def drew (d : Dev) : Dev := { d with free := d.free + 1 }

/-- n free bytes. -/
def freeBytes (d : Dev) (n : Nat) : Dev × List Byte :=
  ({ d with free := d.free + ceilDiv n 8 },
    (List.range n).map (fun i => (Config.freeValue (d.free + i / 8) >>> (8 * (i % 8))).setWidth 8))

/-! ## Memory (R307) -/

/-- First address of DDR5, of the register window and of host memory (R307). -/
def ddrBase : Nat := 0x8000000000
def hostBase : Nat := 0x800000000000

/-- One byte. -/
def byte (d : Dev) (a : Nat) : Byte := d.mem.get 0 a

/-- A run of bytes. -/
def bytes (d : Dev) (a : Nat) : Nat → List Byte
  | 0 => []
  | n + 1 => d.byte a :: bytes d (a + 1) n

/-- A write of n bytes modifies a line that the system cache holds: DDR5 keeps what it holds under it (R440). -/
def modifies (d : Dev) (a n : Nat) (x : ScLine) : ScLine :=
  let l := ddrBase + 64 * x.line
  if n ≠ 0 ∧ x.under = [] ∧ l < a + n ∧ a < l + 64 then { x with under := d.bytes l 64 } else x

/-- Write a run of bytes. -/
def putBytes (d : Dev) (a : Nat) (bs : List Byte) : Dev :=
  { d with
    mem := d.mem.setMany 0 a bs
    cache := d.cache.map (d.modifies a bs.length)
    badMem := ⟨d.badMem.cells.filter (fun c => decide (c.1 < a) || decide (a + bs.length ≤ c.1))⟩ }

/-- A read of n bytes meets one whose check fails: the requester receives an error response (R307, R440). -/
def readBad (d : Dev) (a n : Nat) : Bool := d.badMem.cells.any (fun c => decide (a ≤ c.1) && decide (c.1 < a + n))

/-- The 64 bytes of a line fail their check, or are good again. -/
def setBadLine (d : Dev) (a : Nat) (bad : Bool) : Dev :=
  { d with badMem := d.badMem.setMany false a (List.replicate 64 bad) }

/-- A little-endian number of n bytes (R9). -/
def num (d : Dev) (a n : Nat) : Nat := ofBytes (d.bytes a n)

/-- Write a little-endian number of n bytes (R9). -/
def putNum (d : Dev) (a n v : Nat) : Dev := d.putBytes a (toBytes n v)

/-- Bytes of DDR5 that the board description installed (R307, R323). -/
def ddrSize (d : Dev) : Nat := d.rn64 Reg.memDdrSizeLo Reg.memDdrSizeHi

/-- A device address names installed DDR5, not in self-refresh (R307, R409, R421). -/
def isDdr (d : Dev) (a : Nat) : Bool :=
  decide (ddrBase ≤ a) && decide (a < ddrBase + min d.ddrSize 0x8000000000) && d.fld Reg.memDdrStat 11 8 == 0

/-- A device address names Pond memory. -/
def isPond (a : Nat) : Bool := decide (a < 0x2000000)

/-- A device address names host memory. -/
def isHost (a : Nat) : Bool := decide (hostBase ≤ a) && decide (a < 0x1000000000000)

/-- A Pond bank is ON (R315): POND_STATE. -/
def pondOn (d : Dev) (bank : Nat) : Bool := bits (d.rn (Reg.pondState (bank / 16))) (2 * (bank % 16) + 1) (2 * (bank % 16)) == 3

/-- What stands at a device address (R307). -/
inductive Place where
  | pond | pondOff | ddr | host | unmapped
deriving DecidableEq, Repr

/-- What an access of n bytes reaches; an access that spans two places reaches none. In basic mode the MEM domain is fenced
off (R25). -/
def placeOf (d : Dev) (a n : Nat) : Place :=
  let z := a + (n - 1)
  if isPond a && isPond z then
    if d.fld Reg.pwrStat 18 16 = 7 then .unmapped else
    if d.pondOn (a / 0x80000) && d.pondOn (z / 0x80000) then .pond else .pondOff
  else if d.isDdr a && d.isDdr z then .ddr
  else if isHost a && isHost z then .host
  else .unmapped

/-! ## The Vault (R316) -/

/-- A record of the Vault: its length in one byte, then its bytes; an empty one where the Vault has been wiped. The layout is the
model's (log entry 127). -/
def vaultRec (d : Dev) (o : Nat) : List Byte :=
  (List.range (d.sec.vault.get 0 o).toNat).map (fun i => d.sec.vault.get 0 (o + 1 + i))

/-- MP firmware writes a record. -/
def putVault (d : Dev) (o : Nat) (bs : List Byte) : Dev :=
  let l := BitVec.ofNat 8 bs.length :: bs
  { d with sec := { d.sec with vault := SMap.setMany 0 d.sec.vault o l } }

/-- The identity key and the journal MAC key (R464, R473). -/
def idKey (d : Dev) : List Byte := d.vaultRec 0
def macKey (d : Dev) : List Byte := d.vaultRec 256

/-! ## System cache (R308-R311) -/

/-- The slice of a DDR5 line number: O[9:6] ⊕ O[17:14] ⊕ O[25:22] (R308). -/
def sliceOf (line : Nat) : Nat := (bits line 3 0 ^^^ bits line 11 8) ^^^ bits line 19 16

/-- Two lines share a set of one slice. -/
def sameSet (x y : Nat) : Bool := sliceOf x == sliceOf y && Config.cacheSet x == Config.cacheSet y

/-- A way of a slice is off by its fuses or the journal (R463). -/
def wayOff (d : Dev) (slice w : Nat) : Bool := d.sec.off.contains (4, slice * 16 + w)

/-- The ways of a slice in which a class may allocate (R309, R463). -/
def classWays (d : Dev) (c slice : Nat) : List Nat :=
  (maskBits 16 (d.rn (Reg.scWaymask c))).filter (fun w => !d.wayOff slice w)

/-- The least recently used of a list of lines. -/
def oldest : List ScLine → Option ScLine
  | [] => none
  | x :: xs =>
    match oldest xs with
    | none => some x
    | some y => some (if y.used < x.used then y else x)

/-- Allocate a line under a class: an empty way of its mask, else the least recently used unpinned line (R309). -/
def scAlloc (d : Dev) (c line : Nat) (pin ahead : Bool) : Dev :=
  let cset := d.cache.filter (fun x => sameSet x.line line)
  let ways := d.classWays c (sliceOf line)
  let place (cs : List ScLine) (w : Nat) : Dev :=
    { d with cache := ⟨line, w, pin, ahead, d.cacheAge, []⟩ :: cs, cacheAge := d.cacheAge + 1 }
  match ways.find? (fun w => !cset.any (fun x => x.way == w)) with
  | some w => place d.cache w
  | none =>
    match oldest (cset.filter (fun x => ways.contains x.way && !x.pinned)) with
    | none => d
    | some v => place (d.cache.filter (fun x => x != v)) v.way

/-- A prefetcher fetches a line that the cache does not hold (R311). -/
def pfFetch (d : Dev) (c line : Nat) : Dev :=
  if d.cache.any (fun x => x.line == line) then d else (d.scAlloc c line false true).bump Reg.scPfIssued

/-- Lines of one page that a stream of a given stride runs ahead over, after a line. -/
def pfAhead (line : Nat) (stride : Int) : Nat → List Nat
  | 0 => []
  | k + 1 =>
    let t := (line : Int) + stride
    if 0 ≤ t ∧ t.toNat / 64 = line / 64 then t.toNat :: pfAhead t.toNat stride k else []

/-- Prefetchers of a slice that are busy (R311). -/
def pfBusy (d : Dev) (slice : Nat) : List Prefetch := d.pfs.filter (fun p => p.slice == slice)

/-- A detected stream runs ahead of the line just asked for, and ends with its page (R311, log entry 140). -/
def pfRun (d : Dev) (p : Prefetch) (line : Nat) : Dev :=
  let dist := max 1 (d.fld Reg.scPfCtl 5 0)
  let ls := pfAhead line p.stride dist
  let d := { d with pfs := d.pfs.filter (fun q => q != p) }
  let d := if ls.length < dist then d else { d with pfs := { p with line := line, moved := d.cacheAge } :: d.pfs }
  ls.foldl (fun d l => d.pfFetch p.cls l) d

/-- A miss or hit of a class moves the prefetch streams: a detected stream that the line continues runs on; three misses at
one stride of 1 to 8 lines within a page form one, which is dropped where the prefetchers of its line's slice are all busy
(R311, log entry 124). -/
def pfObserve (d : Dev) (c line : Nat) (miss : Bool) : Dev :=
  let on := d.pfs.filter (fun p => p.cls == c && p.stride != 0 && (p.line : Int) + p.stride == (line : Int))
  let d := on.foldl (fun d p => d.pfRun p line) d
  if !miss then d else
  let h := d.pfHist.get [] c
  let d := { d with pfHist := d.pfHist.set [] c ((line :: h).take 2) }
  match h with
  | [a, b] =>
    let step : Int := line - a
    if step = (a : Int) - b ∧ step ≠ 0 ∧ step.natAbs ≤ 8 ∧ a / 64 = line / 64 ∧ b / 64 = line / 64 ∧ on = [] ∧
        (d.pfBusy (sliceOf line)).length < 32 then
      d.pfRun ⟨sliceOf line, c, step, line, 0, d.cacheAge⟩ line
    else d
  | _ => d

/-- A lookup hits a line: it counts, and the line is the most recently used and no longer ahead of its use (R309). -/
def scHit (d : Dev) (x : ScLine) : Dev :=
  let d := { d with
    cache := d.cache.map (fun (y : ScLine) => if y.line = x.line then { y with used := d.cacheAge, ahead := false } else y)
    cacheAge := d.cacheAge + 1 }
  let d := d.bump64 Reg.scHitsLo Reg.scHitsHi 1
  if x.ahead then d.bump Reg.scPfUseful else d

/-- One access of a class to a DDR5 line through the system cache: hits, misses, allocation, prefetch. -/
def scTouch (d : Dev) (c line : Nat) : Dev :=
  match d.cache.find? (fun x => x.line == line) with
  | some x => (d.scHit x).pfObserve c line false
  | none => ((d.bump64 Reg.scMissesLo Reg.scMissesHi 1).scAlloc c line false false).pfObserve c line true

/-- Lines of DDR5 that a run of bytes touches. -/
def linesOf (a n : Nat) : List Nat :=
  let o := a - ddrBase
  (List.range ((o + n - 1) / 64 + 1 - o / 64)).map (· + o / 64)

/-- Every line of a run of bytes. -/
def scTouchAll (d : Dev) (c a n : Nat) : Dev := (linesOf a n).foldl (fun d l => d.scTouch c l) d

/-- The stream of a list that advanced least recently. -/
def pfOldest : List Prefetch → Option Prefetch
  | [] => none
  | x :: xs =>
    match pfOldest xs with
    | none => some x
    | some y => some (if y.moved < x.moved then y else x)

/-- A declared stream takes a free prefetcher of its first line's slice, else that of the least recently advanced detected
stream, and fetches exactly its lines (R311, log entry 124); none where it must wait. -/
def pfTake (d : Dev) (c first count : Nat) : Option Dev :=
  let go (d : Dev) : Dev :=
    (List.range count).foldl (fun d k => d.pfFetch c (first + k))
      { d with pfs := ⟨sliceOf first, c, 0, first, count, d.cacheAge⟩ :: d.pfs }
  let busy := d.pfBusy (sliceOf first)
  if busy.length < 32 then some (go d) else
  (pfOldest (busy.filter (fun p => p.stride != 0))).map (fun v => go { d with pfs := d.pfs.filter (fun p => p != v) })

/-- A stream is declared over a run of DDR5 bytes: it begins, or waits for a prefetcher (R311). -/
def pfDeclare (d : Dev) (w : Nat × Nat × Nat) : Dev :=
  (d.pfTake w.1 w.2.1 w.2.2).getD { d with pfWait := d.pfWait ++ [w] }

/-- The declared stream of a class over n bytes of DDR5. -/
def streamOver (c a n : Nat) : Nat × Nat × Nat := (c, (a - ddrBase) / 64, (linesOf a n).length)

/-- A transfer from DDR5 begins, and declares its stream (R104, R208, R311). -/
def scDeclare (d : Dev) (c a n : Nat) : Dev :=
  if n = 0 ∨ d.placeOf a n ≠ .ddr then d else d.pfDeclare (streamOver c a n)

/-- A transfer whose stream was declared ends: its prefetcher is free for the streams that wait (log entry 124). -/
def scDone (d : Dev) (c a n : Nat) : Dev :=
  let w := streamOver c a n
  let mine (p : Prefetch) : Bool := p.stride == 0 && p.cls == c && p.line == w.2.1 && p.count == w.2.2
  match d.pfs.find? mine with
  | some p =>
    let waiting := d.pfWait
    waiting.foldl pfDeclare { d with pfs := d.pfs.erase p, pfWait := [] }
  | none => { d with pfWait := d.pfWait.erase w }

/-- Every declared stream ends with the transfers of a job (log entry 124). -/
def scDrop (d : Dev) : Dev := { d with pfs := d.pfs.filter (fun p => p.stride != 0), pfWait := [] }

/-- A framer's write of a line: a lookup of class 1 (R309), and its line is pinned: at most 8 pinned lines in a set, only in
class-1 ways (R310, log entry 124). -/
def scPin (d : Dev) (line : Nat) : Dev :=
  let hit := d.cache.find? (fun x => x.line == line)
  let d := match hit with
    | some x => d.scHit x
    | none => d.bump64 Reg.scMissesLo Reg.scMissesHi 1
  let pinned := d.cache.filter (fun x => sameSet x.line line && x.line != line && x.pinned)
  let ways := d.classWays 1 (sliceOf line)
  let d :=
    if hit.any (·.pinned) then d
    else if 8 ≤ pinned.length || ways.all (fun w => pinned.any (fun x => x.way == w)) then d.bump Reg.scPinMisses
    else
      let d := { d with cache := d.cache.filter (fun x => x.line != line) }
      let d := (d.scAlloc 1 line true false).bump Reg.scPinned
      match hit with
      | some x => { d with cache := d.cache.map (fun (y : ScLine) => if y.line = line then { y with under := x.under } else y) }
      | none => d
  d.pfObserve 1 line hit.isNone

/-- The pins of a run of bytes are released (R310). -/
def scUnpin (d : Dev) (a n : Nat) : Dev :=
  let ls := linesOf a n
  let k := (d.cache.filter (fun x => x.pinned && ls.contains x.line)).length
  let d := { d with cache := d.cache.map (fun (x : ScLine) => if ls.contains x.line then { x with pinned := false } else x) }
  d.setReg Reg.scPinned (d.rn Reg.scPinned - k)

/-! ## Host-bound requests and interrupts (R356, R361, R362) -/

/-- A write to host memory: performed, or waiting while Bus Master Enable is 0 (R356). -/
def hostWrite (d : Dev) (sender : HostSender) (addr : Nat) (data : List Byte) : Dev :=
  if d.bme then d.putBytes (hostBase + addr % 2 ^ 47) data
  else Dev.bump { d with hostWait := d.hostWait ++ [HostReq.mk sender (addr % 2 ^ 47) data] } Reg.hifBmeHeld

/-- The vector or the function is masked; so it is until the host has enabled MSI-X (R362, log entry 128). -/
def masked (d : Dev) (v : Nat) : Bool := d.fnMask || !d.flag Reg.hifStat 3 || d.flag (Reg.msixCtl v) 0

/-- A due MSI-X message: sent, or held in the PBA while the vector or the function is masked (R362). -/
def sendVector (d : Dev) (v : Nat) : Dev :=
  if d.masked v then d.setFlag (Reg.msixPba (v / 32)) (v % 32) true
  else d.hostWrite (.msix v) (d.rn64 (Reg.msixAddrLo v) (Reg.msixAddrHi v)) (toBytes 4 (d.rn (Reg.msixData v)))

/-- A vector is pending while COUNT differs from SEEN (R362). -/
def vectorPending (d : Dev) (v : Nat) : Bool := d.reg (Reg.intVecCount v) != d.reg (Reg.intVecSeen v)

/-- An event of a vector's sources (R362). -/
def raiseVector (d : Dev) (v : Nat) : Dev :=
  let was := d.vectorPending v
  let d := d.bump (Reg.intVecCount v)
  if !was && d.vectorPending v then d.sendVector v else d

/-- The timebase interrupt (R53, R57). -/
def tbInterrupt (d : Dev) : Dev := d.raiseVector 1

/-! ## Error logs (R446-R448) -/

/-- Classes of R438. -/
def clsEvent : Nat := 1
def clsData : Nat := 2
def clsFail : Nat := 3
def clsFatal : Nat := 4

/-- Units of R439. -/
def unitFlume : Nat := 0x100
def unitIntake : Nat := 0x101
def unitJunction : Nat := 0x102
def unitCache : Nat := 0x103
def unitDdr : Nat := 0x104
def unitLeat : Nat := 0x105
def unitHost : Nat := 0x106
def unitMp : Nat := 0x108
def unitSentinel : Nat := 0x109

/-- A unit's log. -/
def log (d : Dev) (u : Nat) : ErrLog := d.errs.get {} u

/-- Replace a unit's log. -/
def setLog (d : Dev) (u : Nat) (l : ErrLog) : Dev := { d with errs := d.errs.set {} u l }

/-- A held unit stops at its next boundary (R448). -/
def held (d : Dev) (u : Nat) : Bool := (d.log u).held

/-- A log entry's number (R446). -/
def entryOf (cls source index addr : Nat) (nested dredger : Bool) (tbc : Nat) : Nat :=
  cls + b2n nested * 2 ^ 4 + b2n dredger * 2 ^ 5 + source % 256 * 2 ^ 8 + index % 2 ^ 16 * 2 ^ 16 +
    addr % 2 ^ 24 * 2 ^ 32 + tbc % 2 ^ 64 * 2 ^ 64

/-- Class counters of a unit (R454). -/
def ErrLog.count (l : ErrLog) (cls : Nat) : ErrLog :=
  if cls = clsEvent then { l with cntEvent := l.cntEvent + 1 }
  else if cls = clsData then { l with cntData := l.cntData + 1 }
  else if cls = clsFail then { l with cntFail := l.cntFail + 1 }
  else { l with cntFatal := l.cntFatal + 1 }

/-- The key that decides coalescing: CLASS, SOURCE, INDEX and ADDR (R447). -/
def entryKey (e : Nat) : Nat × Nat := (e % 16, bits e 55 8)

/-- A unit that a full log holds: NCs, the Flume array, intake, junction and Sentinel (R448). -/
def holds (u : Nat) : Bool := decide (u < 256) || [unitFlume, unitIntake, unitJunction, unitSentinel].contains u

/-- The order of a unit's errors of one cycle: SOURCE, then ADDR (R447). The model takes a TBC period for the cycle (log entry
119). -/
def errBefore (x y : Nat) : Bool :=
  decide (bits x 15 8 < bits y 15 8) || (bits x 15 8 == bits y 15 8 && decide (bits x 55 32 < bits y 55 32))

/-- An error takes its place among those of its cycle. -/
def errInsert (x : Nat × Option Site) : List (Nat × Option Site) → List (Nat × Option Site)
  | [] => [x]
  | y :: ys => if errBefore x.1 y.1 then x :: y :: ys else y :: errInsert x ys

/-- NESTED of an entry (R447). -/
def withNested (e : Nat) (nested : Bool) : Nat := putBits e 4 4 (b2n nested)

/-- The unhandled entries of a unit's log that a cycle has appended, and those of earlier cycles. -/
def errSplit (tbc : Nat) (l : List ErrTodo) : List ErrTodo × List ErrTodo :=
  (l.filter (fun t => t.entry.toNat / 2 ^ 64 != tbc % 2 ^ 64), l.filter (fun t => t.entry.toNat / 2 ^ 64 == tbc % 2 ^ 64))

/-- The entries of one cycle take their numbers in order; all but the first of an empty log are nested. -/
def errNumber (nested : Bool) : List Nat → List (Nat × Option Site) → List ErrTodo
  | n :: ns, x :: xs => ⟨n, BitVec.ofNat 128 (withNested x.1 nested), x.2⟩ :: errNumber true ns xs
  | _, _ => []

/-- An error reaches its unit's log: coalesced with the newest unhandled entry, appended in its place among the errors of its
cycle, or lost from a full log (R447). Of a cycle's errors a full log loses the last. -/
def logError (d : Dev) (u cls source index addr : Nat) (dredger : Bool := false) (site : Option Site := none) : Dev :=
  let l := ErrLog.count (d.log u) cls
  let e := entryOf cls source index addr false dredger d.tb.tbc
  let slot := (match l.todo.getLast? with | some t => t.num | none => 0) % 8
  let newest := (l.entries.get 0 slot).toNat
  if !l.todo.isEmpty ∧ entryKey newest = entryKey e then
    let n := putBits newest 63 56 (min 255 (bits newest 63 56 + 1))
    d.setLog u { l with entries := l.entries.set 0 slot (BitVec.ofNat 128 n) }
  else
    let full := decide (8 ≤ l.wr - l.hnd)
    let p := errSplit d.tb.tbc l.todo
    let now := errInsert (e, site) (p.2.map (fun t => ((l.entries.get 0 (t.num % 8)).toNat, t.site)))
    let nums := p.2.map (·.num) ++ (if full then [] else [l.wr])
    let new := errNumber (!p.1.isEmpty) nums now
    let entries := new.foldl (fun (m : SMap QWord) t => m.set 0 (t.num % 8) t.entry) l.entries
    let l := { l with entries := entries, todo := p.1 ++ new }
    if full then d.setLog u { l with lost := l.lost + 1, held := l.held || holds u }
    else ((d.setLog u { l with wr := l.wr + 1 }).bump Reg.errAppends).raiseVector 0

/-- INDEX of the entries that a unit appended in the present cycle, where they meet a test, becomes another. -/
def setErrIndex (d : Dev) (u : Nat) (p : Nat → Bool) (index : Nat) : Dev :=
  let l := d.log u
  let hit := l.todo.filter (fun t => t.entry.toNat / 2 ^ 64 == d.tb.tbc % 2 ^ 64 && p (l.entries.get 0 (t.num % 8)).toNat)
  d.setLog u { l with entries := hit.foldl (fun (m : SMap QWord) t =>
    m.set 0 (t.num % 8) (BitVec.ofNat 128 (putBits (m.get 0 (t.num % 8)).toNat 31 16 index))) l.entries }

/-! ## Accesses to device addresses (R307) -/

/-- A range of n bytes in which every byte can be reached. -/
def reachable (d : Dev) (a n : Nat) : Bool :=
  match d.placeOf a n with
  | .pond => true
  | .ddr => true
  | .host => true
  | _ => false

/-- A read of n bytes gets its data: every byte can be reached and passes its check. -/
def readable (d : Dev) (a n : Nat) : Bool := d.reachable a n && !d.readBad a n

/-- A Pond access to a bank that is not ON counts (R315). -/
def countOff (d : Dev) (a n : Nat) : Dev := if d.placeOf a n = .pondOff then d.bump Reg.pondOffacc else d

/-- A requester's access goes through the system cache when it reaches DDR5 (R308, R309). -/
def touch (d : Dev) (c a n : Nat) : Dev := if d.placeOf a n = .ddr then d.scTouchAll c a n else d

/-- A run of bytes becomes 0, with good checks. -/
def zeroMem (d : Dev) (a n : Nat) : Dev :=
  let out (k : Nat) : Bool := !(decide (a ≤ k) && decide (k < a + n))
  { d with mem := ⟨d.mem.cells.filter (fun c => out c.1)⟩, badMem := ⟨d.badMem.cells.filter (fun c => out c.1)⟩ }

/-- An access by a unit receives an error response: an entry in the unit's log, and the count of a Pond bank that is not ON
(R307, R315, log entry 122). -/
def accessErr (d : Dev) (u index a : Nat) : Dev :=
  (if d.placeOf a 1 = .pondOff then d.bump Reg.pondOffacc else d).logError u clsData (if isPond a then 6 else 0xB) index (a / 64)

/-! ## Frames whose data an error touched (R452) -/

/-- MEM_ERR is set in every frame, from its first sample to its record, that a test picks. -/
def markMem (d : Dev) (p : Frame → Bool) (q : Nat → Filling → Bool) : Dev :=
  let m (f : Frame) : Frame := if p f then { f with memErr := true } else f
  let mj (f : JFrame) : JFrame := { f with fr := m f.fr }
  let strms : SMap Strm := ⟨d.strms.cells.map (fun (c : Nat × Strm) =>
    (c.1, { c.2 with filling := c.2.filling.map (fun (f : Filling) => if q c.1 f then { f with memErr := true } else f) }))⟩
  let fl : Flume := { d.flume with
    staged := d.flume.staged.map (fun (s : Staged) => { s with fr := m s.fr })
    recs := d.flume.recs.map (fun (r : AdmitRec) => { r with fr := m r.fr })
    passed := d.flume.passed.map (fun (r : Frame × Bool) => (m r.1, r.2)) }
  let jn : Junction := { d.jn with eligible := d.jn.eligible.map mj, active := d.jn.active.map mj }
  { d with strms := strms, flume := fl, jn := jn }

/-! ## The progress ledger (R290, R291) -/

/-- Stage bits of R291. -/
def stIntake : Nat := 0
def stAdmitted : Nat := 1
def stLg (k : Nat) : Nat := 2 + k
def stFlume : Nat := 18
def stInjected : Nat := 19
def stWindow : Nat := 20
def stResult : Nat := 21
def stRing : Nat := 22
def stDropped : Nat := 29
def stLost : Nat := 30
def stNotDone : Nat := 31

/-- The 32 bytes of an entry (R290). -/
def ledgerBytes (e : LedgerE) : List Byte :=
  toBytes 1 e.useq ++ toBytes 1 e.stream ++ zeroBytes 2 ++ toBytes 4 e.frame ++ toBytes 8 e.tbc ++ toBytes 4 e.stages ++
    toBytes 4 (min e.wait 0xFFFFFFFF) ++ toBytes 4 e.tinj ++ zeroBytes 3 ++ toBytes 1 e.useq

/-- The ledger's entry for a frame, fresh where the entry held another frame. -/
def ledgerEntry (d : Dev) (stream frame : Nat) : LedgerE :=
  let n := d.fld Reg.jnLedgerCfg 15 0
  let e := d.ledger.get {} (stream * 65536 + frame % max n 1)
  if e.frame = frame % 2 ^ 32 ∧ e.stages ≠ 0 ∧ !e.old then e else { useq := e.useq, stream := stream, frame := frame % 2 ^ 32 }

/-- An entry is posted whole, with its next update count (R290). -/
def postEntry (d : Dev) (key : Nat) (e : LedgerE) : Dev :=
  let e := { e with useq := (e.useq + 1) % 256 }
  { d with ledger := d.ledger.set {} key e }.hostWrite .ledger
    (d.rn64 Reg.jnLedgerBaseLo Reg.jnLedgerBaseHi + key / 65536 * d.fld Reg.jnLedgerCfg 15 0 * 32 + key % 65536 * 32) (ledgerBytes e)

/-- Change a frame's entry, and post it when one of its stage bits changed (R290). -/
def ledgerPut (d : Dev) (stream frame : Nat) (f : LedgerE → LedgerE) : Dev :=
  let n := d.fld Reg.jnLedgerCfg 15 0
  if n = 0 then d else
  let e := d.ledgerEntry stream frame
  let e' := f e
  let key := stream * 65536 + frame % n
  if e'.stages = e.stages then { d with ledger := d.ledger.set {} key e' } else d.postEntry key e'

/-- Set one stage bit of a frame (R291). -/
def stage (d : Dev) (stream frame b : Nat) : Dev :=
  d.ledgerPut stream frame (fun e => { e with stages := putBits e.stages b b 1 })

/-! ## Job state (R395) -/

def jsNone : Nat := 0
def jsLoaded : Nat := 1
def jsArmed : Nat := 2
def jsRunning : Nat := 3
def jsDrained : Nat := 4
def jsFaulted : Nat := 5

/-- VCI_STAT.JOB_STATE. -/
def jobState (d : Dev) : Nat := d.fld Reg.vciStat 2 0

/-- The locks NC_STAT.JOB and TB_STAT.JOB (R395). -/
def jobOn (d : Dev) : Bool := decide (2 ≤ d.jobState)

/-- MR_STAT.FLOW: a job runs and the fabric is not drained (R248). -/
def flow (d : Dev) : Bool := d.flag Reg.mrStat 1

/-! ## Power state, activity and fences (R353, R406, R408, R421) -/

/-- PWR_STAT.STATE. -/
def pwrState (d : Dev) : Nat := d.fld Reg.pwrStat 18 16

def psRun : Nat := 0
def psIdle : Nat := 1
def psNap : Nat := 2
def psSentinel : Nat := 3
def psBasic : Nat := 7

/-- The clocks of the domains that IDLE gates run: INTAKE, LEAT, FLUME, MILL, JUNC, MEM and the APCs (R25, R407). -/
def clocksOn (d : Dev) : Bool := d.pwrState == psRun

/-- What a domain does that IDLE gates and the deeper states switch off or keep without a clock. -/
def whileClocked (f : Dev → Dev) (d : Dev) : Dev := if d.clocksOn then f d else d

/-- Basic mode (R421). -/
def basic (d : Dev) : Bool := d.fld Reg.pwrStat 18 16 == 7

/-- An activity of R408 restarts the idle timer. -/
def activity (d : Dev) : Dev := { d with pwr := { d.pwr with lastAct := d.tb.tbc, acted := true } }

/-- A BAR0 offset lies in a block that no domain serves: fenced in basic mode or in the life-cycle state END, or off (in NAP
and SENTINEL, domains in retention included, and after a thermal trip; R353, R421, R470, R494, log entry 16). -/
def fenced (d : Dev) (a : Nat) : Bool :=
  let s := d.pwrState
  let low := decide (a < 0x50000) || (decide (0x60000 ≤ a) && decide (a < 0x70000))
  let dark := (decide (0x50000 ≤ a) && decide (a < 0x60000)) || (decide (0x100000 ≤ a) && decide (a < 0x500000))
  if (rowsAt a).isEmpty then false
  else if !d.pins.thermtripN then true
  else if d.fld Reg.secLc 2 0 = 5 then decide (0x10000 ≤ a) && !(decide (0x500000 ≤ a) && decide (a < 0x600000))
  else if s = psBasic then !low
  else if s = psNap then dark
  else if s = psSentinel then !(decide (0x20000 ≤ a) && decide (a < 0x30000)) && !(decide (0x60000 ≤ a) && decide (a < 0x70000))
  else false

end Dev

/-- A command's effect on the device, as its outcome. -/
def onDev (f : Dev → Dev) (s : State) : Host.Outcome State Fault Refusal := .next { s with dev := f s.dev }

/-- A write of a register with a behaviour of its own: an activity (R408), ignored and counted in a fenced block (R353). -/
def onReg (a : Nat) (f : Dev → Dev) (s : State) : Host.Outcome State Fault Refusal :=
  onDev (fun d => if d.fenced a then d.activity.bump Reg.glbFencedAcc else (f d).activity) s

end Sys2Proof.Machine
end

