-- ==== Sys2Proof/Machine/Checks.lean ====
section
/-! DEFINITION. Stored data whose check fails: frame slots, DDR5 channels, and what a read that meets such data leaves behind
(R78, R317-R320, R435, R440, R452). -/

namespace Sys2Proof.Machine

namespace Dev

/-! ## Frame slots -/

/-- Bytes of one sample of a stream: complex 4, real 2 (R73, R78). -/
def sampBytes (d : Dev) (n : Nat) : Nat :=
  if (d.strms.get {} n).gather || d.flag (Reg.intkStrSrc n) 8 || d.flag (Reg.intkStrCtl n) 16 then 4 else 2

/-- Samples of a frame and between frames (R77, R85). -/
def frameLen (d : Dev) (n : Nat) : Nat := 64 * d.fld (Reg.intkStrFrame n) 10 0
def frameHop (d : Dev) (n : Nat) : Nat := 64 * d.fld (Reg.intkStrFrame n) 26 16

/-- Bytes of one slot (R78). -/
def slotSize (d : Dev) (n : Nat) : Nat := ceilDiv (64 + d.frameLen n * d.sampBytes n) 256 * 256

/-- Device address of a slot's descriptor. -/
def slotAddr (d : Dev) (n k : Nat) : Nat :=
  d.rn64 (Reg.intkStrBufLo n) (Reg.intkStrBufHi n) + k * d.slotSize n

/-- MEM_ERR in the frames that use a line: any line of their slot, from its descriptor to its padding (R452). -/
def markLine (d : Dev) (a : Nat) : Dev :=
  let within (at_ n len : Nat) : Bool := decide (at_ ≤ a + 63) && decide (a < at_ + max (d.slotSize n) len)
  d.markMem (fun f => within (f.addr - 64) f.stream (64 + f.len)) (fun n f => within (d.slotAddr n f.slot) n 0)

/-! ## DDR5 channels (R317-R320) -/

/-- DDR5 channels in use, from MEM_DDR_STAT.TRAINED (R317). -/
def ddrChannels (d : Dev) : Nat := popcount 4 (d.fld Reg.memDdrStat 7 4)

/-- Subchannel index of a DDR5 offset (R318). -/
def ddrIndex (d : Dev) (o : Nat) : Nat :=
  if d.ddrChannels ≤ 2 then (bits o 9 8 ^^^ bits o 19 18) ^^^ bits o 29 28
  else (bits o 10 8 ^^^ bits o 20 18) ^^^ bits o 30 28

/-- The channel of an offset. -/
def ddrChannel (d : Dev) (o : Nat) : Nat := d.ddrIndex o / 2

/-- A failed check of one burst counts by kind. -/
def countCheck (d : Dev) (c : Nat) (parity address : Bool) : Dev :=
  let d := if parity then d.bump (Reg.ddrParErr c) else d
  if address then d.bump (Reg.ddrAbcErr c) else d

/-- A line that fails its re-read: counted, logged, and given up. -/
def ddrFailed (d : Dev) (c o : Nat) (dredger : Bool := false) : Dev :=
  let a := ddrBase + o / 64 * 64
  Dev.logError (((d.bump (Reg.ddrRdErr c)).setBadLine a true).markLine a) unitDdr clsData 0xB c (o / 64) dredger
    (some (.ddrLine (BitVec.ofNat 33 (o / 64))))

/-- A line fails its first read and its re-read, each by a kind of check that is free (R320, log entry 2). -/
def ddrFails (d : Dev) (c o : Nat) (dredger : Bool := false) : Dev :=
  let v := d.freeVal.toNat
  let d := (d.drew.countCheck c (bit v 0) (!bit v 0 || bit v 1)).countCheck c (bit v 2) (!bit v 2 || bit v 3)
  d.ddrFailed c o dredger

/-! ## Reads (R435, R440) -/

/-- A read meets a line whose check fails: it enters the log of its memory, and marks the frames that use it. Host memory has no
log here. -/
def lineFails (d : Dev) (a : Nat) : Dev :=
  if isPond a then
    (d.markLine a).logError unitCache clsData 6 (a / 0x80000) (a % 0x80000 / 64) false
      (some (.pond (Fin.ofNat 64 (a / 0x80000)) (Fin.ofNat 8192 (a % 0x80000 / 64))))
  else if d.isDdr a then d.ddrFails (d.ddrChannel (a - ddrBase)) (a - ddrBase)
  else d

/-- Lines of n bytes with a byte whose check fails. -/
def badLines (d : Dev) (a n : Nat) : List Nat :=
  ((d.badMem.cells.filter (fun c => decide (a ≤ c.1) && decide (c.1 < a + n))).map (fun c => c.1 / 64 * 64)).eraseDups

/-- A read of n bytes, as to its checks: every failed line is found (R435). -/
def readChecks (d : Dev) (a n : Nat) : Dev := (d.badLines a n).foldl lineFails d

/-- A read of n bytes gets an error response: it counts at a Pond bank that is not ON, or its failed lines are found (R307,
R315, R440). -/
def readRefused (d : Dev) (a n : Nat) : Dev := if d.reachable a n then d.readChecks a n else d.countOff a n

end Dev

end Sys2Proof.Machine
end

