-- ==== Sys2Proof/Machine/Wake.lean ====
section
/-! DEFINITION. Entry conditions of the power states, and wake (R359, R408-R413, R483). -/

namespace Sys2Proof.Machine

namespace Dev

/-! ## Entry conditions (R408) -/

/-- RUN → IDLE. -/
def idleOk (d : Dev) : Bool :=
  decide (d.jobState ≤ jsLoaded) && (List.range 16).all (fun c => !d.flag (Reg.cdStat c) 0) && d.fld Reg.vciStat 25 16 == 0 &&
    d.rings.cells.all (fun x => x.2.put.isEmpty)

/-- IDLE → NAP. An activity in IDLE ends it, so no deeper entry begins then (R410, R411). -/
def napOk (d : Dev) : Bool := !d.pwr.acted && decide (d.jobState ≤ jsLoaded) && (d.pwr.link == .l1 || d.pwr.d3hot || d.pwr.link == .down)

/-- NAP → SENTINEL. -/
def sentinelOk (d : Dev) : Bool := decide (d.jobState = jsNone) && (d.pwr.link == .l2 || !d.pins.perstN)

/-- The next entry's conditions hold in the present state. -/
def entryOk (d : Dev) : Bool :=
  if d.pwrState = psRun then d.idleOk else if d.pwrState = psIdle then d.napOk
  else if d.pwrState = psNap then d.sentinelOk else false

/-- A target is set that lies deeper than the present state. -/
def wantsDeeper (d : Dev) : Bool := decide (d.pwrState < d.pwr.target) && decide (d.pwrState ≤ psNap)

/-- PWR_STAT.ENTERING: an entry has begun and has not committed; PWR_STAT.REQ_PEND: a target waits (R408, R410). -/
def entering (d : Dev) : Bool := d.wantsDeeper && d.entryOk && d.pwr.exitTo.isNone
def reqPend (d : Dev) : Bool := d.wantsDeeper && !d.entryOk

/-- Set a target; the deeper of two stands (log entry 145). -/
def setTarget (d : Dev) (t : Nat) : Dev := { d with pwr := { d.pwr with target := max d.pwr.target t } }
def noTarget (d : Dev) : Dev := { d with pwr := { d.pwr with target := 0 } }

/-! ## Wake (R359, R410-R415) -/

/-- Bit of a source in PWR_WAKE_EN and PWR_WAKE_CAUSE. -/
def wakeBit : WakeSource → Nat
  | .pcie => 0
  | .sideband => 1
  | .leat _ => 2
  | .sentinel => 3
  | .trigIn _ => 4
  | .gtimer _ => 5

/-- A source is enabled, with its port, pin or timer (R411). -/
def wakeOn (d : Dev) (s : WakeSource) : Bool :=
  d.flag Reg.pwrWakeEn (wakeBit s) &&
    (match s with
     | .leat p => d.flag Reg.pwrWakeEn (16 + p)
     | .trigIn i => d.flag Reg.pwrWakeEn (8 + i)
     | .gtimer n => d.flag Reg.pwrWakeEn (12 + n)
     | _ => true)

/-- The exit begins: the causes are recorded, and CLKREQ_N is pulled low, or WAKE_N asserted and the supplies enabled again. A
function in D3hot sends its PME message, and WAKE_N is that of L2 (R358). -/
def beginExit (causes : Nat) (d : Dev) : Dev :=
  let d := (d.setReg Reg.pwrWakeCause causes).bump Reg.pwrWakes
  let nap := decide (d.pwrState = psNap)
  { d with
    pwr := { d.pwr with exitTo := some psIdle, target := 0 }
    pcie := { d.pcie with pmeStatus := d.pcie.pmeStatus || d.pwr.d3hot || !nap }
    pins := if nap then { d.pins with clkreqN := false } else { d.pins with wakeN := false, enCore := true } }

/-- A start or a resume that the supplies or the bundle have stopped, until a whole-device reset (R459, R483). -/
def startFailed (d : Dev) : Bool := d.fld Reg.secBootStat 11 8 != 0

/-- WAKE: sources fire in one cycle. Before the commit of an entry it is undone; in NAP or SENTINEL the exit begins, and during
an exit nothing is recorded. In SENTINEL the source PCIE is the deassertion of PERST_N (R411). -/
def wake (srcs : List WakeSource) (d : Dev) : Dev :=
  let d := if srcs.contains .pcie && d.pwrState = psSentinel then { d with pins := { d.pins with perstN := true } } else d
  let on := srcs.filter d.wakeOn
  let d := if d.pwrState = psNap ∨ d.pwrState = psSentinel then d.bump Reg.sbWakes (on.filter (· == .sideband)).length else d
  if on.isEmpty || d.pwr.exitTo.isSome then d
  else if d.entering && decide (1 ≤ d.pwrState) then (d.bump Reg.pwrAborts).noTarget
  else if (d.pwrState = psNap ∨ d.pwrState = psSentinel) && !d.startFailed then
    d.beginExit (on.foldl (fun v s => putBits v (wakeBit s) (wakeBit s) 1) 0)
  else d

end Dev

end Sys2Proof.Machine
end

