-- ==== Sys2Proof/Machine/Timers.lean ====
section
/-! DEFINITION. The general timers (R55-R61). -/

namespace Sys2Proof.Machine

namespace Dev

/-- TB_CLK is stopped, and SENT_CLK times what goes on: in SENTINEL, and after a thermal trip (R431, R494). -/
def inSentinel (d : Dev) : Bool := d.fld Reg.pwrStat 18 16 == 3 || !d.pins.thermtripN

/-- TB_CLK runs: the timebase PLL has locked, and nothing has stopped it (R32, R61). -/
def tbOn (d : Dev) : Bool := d.tb.running && !d.inSentinel

/-- What a timer holds besides its registers. -/
def gt (d : Dev) (n : Nat) : Gt := d.tb.gts.get {} n
def setGt (d : Dev) (n : Nat) (g : Gt) : Dev := { d with tb := { d.tb with gts := d.tb.gts.set {} n g } }

/-- An even timer is joined with its partner (R59). -/
def gtLinked (d : Dev) (o : Nat) : Bool := o % 2 == 0 && d.flag (Reg.gtCtl o) 1

/-- The timer whose fields govern timer n: the even one of a linked pair (R59). -/
def gtOwner (d : Dev) (n : Nat) : Nat := if n % 2 = 1 && d.gtLinked (n - 1) then n - 1 else n

/-- The governing timers. -/
def gtOwners (d : Dev) : List Nat := (List.range 16).filter (fun n => d.gtOwner n == n)

/-- Width, count and compare value in force of a governing timer (R59). -/
def gtBits (d : Dev) (o : Nat) : Nat := if d.gtLinked o then 64 else 32
def gtCount (d : Dev) (o : Nat) : Nat := if d.gtLinked o then d.rn64 (Reg.gtCnt o) (Reg.gtCnt (o + 1)) else d.rn (Reg.gtCnt o)
def gtCompare (d : Dev) (o : Nat) : Nat :=
  if d.gtLinked o then d.rn64 (Reg.gtCmp o) (Reg.gtCmp (o + 1)) else d.rn (Reg.gtCmp o)
def setGtCount (d : Dev) (o v : Nat) : Dev :=
  if d.gtLinked o then d.setReg64 (Reg.gtCnt o) (Reg.gtCnt (o + 1)) v else d.setReg (Reg.gtCnt o) v
def setGtCompare (d : Dev) (o v : Nat) : Dev :=
  if d.gtLinked o then d.setReg64 (Reg.gtCmp o) (Reg.gtCmp (o + 1)) v else d.setReg (Reg.gtCmp o) v

/-- Clock code of a timer (R55). -/
def gtClk (d : Dev) (o : Nat) : Nat := d.fld (Reg.gtCtl o) 11 8

/-- Active edges of a clock per TB_CLK period, as a fraction; none for the race tick boundary, TB_PPS_IN and reserved codes
(R55). SENT_CLK and XT32 run at their nominal rates, in phase with count 0 of the TBC (log entry 104). -/
def clkRate (code : Nat) : Nat × Nat :=
  if code = 1 then (1, 1) else if code = 2 then (1, 16) else if code = 3 then (1, 1600)
  else if code = 4 then (24, 3125) else if code = 5 then (8, 390625) else (0, 1)

/-- Active edges of a clock up to a count of the TBC: the edges of TB_CLK ÷ 16 and TB_CLK ÷ 1,600 fall at its multiples, which
a load of the TBC moves (log entry 104). -/
def clkEdges (code t : Nat) : Nat := t * (clkRate code).1 / (clkRate code).2

/-- The count at which a clock's k-th active edge after a count falls. -/
def clkEdgeAt (code t k : Nat) : Nat := ceilDiv ((clkEdges code t + k) * (clkRate code).2) (clkRate code).1

/-- The clock's edges follow the passage of TBC time. -/
def clkTimed (code : Nat) : Bool := (clkRate code).1 != 0

/-- The gate is at the level that lets the timer count. A crossbar line is at 0 between pulses (R55). -/
def gtGateOpen (d : Dev) (o : Nat) : Bool :=
  let c := d.rn (Reg.gtCtl o)
  let src := bits c 7 6
  let level := if src = 0 then true else if src = 1 then bit c 4 else if src = 2 then bit d.tb.senGates o else false
  level != bit c 5

/-- Running with its gate open. -/
def gtRun (d : Dev) (o : Nat) : Bool := d.flag (Reg.gtCtl o) 0
def gtCounting (d : Dev) (o : Nat) : Bool := d.gtRun o && d.gtGateOpen o

/-- GTn_STAT.PEND: a write, or a reset that takes effect as one (R57, R60). -/
def gtPend (d : Dev) (o : Nat) : Bool := (d.gt o).pendCnt.isSome || (d.gt o).pendCmp.isSome

/-- The coming active edge applies a write, or a reset in place of a step. -/
def gtWaiting (d : Dev) (o : Nat) : Bool := d.gtPend o || ((d.gt o).rst && d.gtCounting o)

/-- Show RUN and PEND. -/
def showGt (d : Dev) (o : Nat) : Dev :=
  let p := d.gtPend o
  let d := (d.setFlag (Reg.gtStat o) 0 (d.gtRun o)).setFlag (Reg.gtStat o) 1 p
  if d.gtLinked o then d.setFlag (Reg.gtStat (o + 1)) 1 p else d

/-- A start or stop of a timer (R57). -/
def gtSetRun (run : Bool) (d : Dev) (n : Nat) : Dev := (d.setFlag (Reg.gtCtl n) 0 run).showGt n

/-- A reset of a timer: in place of its next step, or as a write of 0 (R57). -/
def gtReset (d : Dev) (n : Nat) : Dev :=
  let g := d.gt n
  (d.setGt n (if d.gtCounting n then { g with rst := true } else { g with pendCnt := some 0 })).showGt n

/-- SEN_CTL.EN. -/
def senOn (d : Dev) : Bool := d.flag Reg.senCtl 31

/-- A match or overflow is counted, is a wake source of GT12-GT15, and is seen by the Sentinel's rules while they run (R57,
R411, R429). -/
def gtCounted (d : Dev) (o a : Nat) : Dev :=
  let d := d.bump a
  let d := if 12 ≤ o then d.wake [.gtimer (Fin.ofNat 4 (o - 12))] else d
  if d.senOn then { d with sen := { d.sen with gtEvents := putBits d.sen.gtEvents o o 1 } } else d

/-- One active edge of a timer's clock (R56-R58, R60): the action bits that it applies. A pending count replaces the step;
the step is compared against the old compare value. A reset waits for a step to replace. -/
def gtStep (d : Dev) (o : Nat) : Dev × Nat :=
  let g := d.gt o
  let m := 2 ^ d.gtBits o
  let cmp := d.gtCompare o
  let c := d.gtCount o
  let counting := d.gtCounting o && g.skip == 0
  let act := d.rn (Reg.gtAct o)
  let fin (d : Dev) : Dev :=
    let d := match g.pendCmp with
      | some v => d.setGtCompare o v
      | none => d
    (d.setGt o { g with pendCnt := none, pendCmp := none, rst := g.rst && g.pendCnt.isNone && !counting, skip := g.skip - 1 }).showGt o
  match g.pendCnt with
  | some v => (fin (d.setGtCount o v), 0)
  | none =>
    if !counting then (fin d, 0) else
    let n := if g.rst then 0 else (c + 1) % m
    let ovf := !g.rst && c + 1 == m
    let hit := n == cmp
    let d := d.setGtCount o n
    let d := if hit then d.gtCounted o (Reg.gtMatches o) else d
    let d := if ovf then d.gtCounted o (Reg.gtOvfs o) else d
    (fin d, (if hit then bits act 5 0 else 0) ||| (if ovf then bits act 13 8 else 0))

/-- Timers that the actions of a step stop (R57). -/
def gtStops (l : List (Nat × Nat)) (d : Dev) : List Nat :=
  let partner (o : Nat) : List Nat := if d.gtLinked o then [] else [if o % 2 = 0 then o + 1 else o - 1]
  l.flatMap (fun x => (if bit x.2 1 then [x.1] else []) ++ (if bit x.2 4 then partner x.1 else []))

/-- Apply the actions of timers that stepped together: stops, resets, then starts of timers not stopped (R57, R58). -/
def gtActions (l : List (Nat × Nat)) (d : Dev) : Dev :=
  let partner (o : Nat) : List Nat := if d.gtLinked o then [] else [if o % 2 = 0 then o + 1 else o - 1]
  let stops := gtStops l d
  let starts := l.flatMap (fun x => if bit x.2 3 then partner x.1 else [])
  let resets := l.flatMap (fun x => (if bit x.2 0 then [x.1] else []) ++ (if bit x.2 2 then partner x.1 else []))
  let d := stops.foldl (gtSetRun false) d
  let d := resets.foldl gtReset d
  let d := (starts.filter (fun n => !stops.contains n)).foldl (gtSetRun true) d
  (l.filter (fun x => bit x.2 5)).foldl (fun d _ => d.tbInterrupt) d

/-- Active edges of several timers in one cycle, with the action bits of each. -/
def gtSteps (os : List Nat) (d : Dev) : Dev × List (Nat × Nat) :=
  os.foldl (fun (x : Dev × List (Nat × Nat)) o =>
    let y := x.1.gtStep o
    (y.1, x.2 ++ [(o, y.2)])) (d, [])

/-- Active edges of several timers in one cycle, and their actions. -/
def gtEdges (os : List Nat) (d : Dev) : Dev :=
  let r := gtSteps os d
  gtActions r.2 r.1

/-- An active edge of a clock other than TB_CLK (R55). -/
def gtClockEdge (code : Nat) (d : Dev) : Dev := gtEdges (d.gtOwners.filter (fun o => d.gtClk o == code)) d

/-- Steps to a timer's next match or overflow. -/
def gtDistance (d : Dev) (o : Nat) : Nat :=
  let m := 2 ^ d.gtBits o
  let c := d.gtCount o
  let k := (d.gtCompare o + m - c) % m
  min (if k = 0 then m else k) (m - c)

/-- The next count at which a timer's clock has an edge that does more than count: a pending write, a gate pulse, a match or
an overflow. -/
def gtDue (d : Dev) (o : Nat) : Option Nat :=
  let c := d.gtClk o
  if !clkTimed c then none
  else if d.gtWaiting o || (d.gt o).skip != 0 then some (clkEdgeAt c d.tb.tbc 1)
  else if d.gtCounting o then some (clkEdgeAt c d.tb.tbc (d.gtDistance o))
  else none

/-- A timer counts through a stretch of time in which its clock's edges only count. -/
def gtGlide (t0 t1 : Nat) (d : Dev) (o : Nat) : Dev :=
  let k := clkEdges (d.gtClk o) t1 - clkEdges (d.gtClk o) t0
  if k = 0 || !d.gtCounting o then d else d.setGtCount o (d.gtCount o + k)

/-- Set the TBC and the level of TB_CLK_OUT, whose first edge releases its pad group (R416); a divider change takes effect at a
rising edge, and a DIV below 4 divides as it stands, 0 as 1 (R52, log entry 132). -/
def setTime (d : Dev) (t : Nat) : Dev :=
  let next := d.tb.clkRise + max 1 d.tb.clkDiv
  let div := max 1 (d.fld Reg.tbClko 15 0)
  let rise := if t < next then d.tb.clkRise else next + (t - next) / div * div
  let div := if t < next then max 1 d.tb.clkDiv else div
  let level := decide (t - rise < (div + 1) / 2)
  let d := if d.flag Reg.pwrPadHold 1 && level != d.pins.clkOut then d.setFlag Reg.pwrPadHold 1 false else d
  { d with tb := { d.tb with tbc := t, clkRise := rise, clkDiv := div }, pins := { d.pins with clkOut := level } }

/-- A timer's clock can have an active edge: a clock is selected and runs, and in SENTINEL only GT12-GT15 count (R60,
R61). -/
def gtClocked (d : Dev) (o : Nat) : Bool :=
  let c := d.gtClk o
  decide (1 ≤ c) && decide (c ≤ 7) && (if d.inSentinel then decide (12 ≤ o) && (c == 4 || c == 5) else !clkTimed c || d.tbOn)

/-- Active edges of one timer's clock, at most n, with all they do; edges that only count pass at once. -/
def gtEdgesN (o : Nat) : Nat → Nat → Dev → Dev
  | 0, _, d => d
  | n + 1, k, d =>
    let quiet := if d.gtWaiting o || (d.gt o).skip != 0 || !d.gtCounting o then 0 else min (k - 1) (d.gtDistance o - 1)
    if k = 0 then d
    else gtEdgesN o n (k - quiet - 1) (gtEdges [o] (if quiet = 0 then d else d.setGtCount o (d.gtCount o + quiet)))

/-! ## Writes of timer registers (R59, R60) -/

/-- A write of GTn_CNT is posted; the high half of a linked pair is held, and without one the high word stays as it stands,
that of a write still pending included (R59, R60). -/
def gtCntWrite (n v : Nat) (d : Dev) : Dev :=
  let o := d.gtOwner n
  let g := d.gt o
  if o ≠ n then d.setGt o { g with heldCnt := some v }
  else if d.gtLinked o then
    let hi := (g.heldCnt <|> g.pendCnt.map (· / 2 ^ 32)).getD (d.rn (Reg.gtCnt (o + 1)))
    (d.setGt o { g with pendCnt := some (hi * 2 ^ 32 + v), heldCnt := none }).showGt o
  else (d.setGt o { g with pendCnt := some v }).showGt o

/-- A write of GTn_CMP is posted; the high half of a linked pair waits for the low (R59, R60). -/
def gtCmpWrite (n v : Nat) (d : Dev) : Dev :=
  let o := d.gtOwner n
  let g := d.gt o
  if o ≠ n then d.setGt o { g with heldCmp := some v }
  else if d.gtLinked o then
    let hi := (g.heldCmp <|> g.pendCmp.map (· / 2 ^ 32)).getD (d.rn (Reg.gtCmp (o + 1)))
    (d.setGt o { g with pendCmp := some (hi * 2 ^ 32 + v), heldCmp := none }).showGt o
  else (d.setGt o { g with pendCmp := some v }).showGt o

/-- Pending writes of a pair that becomes linked join; those of a pair that is unlinked part (R59). -/
def joinPend (a b : Option Nat) (lo hi : Nat) : Option Nat :=
  if a.isNone && b.isNone then none else some (b.getD hi * 2 ^ 32 + a.getD lo)

/-- A write of GTn_CTL (R59, R60, R62). -/
def gtCtlWrite (n v : Nat) (d : Dev) : Dev :=
  let v := if n % 2 = 1 then putBits v 1 1 0 else v
  let new := (v % 2 ^ 16) &&& 0xFFF3
  let was := d.gtLinked n
  let gives := n % 2 == 0 && bit v 1
  if was == gives then (d.setReg (Reg.gtCtl n) new).showGt n else
  let a := d.gt n
  let b := d.gt (n + 1)
  let d1 := d.setReg (Reg.gtCtl n) new
  if gives then
    let d1 := d1.setGt n { a with
      pendCnt := joinPend a.pendCnt b.pendCnt (d.rn (Reg.gtCnt n)) (d.rn (Reg.gtCnt (n + 1)))
      pendCmp := joinPend a.pendCmp b.pendCmp (d.rn (Reg.gtCmp n)) (d.rn (Reg.gtCmp (n + 1))) }
    (d1.setGt (n + 1) {}).showGt n
  else
    let d1 := d1.setGt n { a with
      pendCnt := a.pendCnt.map (· % 2 ^ 32), pendCmp := a.pendCmp.map (· % 2 ^ 32), heldCnt := none, heldCmp := none }
    let d1 := d1.setGt (n + 1) { pendCnt := a.pendCnt.map (· / 2 ^ 32), pendCmp := a.pendCmp.map (· / 2 ^ 32) }
    (d1.showGt n).showGt (n + 1)

end Dev

open Dev

/-- GT_CNT_WRITE (R60). -/
def execGtCntWrite (n : Fin 16) (v : Word) (s : State) : Host.Outcome State Fault Refusal := onReg (Reg.gtCnt n) (gtCntWrite n v.toNat) s

/-- GT_CMP_WRITE (R60). -/
def execGtCmpWrite (n : Fin 16) (v : Word) (s : State) : Host.Outcome State Fault Refusal := onReg (Reg.gtCmp n) (gtCmpWrite n v.toNat) s

/-- GT_CTL_WRITE (R59). -/
def execGtCtlWrite (n : Fin 16) (v : Word) (s : State) : Host.Outcome State Fault Refusal := onReg (Reg.gtCtl n) (gtCtlWrite n v.toNat) s

end Sys2Proof.Machine
end

