-- ==== Sys2Proof/Machine/Commands.lean ====
section
/-! DEFINITION. What the MP does with commands, completions and events (R386-R390, R394, R395, R402). -/

namespace Sys2Proof.Machine

namespace Dev

/-! ## Application cores (R303) -/

def hart (d : Dev) (k : Nat) : Hart := d.harts.get {} k
def setHart (d : Dev) (k : Nat) (x : Hart) : Dev := { d with harts := d.harts.set {} k x }

/-- What a CSR reads as before a write: misa shows RV64 with A, C, D, F, I, M, S, U and V, every other one 0 (R298, log entry 99). -/
def csrReset (a : Nat) : BitVec 64 := if a = 0x301 then 0x800000000034112D else 0

/-- A CSR of a core. -/
def csr (d : Dev) (k a : Nat) : BitVec 64 := (d.hart k).csr.get (csrReset a) a

/-- A write of a CSR: misa is fixed, satp takes the modes 0, 8 and 9 alone, and there are 16 PMP entries (R298). -/
def setCsr (d : Dev) (k a : Nat) (v : BitVec 64) : Dev :=
  let pmp := (decide (0x3A0 ≤ a) && decide (a < 0x3B0) && a != 0x3A0 && a != 0x3A2) || (decide (0x3C0 ≤ a) && decide (a < 0x3F0))
  if a = 0x301 || pmp || (a == 0x180 && !(List.contains [0, 8, 9] (bits v.toNat 63 60))) then d
  else d.setHart k { d.hart k with csr := (d.hart k).csr.set (csrReset a) a v }

/-- An application core runs: out of reset, not stopped by an error and not down, with its domain's clock on (R25, R303). -/
def coreRuns (d : Dev) (k : Nat) : Bool :=
  d.clocksOn && !(d.hart k).held && !bit d.vci.coresStopped k && !bit d.vci.coresDown k

/-! ## Replies (R387-R389) -/

/-- VCI_STAT.OUTSTANDING and QUEUED. -/
def showVci (d : Dev) : Dev :=
  let queued := d.vci.replies.cells.foldl (fun n x => n + (x.2.filter (fun r => !r.event)).length) 0
  let d1 := d.setFld Reg.vciStat 25 16 (d.vci.jobq.length + d.vci.active.length + queued)
  d1.setFld Reg.vciStat 7 4 (min 15 (d.vci.jobq.filter (fun c => !c.begun)).length)

/-- Owner of a mailbox pair (R365). -/
def pairOwner (d : Dev) (n : Nat) : Nat := d.fld (Reg.mbxLock n) 4 0

/-- A tag is outstanding: from its accepting ACK to the delivery of its completion (R387). -/
def tagBusy (d : Dev) (t : Nat) : Bool :=
  d.vci.jobq.any (fun c => c.tag == t) || d.vci.active.any (fun c => c.tag == t) ||
    d.vci.replies.cells.any (fun x => x.2.any (fun r => !r.event && r.tag == t))

/-- Queue a reply on a pair. -/
def pushReply (d : Dev) (n : Nat) (r : Reply) : Dev :=
  { d with vci := { d.vci with replies := d.vci.replies.set [] n (d.vci.replies.get [] n ++ [r]) } }

/-- Count a refusing code (R394). -/
def countCode (d : Dev) (code : Nat) : Dev := if code = 0 ∨ code = 0x11 then d else d.bump Reg.vciRefused

/-- A command ends: its completion is queued on its pair, or discarded where the pair has passed to another owner. -/
def complete (d : Dev) (c : VciCmd) (code : Nat) (res : List Nat) : Dev :=
  let d := { d with vci := { d.vci with
    jobq := d.vci.jobq.filter (fun x => x.tag != c.tag), active := d.vci.active.filter (fun x => x.tag != c.tag) } }
  let d := d.countCode code
  let o := d.pairOwner c.pair
  let d := if o ≠ 0 ∧ o ≠ c.owner then d.bump Reg.vciOrphanCpl
    else d.pushReply c.pair ⟨c.tag, c.op, code, res, c.owner, false⟩
  d.showVci

/-! ## Events (R402) -/

/-- An event reaches every pair that subscribes to its bit; a pair queues at most 64. -/
def postEvent (d : Dev) (code : Nat) (res : List Nat) : Dev :=
  let d := d.bump Reg.vciEvtSeq
  let seq := d.rn Reg.vciEvtSeq
  (List.range 32).foldl (fun d n =>
    if !bit (d.vci.masks.get 0 n) (code - 1) then d
    else if 64 ≤ ((d.vci.replies.get [] n).filter (·.event)).length then d.bump Reg.vciEvtLost
    else d.pushReply n ⟨seq % 512, 0x7F, code, seq :: res, d.pairOwner n, true⟩) d

/-- The job state changes, and JOB_STATE is reported with its reason (R395, R402). -/
def setJob (d : Dev) (s reason : Nat) : Dev :=
  let d := d.setFld Reg.vciStat 2 0 s
  let d := d.setFlag Reg.tbStat 6 (decide (2 ≤ s))
  d.postEvent 6 [s, reason]

/-- A job fault of cause SCHEDULE or CELL: every one is reported (R113, R114, R403), and it takes the job from RUNNING or
DRAINED to FAULTED (R395, R402). A drain or a resume that has begun cannot end any more: it completes with STOPPED (R394, log
entry 129). -/
def jobFault (d : Dev) (cause place tb : Nat) : Dev :=
  let d := d.postEvent 2 [cause, place, tb % 2 ^ 32, tb / 2 ^ 32]
  if d.jobState ≠ jsRunning ∧ d.jobState ≠ jsDrained then d else
  let d := d.setJob jsFaulted 0xFFFF
  match d.vci.jobq with
  | c :: _ => if c.begun && (c.op == 0x13 || c.op == 0x14) then d.complete c 0xA [] else d
  | [] => d

/-- The command of the job queue that executes: the first (R391). -/
def jobHead (d : Dev) (op : Nat) : Option VciCmd :=
  match d.vci.jobq with
  | c :: _ => if c.op = op then some c else none
  | [] => none

/-- The job queue's first command, where it has begun and not ended (R391). -/
def jobBegun (d : Dev) (op : Nat) : Option VciCmd := (d.jobHead op).filter (·.begun)

/-- An accepted command outside the job queue, by tag. -/
def activeCmd (d : Dev) (op tag : Nat) : Option VciCmd := d.vci.active.find? (fun c => c.op == op && c.tag == tag)

/-- SEC_BOOT_STAT.READY, outside basic mode: the command service executes every command (R421, R458, R459). -/
def ready (d : Dev) : Bool := d.flag Reg.secBootStat 31 && !d.basic

/-- The job queue's first command executes; until READY it waits (R391, R458). -/
def jobCmd (d : Dev) (op : Nat) : Option VciCmd := if d.ready then d.jobHead op else none

/-- Mark the executing job command as begun. -/
def beginJob (d : Dev) : Dev :=
  match d.vci.jobq with
  | c :: cs => { d with vci := { d.vci with jobq := { c with begun := true } :: cs } }.showVci
  | [] => d

/-- Argument word k, and the pair of words from k as a 64-bit value. -/
def cmdArg (c : VciCmd) (k : Nat) : Nat := c.args.getD k 0
def cmdArg64 (c : VciCmd) (k : Nat) : Nat := cmdArg c k + cmdArg c (k + 1) * 2 ^ 32

/-- Outstanding commands of some operations complete together. -/
def completeAll (d : Dev) (ops : List Nat) (code : Nat) : Dev :=
  (d.vci.active.filter (fun c => ops.contains c.op)).foldl (fun d c => d.complete c code []) d

/-- Begun commands of an operation, outside the job queue, complete with results. -/
def completeWhen (d : Dev) (op : Nat) (p : VciCmd → Bool) (res : List Nat) : Dev :=
  (d.vci.active.filter (fun c => c.op == op && c.begun && p c)).foldl (fun d c => d.complete c 0 res) d

/-- A command outside the job queue has begun, and waits for its effect. -/
def beginActive (d : Dev) (tag : Nat) : Dev :=
  { d with vci := { d.vci with
    active := d.vci.active.map (fun (c : VciCmd) => if c.tag = tag then { c with begun := true } else c) } }

/-- A split is noted for the MP, which stops the job (R337, R345, R395). -/
def noteSplit (d : Dev) (cause place : Nat) : Dev :=
  if d.vci.split.isSome || !d.jobOn then d else
  let d := d.setFlag Reg.lkStat 4 true
  { d with vci := { d.vci with split := some (cause, place, d.rn Reg.mrTick) } }

end Dev

end Sys2Proof.Machine
end

