-- ==== Sys2Proof/Machine/Clocks.lean ====
section
/-! DEFINITION. The clocks, their limits and the core voltage that follows them (R1, R5, R24, R419, R486). -/

namespace Sys2Proof.Machine

namespace Dev

/-- The greatest frequency of a clock in MHz, by base code: 0 FLUME_CLK, 1 RACE_CLK, 2 APC_CLK (R1). -/
def clockMax (d : Dev) (k : Nat) : Nat :=
  let v := d.fld Reg.glbVariant 3 0
  let row : List Nat :=
    if v = 2 then [1000, 1600, 2600] else if v = 3 then [600, 1200, 2000] else [1400, 1600, 3000]
  row.getD k 0

/-- FLUME_CLK and RACE_CLK in force, or due at the next boundary (R24). -/
def flumeClk (d : Dev) : Nat := d.flume.clkPend.getD (d.rn Reg.pwrFlumeMhz)
def raceClk (d : Dev) : Nat := d.pwr.racePend.getD (d.rn Reg.pwrRaceMhz)

/-- APC_CLK of a core. -/
def apcClk (d : Dev) (c : Nat) : Nat := d.pwr.apc.get 0 c

/-- MP_CLK in MHz: TB_CLK ÷ 8 in NAP, none in SENTINEL (R23, R25, R359). -/
def mpClk (d : Dev) : Nat := if d.pwrState = psNap then 200 else if d.pwrState = psSentinel then 0 else 400

/-- The highest of the application cores' clocks. -/
def apcTop (d : Dev) : Nat := (List.range 16).foldl (fun m c => max m (d.apcClk c)) 0

/-- The highest clock in force or waiting: the voltage is raised before an increase and lowered only after a decrease. -/
def topClk (d : Dev) : Nat :=
  [d.flumeClk, d.rn Reg.pwrFlumeMhz, d.raceClk, d.rn Reg.pwrRaceMhz, d.apcTop].foldl max 0

/-- The MP sets VDD_CORE over AVSBus (R486). A transaction that changes the target is repeated up to three times while it is
not acknowledged; how often is the regulator's, and free. The clock change that waits on it goes on after the last of them, with
the rail settled (log entry 24). -/
def avsSet (d : Dev) : Dev :=
  let mv := 5 * (Config.avsTable d.topClk).toNat
  if d.fld Reg.pwrAvs 25 16 = mv then d else
  let d := (d.setReg Reg.pwrAvs (mv * 65536 + mv)).bump Reg.pwrAvsErrs (d.freeVal.toNat % 4)
  d.drew

/-- A changed FLUME_CLK holds, and the SET_CLOCK that asked for it completes. -/
def flumeTaken (d : Dev) : Dev :=
  match d.flume.clkPend with
  | none => d
  | some mhz =>
    let d := { d with flume := { d.flume with clkPend := none, clkBusy := false } }.setReg Reg.pwrFlumeMhz mhz
    d.avsSet.completeWhen 3 (fun c => c.imm == 0) [mhz]

/-- A changed RACE_CLK holds, and the SET_CLOCK that asked for it completes. -/
def raceTaken (d : Dev) : Dev :=
  match d.pwr.racePend with
  | none => d
  | some mhz =>
    let d := { d with pwr := { d.pwr with racePend := none } }.setReg Reg.pwrRaceMhz mhz
    d.avsSet.completeWhen 3 (fun c => c.imm == 1) [mhz]

/-- FLUME_CLK changes: at the next frame boundary while the array runs, else at once (R24). -/
def takeFlume (d : Dev) (mhz : Nat) : Dev :=
  let d := { d with flume := { d.flume with clkPend := some mhz } }
  if d.flag Reg.flmStat 1 then d.avsSet else d.flumeTaken

/-- RACE_CLK changes: at the next tick boundary while the fabric has ticks, else at once (R24). -/
def takeRace (d : Dev) (mhz : Nat) : Dev :=
  let d := { d with pwr := { d.pwr with racePend := some mhz } }
  if d.flow then d.avsSet else d.raceTaken

/-- The clock of one application core changes. -/
def takeApc (d : Dev) (c mhz : Nat) : Dev :=
  let d := { d with pwr := { d.pwr with apc := d.pwr.apc.set 0 c mhz } }
  (d.setReg Reg.pwrApcMhz d.apcTop).avsSet

/-- A clock is throttled: the governor has stepped some clock down (R419). -/
def throttled (d : Dev) : Bool := !d.pwr.steps.isEmpty

/-- The value that a SET_CLOCK gives a clock: while throttled it moves only the ceiling (R419). -/
def underCeiling (d : Dev) (now mhz : Nat) : Nat := if d.throttled then min now mhz else mhz

end Dev

end Sys2Proof.Machine
end

