-- ==== Sys2Proof/Machine/Formats.lean ====
section
/-! DEFINITION. The number formats of the Flume array: exact values, decoding and encoding of the ten formats, the Weir
grids, and the arithmetic of the ALU and MAC units (R141-R155). Every rounding is to nearest, ties to even (R149). -/

namespace Sys2Proof.Machine

/-- An exact value: (−1)^neg × m × 2^e, an infinity, or NaN. A zero keeps its sign. -/
inductive Flt where
  | nan
  | inf (neg : Bool)
  | fin (neg : Bool) (m : Nat) (e : Int)
deriving DecidableEq, Repr

/-- A binary floating-point format: fraction bits, bias, largest finite code, infinity code if any, canonical NaN, width. -/
structure FpFmt where
  fb    : Nat
  bias  : Nat
  maxFin : Nat
  inf   : Option Nat
  nan   : Nat
  w     : Nat
deriving DecidableEq, Repr

/-- R141, R143. -/
def fp32 : FpFmt := ⟨23, 127, 0x7F7FFFFF, some 0x7F800000, 0x7FC00000, 32⟩
def bf16 : FpFmt := ⟨7, 127, 0x7F7F, some 0x7F80, 0x7FC0, 16⟩
def fp16 : FpFmt := ⟨10, 15, 0x7BFF, some 0x7C00, 0x7E00, 16⟩
def e4m3 : FpFmt := ⟨3, 7, 0x7E, none, 0x7F, 8⟩
def e5m2 : FpFmt := ⟨2, 15, 0x7B, some 0x7C, 0x7E, 8⟩

namespace Flt

/-- The exact value of an integer. -/
def ofInt (i : Int) : Flt := .fin (decide (i < 0)) i.natAbs 0

/-- +0. -/
def zero : Flt := .fin false 0 0

/-- Negation. -/
def negate : Flt → Flt
  | .nan => .nan
  | .inf s => .inf (!s)
  | .fin s m e => .fin (!s) m e

/-- Magnitude. -/
def abs : Flt → Flt
  | .nan => .nan
  | .inf _ => .inf false
  | .fin _ m e => .fin false m e

/-- Is NaN. -/
def isNan : Flt → Bool
  | .nan => true
  | _ => false

/-- The signed mantissa of a finite value at an exponent not above its own. -/
def at_ (neg : Bool) (m : Nat) (e tgt : Int) : Int :=
  let v : Int := m * 2 ^ (e - tgt).toNat
  if neg then -v else v

/-- Exact sum; an exact zero of terms with unlike signs is +0 (IEEE 754). -/
def add : Flt → Flt → Flt
  | .nan, _ => .nan
  | _, .nan => .nan
  | .inf a, .inf b => if a = b then .inf a else .nan
  | .inf a, _ => .inf a
  | _, .inf b => .inf b
  | .fin s m e, .fin t n f =>
    let g := min e f
    let v := at_ s m e g + at_ t n f g
    if v = 0 then .fin (s && t) 0 g else .fin (decide (v < 0)) v.natAbs g

/-- Exact difference. -/
def sub (x y : Flt) : Flt := add x (negate y)

/-- Exact product. -/
def mul : Flt → Flt → Flt
  | .nan, _ => .nan
  | _, .nan => .nan
  | .inf a, .inf b => .inf (xor a b)
  | .inf a, .fin t n _ => if n = 0 then .nan else .inf (xor a t)
  | .fin s m _, .inf b => if m = 0 then .nan else .inf (xor s b)
  | .fin s m e, .fin t n f => .fin (xor s t) (m * n) (e + f)

/-- x < y; false where either is NaN. -/
def lt (x y : Flt) : Bool :=
  match x, y with
  | .nan, _ => false
  | _, .nan => false
  | .inf a, .inf b => a && !b
  | .inf a, _ => a
  | _, .inf b => !b
  | .fin s m e, .fin t n f => let g := min e f; decide (at_ s m e g < at_ t n f g)

end Flt

/-- n ÷ d rounded to nearest, ties to even. -/
def roundNat (n d : Nat) : Nat :=
  let q := n / d
  let r := n % d
  if 2 * r < d then q else if d < 2 * r then q + 1 else if q % 2 = 0 then q else q + 1

/-- The code, without its sign, that n ÷ d × 2^e takes in a format, rounded once; it may pass the largest finite code. -/
def roundCode (f : FpFmt) (n d : Nat) (e : Int) : Nat :=
  if n = 0 then 0 else
  let k0 : Int := (Nat.log2 n : Int) - (Nat.log2 d : Int) + e
  -- the exponent k of the value: 2^k ≤ n/d × 2^e < 2^(k+1)
  let up := k0 - e
  let ge := if 0 ≤ up then d * 2 ^ up.toNat ≤ n else d ≤ n * 2 ^ (-up).toNat
  let k := if ge then k0 else k0 - 1
  let umin : Int := 1 - (f.bias : Int) - (f.fb : Int)
  let u := max (k - (f.fb : Int)) umin
  let sh := e - u
  let q := if 0 ≤ sh then roundNat (n * 2 ^ sh.toNat) d else roundNat n (d * 2 ^ (-sh).toNat)
  q + (u - umin).toNat * 2 ^ f.fb

/-- A signed code. -/
def withSign (f : FpFmt) (neg : Bool) (c : Nat) : Nat := c + b2n neg * 2 ^ (f.w - 1)

/-- Encoding by IEEE 754: beyond the largest finite magnitude lies infinity; subnormal results are flushed to a zero of
the same sign where asked (R144, R154, R155). -/
def encodeIeee (f : FpFmt) (flush : Bool) : Flt → Nat
  | .nan => f.nan
  | .inf s => withSign f s (f.inf.getD f.maxFin)
  | .fin s m e =>
    let c := roundCode f m 1 e
    let c := if f.maxFin < c then f.inf.getD f.maxFin else c
    withSign f s (if flush && decide (c < 2 ^ f.fb) then 0 else c)

/-- Encoding by R150, with the saturation count of the lane. -/
def encodeSat (f : FpFmt) : Flt → Nat × Nat
  | .nan => (f.nan, 1)
  | .inf s => match f.inf with
    | some i => (withSign f s i, 0)
    | none => (withSign f s f.maxFin, 1)
  | .fin s m e =>
    let c := roundCode f m 1 e
    if f.maxFin < c then (withSign f s f.maxFin, 1) else (withSign f s c, 0)

/-- Decoding of a floating-point code (R141); subnormals are honoured (R144). -/
def decodeFp (f : FpFmt) (c : Nat) : Flt :=
  let neg := bit c (f.w - 1)
  let m := c % 2 ^ (f.w - 1)
  if f.inf = some m then .inf neg
  else if f.maxFin < m then .nan
  else
    let ex := m / 2 ^ f.fb
    let fr := m % 2 ^ f.fb
    if ex = 0 then .fin neg fr (1 - (f.bias : Int) - (f.fb : Int))
    else .fin neg (fr + 2 ^ f.fb) ((ex : Int) - (f.bias : Int) - (f.fb : Int))

/-! ## Weir grids (R145-R147) -/

/-- The W4 level integers (R146). -/
def w4Levels : List Nat := [0x0000, 0x0D20, 0x1A96, 0x28C8, 0x3847, 0x4A05, 0x5FFB, 0x8000]

/-- The W6 level integers (R147). -/
def w6Levels : List Nat :=
  [0x0000, 0x0254, 0x04A9, 0x0700, 0x0959, 0x0BB7, 0x0E19, 0x1081, 0x12F0, 0x1567, 0x17E8, 0x1A73, 0x1D0C, 0x1FB3,
   0x226B, 0x2535] ++
  [0x2815, 0x2B0E, 0x2E24, 0x315B, 0x34B9, 0x3844, 0x3C05, 0x4009, 0x445D, 0x4916, 0x4E54, 0x5442, 0x5B2B, 0x6399,
   0x6EB3, 0x8000]

/-- The levels of a Weir format by its width. -/
def weirLevels (w : Nat) : List Nat := if w = 4 then w4Levels else w6Levels

/-- The signed level integer of a Weir code of width w (R145). -/
def weirInt (w c : Nat) : Int :=
  let m : Int := (weirLevels w).getD (c % 2 ^ (w - 1)) 0
  if bit c (w - 1) then -m else m

/-- encode_weir of R148: the code and its saturation count. -/
def encodeWeir (w : Nat) : Flt → Nat × Nat
  | .nan => (0, 1)
  | .inf s => (2 ^ (w - 1) - 1 + b2n s * 2 ^ (w - 1), 1)
  | .fin s m e =>
    let ls := weirLevels w
    let kmax := 2 ^ (w - 1) - 1
    -- a = |q| × 2^15, compared with 2 × level to hold the midpoints
    let ge2 (x : Nat) : Bool :=
      let p := e + 16
      if 0 ≤ p then decide (x ≤ m * 2 ^ p.toNat) else decide (x * 2 ^ (-p).toNat ≤ m)
    let eq2 (x : Nat) : Bool :=
      let p := e + 16
      if 0 ≤ p then decide (x = m * 2 ^ p.toNat) else decide (x * 2 ^ (-p).toNat = m)
    let ovr := ge2 (2 * 32768) && !eq2 (2 * 32768)
    let k := if ovr then kmax else
      let k := ((List.range (kmax + 1)).filter (fun i => ge2 (2 * ls.getD i 0))).length - 1
      if k < kmax then
        let mid2 := ls.getD k 0 + ls.getD (k + 1) 0
        if ge2 mid2 && (!eq2 mid2 || k % 2 == 1) then k + 1 else k
      else k
    (if k = 0 then 0 else k + b2n s * 2 ^ (w - 1), b2n ovr)

/-! ## Integer formats -/

/-- A finite value rounded to an integer, ties to even. -/
def roundToInt (neg : Bool) (m : Nat) (e : Int) : Int :=
  let v : Int := if 0 ≤ e then (m * 2 ^ e.toNat : Nat) else (roundNat m (2 ^ (-e).toNat) : Nat)
  if neg then -v else v

/-- encode_int of R148 for a width: the code and its saturation count. -/
def encodeInt (w : Nat) : Flt → Nat × Nat
  | .nan => (0, 1)
  | .inf s => (if s then 2 ^ (w - 1) else 2 ^ (w - 1) - 1, 1)
  | .fin s m e =>
    let r := roundToInt s m e
    let hi : Int := 2 ^ (w - 1) - 1
    let lo : Int := -2 ^ (w - 1)
    (unsignedOf w (clampI lo hi r), b2n (decide (hi < r) || decide (r < lo)))

/-! ## Formats by code (R123, R141) -/

/-- The floating-point format of a code. -/
def fpOf (c : Nat) : Option FpFmt :=
  if c = 0 then some fp32 else if c = 1 then some bf16 else if c = 2 then some fp16
  else if c = 3 then some e4m3 else if c = 4 then some e5m2 else none

/-- Element width of a format code. -/
def fmtWidth (c : Nat) : Nat :=
  if c = 0 then 32 else if c = 1 then 16 else if c = 2 then 16 else if c = 3 then 8 else if c = 4 then 8
  else if c = 5 then 16 else if c = 6 then 8 else if c = 7 then 4 else if c = 8 then 6 else if c = 9 then 4 else 32

/-- Lanes of a format code in 64 bits. -/
def fmtLanes (c : Nat) : Nat := 64 / fmtWidth c

/-- Lane i of a word (R142). -/
def laneOf (c v i : Nat) : Nat := v / 2 ^ (i * fmtWidth c) % 2 ^ fmtWidth c

/-- A word from its lanes (R142). -/
def packLanes (w : Nat) : List Nat → Nat
  | [] => 0
  | x :: xs => x % 2 ^ w + 2 ^ w * packLanes w xs

/-- The exact value of a lane of a format (R145, R148). -/
def decodeLane (c x : Nat) : Flt :=
  match fpOf c with
  | some f => decodeFp f x
  | none =>
    if c = 8 ∨ c = 9 then
      let v := weirInt (fmtWidth c) x
      .fin (decide (v < 0)) v.natAbs (-15)
    else Flt.ofInt (signedOf (fmtWidth c) x)

/-- The FP32 quotient v ÷ s, rounded once, no subnormal flushed (R148, R153). -/
def divFp32 (v s : Flt) : Flt :=
  match v, s with
  | .nan, _ => .nan
  | _, .nan => .nan
  | .inf _, .inf _ => .nan
  | .inf a, .fin t _ _ => .inf (xor a t)
  | .fin a _ _, .inf b => .fin (xor a b) 0 0
  | .fin a m e, .fin b n f =>
    if n = 0 then (if m = 0 then .nan else .inf (xor a b))
    else
      let c := roundCode fp32 m n (e - f)
      if fp32.maxFin < c then .inf (xor a b) else decodeFp fp32 (withSign fp32 (xor a b) c)

/-- Rounding to FP32, no subnormal flushed. -/
def roundFp32 (v : Flt) : Flt := decodeFp fp32 (encodeIeee fp32 false v)

/-- One lane of CVT (R148): the code, its saturation count, and |q| for PEAK where the destination is integer or Weir. -/
def cvtLane (x src dst s : Nat) : Nat × Nat × Option Flt :=
  let v := decodeLane src x
  match fpOf dst with
  | some f => let r := encodeSat f v; (r.1, r.2, none)
  | none =>
    let v := if src = 0xA then roundFp32 v else v
    let q := divFp32 v (decodeFp bf16 s)
    let r := if dst = 8 ∨ dst = 9 then encodeWeir (fmtWidth dst) q else encodeInt (fmtWidth dst) q
    (r.1, r.2, some q.abs)

/-! ## Lane operations (R123, R154) -/

/-- Maximum by R154: the other operand beside one NaN, and +0 above −0. -/
def numMax (x y : Flt) : Flt :=
  if x.isNan then y else if y.isNan then x
  else if x.lt y then y else if y.lt x then x
  else match x with
    | .fin true 0 _ => y
    | _ => x

/-- Minimum by R154. -/
def numMin (x y : Flt) : Flt :=
  if x.isNan then y else if y.isNan then x
  else if x.lt y then x else if y.lt x then y
  else match x with
    | .fin true 0 _ => x
    | _ => y

/-- An integer result saturated to a lane of width w. -/
def satInt (w : Nat) (v : Int) : Nat := unsignedOf w (clampI (-2 ^ (w - 1)) (2 ^ (w - 1) - 1) v)

/-- The lane result of an operation on exact values: a float lane rounds once and flushes subnormals; an integer lane
rounds to the nearest integer and saturates; NaN gives 0 there (R154). -/
def encodeLane (c : Nat) (v : Flt) : Nat :=
  match fpOf c with
  | some f => encodeIeee f true v
  | none => match v with
    | .nan => 0
    | _ => (encodeInt (fmtWidth c) v).1

/-- A lane-wise operation over two words. -/
def laneWise (c : Nat) (op : Flt → Flt → Flt) (x y : Nat) : Nat :=
  packLanes (fmtWidth c) ((List.range (fmtLanes c)).map fun i =>
    encodeLane c (op (decodeLane c (laneOf c x i)) (decodeLane c (laneOf c y i))))

/-- ACT by FUNC[15:14]: ReLU, clamp to ±XB, clamp to [0, XB] (R122, R154). -/
def actOp (mode : Nat) (x b : Flt) : Flt :=
  if mode = 0 then numMax x Flt.zero
  else if mode = 1 then numMin (numMax x b.negate) b
  else numMin (numMax x Flt.zero) b

/-- SCALE: lane × XB[31:16] + XB[15:0], one rounding (R122, R154). -/
def scaleLanes (c x y : Nat) : Nat :=
  let m := decodeFp bf16 (bits y 31 16)
  let a := decodeFp bf16 (bits y 15 0)
  packLanes (fmtWidth c) ((List.range (fmtLanes c)).map fun i =>
    encodeLane c ((decodeLane c (laneOf c x i)).mul m |>.add a))

/-- MAG of two complex pairs of a format: I² + Q² exactly, rounded once to FP32 (R127, R154). -/
def magLanes (c x : Nat) : Nat :=
  packLanes 32 ((List.range 2).map fun j =>
    let i := decodeLane c (laneOf c x (2 * j))
    let q := decodeLane c (laneOf c x (2 * j + 1))
    encodeIeee fp32 true ((i.mul i).add (q.mul q)))

/-- floor(v) of a finite value clamped into 0..15, infinities by sign, NaN 0 (R127). -/
def pwlIndex : Flt → Nat
  | .nan => 0
  | .inf s => if s then 0 else 15
  | .fin s m e =>
    if s then 0
    else min 15 (if 0 ≤ e then m * 2 ^ e.toNat else m / 2 ^ (-e).toNat)

/-- PWL evaluation of four BF16 lanes against a table of 16 segments (R127, R154). -/
def pwlLanes (table : List Nat) (x y : Nat) : Nat :=
  let lo := decodeFp bf16 (bits y 31 16)
  let rw := decodeFp bf16 (bits y 15 0)
  packLanes 16 ((List.range 4).map fun i =>
    let v := decodeFp bf16 (laneOf 1 x i)
    let seg := table.getD (pwlIndex ((v.sub lo).mul rw)) 0
    encodeIeee bf16 true (((decodeFp bf16 (bits seg 31 16)).mul v).add (decodeFp bf16 (bits seg 15 0))))

/-! ## LOG2 (R127) -/

/-- Fraction bits of the fixed-point mantissa and of the logarithm drawn from it. -/
def logPrec : Nat := 320
def logBits : Nat := 96

/-- The first k bits of log2 of a mantissa in [1, 2), by repeated squaring; acc holds the bits found. -/
def log2Bits : Nat → Nat → Nat → Nat
  | 0, _, acc => acc
  | k + 1, x, acc =>
    let y := x * x / 2 ^ logPrec
    if 2 ^ (logPrec + 1) ≤ y then log2Bits k (y / 2) (2 * acc + 1) else log2Bits k y (2 * acc)

/-- The FP32 value nearest to log2 |x| (R127). -/
def log2Lane (c : Nat) : Nat :=
  match decodeFp fp32 c with
  | .nan => fp32.nan
  | .inf _ => 0x7F800000
  | .fin _ m e =>
    if m = 0 then 0xC3000000 else
    let n := Nat.log2 m
    let k : Int := (n : Int) + e
    if m = 2 ^ n then encodeIeee fp32 true (Flt.ofInt k)
    else
      let f := log2Bits logBits (m * 2 ^ (logPrec - n)) 0
      let v : Int := k * 2 ^ (logBits + 1) + (2 * f + 1 : Nat)
      encodeIeee fp32 true (.fin (decide (v < 0)) v.natAbs (-((logBits : Int) + 1)))

/-! ## MAC unit (R124, R155) -/

/-- A format pair of R124: element widths, outputs, inputs, and whether products are integers. -/
structure MacFmt where
  ww   : Nat
  aw   : Nat
  outs : Nat
  ins  : Nat
  ints : Bool
deriving DecidableEq, Repr

/-- The pair of a FMT code; the reserved codes have none. -/
def macFmt (c : Nat) : Option MacFmt :=
  if c = 0 then some ⟨8, 8, 4, 8, true⟩
  else if c = 1 then some ⟨6, 8, 4, 8, true⟩
  else if c ≤ 5 then some ⟨8, 8, 4, 8, false⟩
  else if c ≤ 7 then some ⟨4, 8, 8, 8, true⟩
  else if c = 0xA then some ⟨16, 16, 2, 4, true⟩
  else if c ≤ 9 then some ⟨16, 16, 2, 4, false⟩
  else if c = 0xB then some ⟨32, 32, 1, 2, false⟩
  else none

/-- The integer a weight element contributes: its two's-complement value or its signed Weir level (R145). -/
def macWInt (c x : Nat) : Int :=
  if c = 1 then weirInt 6 x else if c = 7 then weirInt 4 x
  else if c = 6 then signedOf 4 x else if c = 0xA then signedOf 16 x else signedOf 8 x

/-- The floating-point formats of a pair's weights and activations. -/
def macFp (c : Nat) : FpFmt × FpFmt :=
  if c = 2 then (e4m3, e4m3) else if c = 3 then (e5m2, e5m2) else if c = 4 then (e4m3, e5m2)
  else if c = 5 then (e5m2, e4m3) else if c = 8 then (bf16, bf16) else if c = 9 then (fp16, fp16) else (fp32, fp32)

/-- One accumulator: the INT32 group sum and the FP32 sum (R124). -/
structure Acc where
  g : Int := 0
  f : Nat := 0
deriving DecidableEq, Repr

/-- F rounded into the accumulator: infinity beyond the largest value, subnormals flushed (R144, R155). -/
def accRound (v : Flt) : Nat := encodeIeee fp32 true v

/-- The products of one output of one MAC slot go into its accumulator (R124, R155). -/
def macOut (c : Nat) (p : MacFmt) (ma mb o : Nat) (a : Acc) : Acc :=
  let wt (i : Nat) : Nat := ma / 2 ^ ((o * p.ins + i) * p.ww) % 2 ^ p.ww
  let act (i : Nat) : Nat := mb / 2 ^ (i * p.aw) % 2 ^ p.aw
  if p.ints then
    let s := (List.range p.ins).foldl (fun (t : Int) i => t + macWInt c (wt i) * signedOf p.aw (act i)) 0
    { a with g := clampI (-2 ^ 31) (2 ^ 31 - 1) (a.g + s) }
  else
    let fs := macFp c
    let prod (i : Nat) : Flt := (decodeFp fs.1 (wt i)).mul (decodeFp fs.2 (act i))
    if c = 0xB then
      { a with f := (List.range p.ins).foldl (fun f i => accRound ((prod i).add (decodeFp fp32 f))) a.f }
    else
      { a with f := accRound ((List.range p.ins).foldl (fun t i => t.add (prod i)) (decodeFp fp32 a.f)) }

/-- A close: F := F + G × ws × as with one rounding, and G := 0 (R124, R155). -/
def accClose (ms : Nat) (a : Acc) : Acc :=
  let t := ((Flt.ofInt a.g).mul (decodeFp bf16 (bits ms 31 16))).mul (decodeFp bf16 (bits ms 15 0))
  { g := 0, f := accRound ((decodeFp fp32 a.f).add t) }

/-! ## Sail transform (R126, R163) -/

/-- One step of the LFSR. -/
def lfsrNext (r : Nat) : Nat := r / 2 + ((r ^^^ (r / 4) ^^^ (r / 8) ^^^ (r / 32)) % 2) * 2 ^ 15

/-- Sum and difference of two lists, element by element. -/
def butterfly (x y : List Flt) : List Flt :=
  (List.zipWith Flt.add x y) ++ (List.zipWith Flt.sub x y)

/-- H·x for 2^k points, exactly, in natural order. -/
def hadamard : Nat → List Flt → List Flt
  | 0, x => x
  | k + 1, x => butterfly (hadamard k (x.take (2 ^ k))) (hadamard k (x.drop (2 ^ k)))

/-- ⌊√½ × 2^320⌋, with which BF16 and FP32 results of N = 32 and 128 are formed (log entry 6). -/
def rootHalf : Nat := 0xb504f333f9de6484597d89b3754abe9f1d6f60ba893ba84ced17ac85833399154afc83043ab8a2c3

/-- One result of the transform: y ÷ √N in the element format: INT16 with 1/√2 as 0x5A82 × 2^−15, else rounded once (R126). -/
def sailOutPoint (fmt lg : Nat) (y : Flt) : Nat :=
  let h := (lg / 2 : Nat)
  let scaled (c : Nat) (p : Nat) : Flt :=
    match y with
    | .fin s m e => if lg % 2 = 0 then .fin s m (e - h) else .fin s (m * c) (e - h - p)
    | v => v
  if fmt = 1 then (encodeInt 16 (scaled 0x5A82 15)).1
  else encodeIeee (if fmt = 0 then bf16 else fp32) false (scaled rootHalf 320)

/-! ## The NCO's cosine and sine (R502) -/

/-- ⌊π × 2^200⌋. -/
def piFix : Nat := 0x3243f6a8885a308d313198a2e03707344a4093822299f31d008

/-- Taylor terms x^(2k+o)/(2k+o)! with alternating sign, in fixed point of 160 bits. -/
def taylor (x2 : Nat) : Nat → Nat → Nat → Bool → Int → Int
  | 0, _, _, _, acc => acc
  | n + 1, i, t, neg, acc =>
    let acc := if neg then acc - (t : Int) else acc + (t : Int)
    taylor x2 n (i + 2) (t * x2 / 2 ^ 160 / ((i + 1) * (i + 2))) (!neg) acc

/-- Sine and cosine of r/2^20 of a turn for r ≤ 2^17, scaled by 2^160. -/
def octant (r : Nat) : Int × Int :=
  let x := 2 * piFix * r / 2 ^ 60
  let x2 := x * x / 2 ^ 160
  (taylor x2 26 1 x false 0, taylor x2 26 0 (2 ^ 160) false 0)

/-- round(2^17 × v), limited to ±131,071 (R502). -/
def nco17 (v : Int) : Int := clampI (-131071) 131071 (roundDiv v (2 ^ 143))

/-- C and S of R502 for a 20-bit phase. -/
def ncoCS (p : Nat) : Int × Int :=
  let quad := p / 2 ^ 18 % 4
  let r := p % 2 ^ 18
  let sc := if r ≤ 2 ^ 17 then octant r else let o := octant (2 ^ 18 - r); (o.2, o.1)
  let s := sc.1
  let c := sc.2
  let r := if quad = 0 then (c, s) else if quad = 1 then (-s, c) else if quad = 2 then (-c, -s) else (s, -c)
  (nco17 r.1, nco17 r.2)

end Sys2Proof.Machine
end

