-- ==== Sys2Proof/Machine/Array.lean ====
section
/-! DEFINITION. The Flume array: executed cycles, links, channels, tailgates, schedule faults, staging, frame boundaries and
admission (R86-R114, R119, R120, R132-R135). -/

namespace Sys2Proof.Machine

/-- Add to a tally, its counts stopping at 2^32 − 1 (R165). -/
def Tally.add (t : Tally) (lanes sat peak : Nat) : Tally :=
  ⟨min 0xFFFFFFFF (t.lanes + lanes), min 0xFFFFFFFF (t.sat + sat), max t.peak peak⟩

namespace Dev

/-! ## Cells -/

/-- Key of a logical cell. -/
def cellKey (r c : Nat) : Nat := r * 96 + c

/-- A cell. -/
def cell (d : Dev) (r c : Nat) : Cell := d.flume.cells.get {} (cellKey r c)

/-- Replace a cell. -/
def setCell (d : Dev) (r c : Nat) (x : Cell) : Dev :=
  { d with flume := { d.flume with cells := d.flume.cells.set {} (cellKey r c) x } }

/-- Change a cell. -/
def updCell (d : Dev) (r c : Nat) (f : Cell → Cell) : Dev := d.setCell r c (f (d.cell r c))

/-- What a cleared array keeps: its counters that are not of a job (R12, R175), the cells' first faults, held until the job
is unloaded (R112), and the failed cells that the MP has yet to handle (R114). -/
def flumeKept (d : Dev) : Flume :=
  { ecc := d.flume.ecc, orphans := d.flume.orphans, hist := d.flume.hist, emaEver := d.flume.emaEver, faults := d.flume.faults
    dead := d.flume.dead }

/-- FLM_STAT fields (R115). -/
def flmRun (d : Dev) : Bool := d.flag Reg.flmStat 1
def flmFaulted (d : Dev) : Bool := d.flag Reg.flmStat 4
def flmII (d : Dev) : Nat := d.fld Reg.flmII 23 0
def flmL (d : Dev) : Nat := d.fld Reg.flmL 23 0

/-- The quadrant of a logical cell (R89). -/
def quadOf (r c : Nat) : Nat := b2n (decide (48 ≤ c)) + 2 * b2n (decide (48 ≤ r))

/-- A cell of the grid whose quadrant is powered (R89, R96). -/
def powered (d : Dev) (r c : Int) : Bool :=
  decide (0 ≤ r) && decide (r < 96) && decide (0 ≤ c) && decide (c < 96) &&
    d.flag Reg.flmStat (12 + quadOf r.toNat c.toNat)

/-- A frame's record is in flight: its L executed cycles have not passed (R109). -/
def recInFlight (d : Dev) (r : AdmitRec) : Bool := r.kind != .empty && decide (d.flume.ecc < r.e0 + d.flmL)

/-- FLM_INFLIGHT (R115). -/
def inFlight (d : Dev) : List AdmitRec := d.flume.recs.filter d.recInFlight

/-! ## Junction input buffers (R106) -/

/-- Reserve the tailgate output of one frame in every column. -/
def reserveOut (d : Dev) : Dev :=
  let r := d.flume.tgBytes.cells.foldl (fun m x => m.set 0 x.1 (m.get 0 x.1 + x.2)) d.flume.reserved
  { d with flume := { d.flume with reserved := r } }

/-- Release one frame's reservation. -/
def releaseOut (d : Dev) : Dev :=
  let r := d.flume.tgBytes.cells.foldl (fun m x => m.set 0 x.1 (m.get 0 x.1 - x.2)) d.flume.reserved
  { d with flume := { d.flume with reserved := r } }

/-- Every column has room for one frame's output in its 8 KiB (R106). -/
def roomOut (d : Dev) : Bool := d.flume.tgBytes.cells.all (fun x => decide (d.flume.reserved.get 0 x.1 + x.2 ≤ 8192))

/-! ## Slots of a stream's ring (R78, R310) -/

/-- A stream context. -/
def strm (d : Dev) (n : Nat) : Strm := d.strms.get {} n

/-- Elements that a delta store keeps for a lane: none unless it is a DELTA lane, else as many as its column's output holds
(R277, log entry 13). -/
def deltaElems (d : Dev) (ix : Nat) : Nat :=
  let l := d.jn.lanes.get {} ix
  if l.mode = 3 then d.flume.tgBytes.get 0 (ix / 4) / 8 * fmtLanes l.fmt else 0

/-- References of one stream, and the place of an element's reference in the delta store: two bytes each, by stream, then
lane, then element (R277, log entry 13). -/
def deltaSpan (d : Dev) : Nat := ((List.range 384).map d.deltaElems).sum
def deltaAddr (d : Dev) (stream ix e : Nat) : Nat :=
  d.jn.deltaBase + 2 * (stream * d.deltaSpan + ((List.range ix).map d.deltaElems).sum + e)

/-- Replace a stream context. -/
def setStrm (d : Dev) (n : Nat) (x : Strm) : Dev := { d with strms := d.strms.set {} n x }

/-- INTK_STRn_STAT.NO_SLOT is 1 while every slot is occupied (R80). -/
def showNoSlot (d : Dev) (n : Nat) : Dev :=
  d.setFlag (Reg.intkStrStat n) 3 (decide (d.fld (Reg.intkStrBufCfg n) 4 0 ≤ (d.strm n).busy.length))

/-- A slot becomes free, and its lines' pins are released (R78, R310). -/
def freeSlot (d : Dev) (n k : Nat) : Dev :=
  let d := (d.setStrm n { d.strm n with busy := (d.strm n).busy.filter (· != k) }).showNoSlot n
  if d.flag (Reg.intkStrBufCfg n) 8 then d.scUnpin (d.slotAddr n k) (d.slotSize n) else d

/-! ## Schedule faults (R112, R113) -/

/-- The main-stream slot index of a cell in executed cycle t: the slot that issued last while it lasts, else the next (R503). -/
def slotNow (x : Cell) (t : Nat) : Nat := if x.halted || decide (t < x.mainAt) then x.lastSlot else x.slot

/-- A log entry made in the present TBC for a schedule fault (R503). -/
def faultEntry (d : Dev) (e : Nat) : Bool :=
  e % 16 == clsEvent && decide (0x81 ≤ bits e 15 8) && decide (bits e 15 8 ≤ 0x87) && e / 2 ^ 64 == d.tb.tbc % 2 ^ 64

/-- The first fault that a cell's status registers hold: its first since the job was loaded; of several in one cycle, the
lowest code (R112). x is the cell before the fault, with the first fault of this run. -/
def holdFault (d : Dev) (r c : Nat) (x : Cell) (cause : Nat) : Dev :=
  let k := cellKey r c
  let f := d.flume.faults.get (0, 0) k
  let now := d.flume.ecc
  let put (d : Dev) : Dev := { d with flume := { d.flume with faults := d.flume.faults.set (0, 0) k (cause, now) } }
  if f.1 = 0 then (put d).bump Reg.flmFaultCells
  else if f = (x.cause, x.faultEcc) ∧ f.2 = now ∧ cause < f.1 then put d else d

/-- Record a schedule fault of a cell: its counter, the cell's first fault, and the array's first fault, whose record
keeps the lowest row and column of its cycle. A bubble in flight delays the stop as a frame does (R113, log entry 136). -/
def schedFault (d : Dev) (r c cause : Nat) : Dev :=
  let d := d.bump (Reg.flmFaultCount (cause - 1))
  let x := d.cell r c
  let now := d.flume.ecc
  let d := d.holdFault r c x cause
  let d := if x.cause = 0 then d.setCell r c { x with cause := cause, faultEcc := now }
    else if x.faultEcc = now ∧ cause < x.cause then d.setCell r c { x with cause := cause } else d
  let index := r * 256 + c
  let note (d : Dev) : Dev :=
    ((d.setReg Reg.flmFaultCell index).setReg Reg.flmFaultCause (d.cell r c).cause).setReg64 Reg.flmFaultEccLo
      Reg.flmFaultEccHi now
  if !d.flmFaulted then
    let d := (note d).setFlag Reg.flmStat 4 true
    let d := d.logError unitFlume clsEvent (0x80 + cause) index (slotNow (d.cell r c) now)
    -- The frames in flight end with the array's stop (R113).
    let live := d.inFlight
    { d with flume := { d.flume with
        stopAt := some (live.foldl (fun m x => max m (x.e0 + d.flmL)) (now + 1))
        lost := (live.filter (fun x => x.kind == .frame)).map (·.fr)
        recs := d.flume.recs.map (fun (x : AdmitRec) => if d.recInFlight x then { x with fr := { x.fr with doomed := true } } else x) } }
  else if d.rn64 Reg.flmFaultEccLo Reg.flmFaultEccHi = now ∧ index ≤ d.rn Reg.flmFaultCell then
    let d := note d
    let l := d.log unitFlume
    let e := (l.entries.get 0 ((l.wr - 1) % 8)).toNat
    let e := putBits (putBits (putBits e 15 8 (0x80 + d.rn Reg.flmFaultCause)) 31 16 index) 55 32 (slotNow (d.cell r c) now)
    if l.wr = l.hnd || !d.faultEntry (l.entries.get 0 ((l.wr - 1) % 8)).toNat then d
    else d.setLog unitFlume { l with entries := l.entries.set 0 ((l.wr - 1) % 8) (BitVec.ofNat 128 e) }
  else d

/-! ## Messages (R93-R101) -/

/-- An orphan: a message to a halted cell (R101). -/
def orphan (d : Dev) (r c : Nat) : Dev :=
  let k := cellKey r c
  let d := { d with flume := { d.flume with orphans := d.flume.orphans.set 0 k ((d.flume.orphans.get 0 k + 1) % 2 ^ 32) } }
  if d.flag Reg.flmCtl 8 then d.schedFault r c 7 else d.bump (Reg.flmFaultCount 6)

/-- A message reaches a channel at the end of the cycle; a bound channel queues a dispatch (R97-R99). -/
def arrive (d : Dev) (r c ch data : Nat) : Dev :=
  let x := d.cell r c
  if x.halted then d.orphan r c else
  let q := x.chans.get [] ch
  if 4 ≤ q.length then d.schedFault r c 1 else
  let x := { x with chans := x.chans.set [] ch (q ++ [data]) }
  d.setCell r c (if bit (x.binds.get 0 ch) 15 then { x with queue := x.queue ++ [(d.flume.ecc, ch)] } else x)

/-- The direction of a message's next hop: 0 north, 1 east, 2 south, 3 west (R93). -/
def hopDir (f : Flight) : Nat := if 0 < f.dx then 1 else if f.dx < 0 then 3 else if 0 < f.dy then 2 else 0

/-- The message one hop on. -/
def hop (f : Flight) : Flight :=
  let k := hopDir f
  if k = 1 then { f with col := f.col + 1, dx := f.dx - 1, side := 3 }
  else if k = 3 then { f with col := f.col - 1, dx := f.dx + 1, side := 1 }
  else if k = 2 then { f with row := f.row + 1, dy := f.dy - 1, side := 0 }
  else { f with row := f.row - 1, dy := f.dy + 1, side := 2 }

/-- A headgate word enters row 0, the hop that its DY counts; DY 0 is delivered there too (R108, log entry 136). -/
def enter (f : Flight) : Flight := { f with row := 0, dy := if 0 < f.dy then f.dy - 1 else f.dy, side := 0 }

/-- Two messages claim one outbound link. -/
def sameLink (f g : Flight) : Bool :=
  f.row == g.row && f.col == g.col && hopDir f == hopDir g

/-- What one cycle of the link switches yields. -/
structure Moved where
  d      : Dev
  keep   : List Flight := []
  /-- Deliveries: cell, channel and data with the inbound side. -/
  land   : List Flight := []
  /-- Words that left row 95: column, lane, data. -/
  tails  : List (Nat × Nat × Nat) := []

/-- A message that may move in this cycle moves, waits for nothing, or is dropped with its fault (R95, R96). -/
def moveOne (all : List Flight) (m : Moved) (f : Flight) : Moved :=
  if f.row < 0 then
    let g := enter f
    if g.dx = 0 ∧ g.dy = 0 then { m with land := m.land ++ [g] } else { m with keep := m.keep ++ [g] }
  else if f.dx = 0 ∧ f.dy = 0 then { m with land := m.land ++ [f] }
  else
    let g := hop f
    let fault (c : Nat) : Moved := { m with d := m.d.schedFault f.row.toNat f.col.toNat c }
    if g.row = 96 then
      if f.dy ≠ 1 then fault 4
      else if all.any (fun h => sameLink f h && decide (h.side < f.side)) then fault 3
      else if 4 ≤ f.ch then fault 4
      else { m with tails := m.tails ++ [(f.col.toNat, f.ch, f.data)] }
    else if !m.d.powered g.row g.col then fault 4
    else if all.any (fun h => sameLink f h && decide (h.side < f.side)) then fault 3
    else if g.dx = 0 ∧ g.dy = 0 then { m with land := m.land ++ [g] }
    else { m with keep := m.keep ++ [g] }

/-- Deliveries of one cycle: the first inbound path of a channel is written, the others are dropped (R97). -/
def deliverAll (land : List Flight) (d : Dev) : Dev :=
  land.foldl (fun d f =>
    if land.any (fun g => g.row == f.row && g.col == f.col && g.ch == f.ch && decide (g.side < f.side)) then
      if (d.cell f.row.toNat f.col.toNat).halted then d.orphan f.row.toNat f.col.toNat
      else d.schedFault f.row.toNat f.col.toNat 1
    else d.arrive f.row.toNat f.col.toNat f.ch f.data) d

/-! ## Tailgates (R110, R135) -/

/-- Replace one admission record. -/
def setRec (d : Dev) (s : Nat) (r : AdmitRec) : Dev := { d with flume := { d.flume with recs := d.flume.recs.set s r } }

/-- The tailgate entries of a body position: a listed word is appended, or a zero word in its place; others are surplus. The
output of a frame that a schedule fault dooms is appended too, and discarded with the frame (R113). A word that two entries
list is appended for both (R110, log entry 136). -/
def tailCycle (d : Dev) (tails : List (Nat × Nat × Nat)) : Dev :=
  let p := match d.flume.lastAdmit with
    | some b => d.flume.ecc - b
    | none => 0
  let ents := d.flume.tail.filter (fun e => e.p == p)
  let d := ents.foldl (fun d e =>
    let r := d.flume.recs.getD e.stage {}
    if r.kind != .frame then d else
    let hit := tails.find? (fun t => t.1 == e.col && t.2.1 == e.lane)
    let w := match hit with
      | some t => t.2.2
      | none => 0
    let k := e.col * 4 + e.lane
    let d := d.setRec e.stage { r with fr := { r.fr with out := r.fr.out.set [] k (r.fr.out.get [] k ++ [w]) } }
    if hit.isNone then d.schedFault 95 e.col 2 else d) d
  (tails.filter (fun t => !ents.any (fun e => e.col == t.1 && e.lane == t.2.1))).foldl (fun d t => d.schedFault 95 t.1 1) d

/-- The end of executed cycle ecc: the switches, the channels, the tailgates, ended passes and freed staging banks. -/
def cycleEnd (d : Dev) : Dev :=
  let ready := d.flume.flights.filter (fun f => decide (f.born < d.flume.ecc))
  let later := d.flume.flights.filter (fun f => !decide (f.born < d.flume.ecc))
  let m := ready.foldl (moveOne ready) { d := d }
  let d := { m.d with flume := { m.d.flume with flights := m.keep ++ later } }
  let d := (deliverAll m.land d).tailCycle m.tails
  let lastHead := d.flume.head.foldl (fun m e => max m e.k) 0
  let ends := d.flume.recs.filter (fun r => r.kind == .frame && !r.ovr && !r.fr.doomed && r.e0 + d.flmL == d.flume.ecc + 1)
  let recs := d.flume.recs.map (fun (r : AdmitRec) =>
    { r with ovr := r.ovr || decide (r.e0 + d.flmL ≤ d.flume.ecc + 1)
             bank := r.bank && decide (d.flume.ecc + 1 < r.e0 + lastHead + 1) })
  { d with flume := { d.flume with
      recs := recs, ecc := d.flume.ecc + 1, passed := d.flume.passed ++ ends.map (fun r => (r.fr, false)) } }

/-! ## Staging (R104, R132, R164) -/

/-- Staging banks in use: every frame of an image uses the same columns. -/
def banksUsed (d : Dev) : Nat :=
  (d.flume.staged.filter (fun s => s.mode != .waitCopy)).length + (d.flume.recs.filter (·.bank)).length

/-- Replace the staged frames. -/
def setStaged (d : Dev) (l : List Staged) : Dev := { d with flume := { d.flume with staged := l } }

/-- The framer writes a frame's first sample: the frame is staged write-through where banks are free (R104). -/
def stageBegin (d : Dev) (fr : Frame) : Dev :=
  if d.flume.head.isEmpty || 2 ≤ d.banksUsed then d else d.setStaged (d.flume.staged ++ [{ fr := fr, mode := .writeThrough }])

/-- A frame is abandoned while it is being written (R70). -/
def stageAbandon (d : Dev) (n f : Nat) : Dev :=
  d.setStaged (d.flume.staged.filter (fun s => !(s.fr.stream == n && s.fr.frame == f % 2 ^ 32 && s.mode == .writeThrough)))

/-- The feeders fill the banks of a write-through frame with payload bytes from a place on (R104). -/
def stageWrite (d : Dev) (n f off : Nat) (bs : List Nat) : Dev :=
  d.setStaged (d.flume.staged.map (fun (s : Staged) =>
    if s.fr.stream == n && s.fr.frame == f && s.mode == .writeThrough then { s with bytes := s.bytes.setMany 0 off bs } else s))

/-- The framer writes a frame's descriptor: write-through staging is complete, or the frame waits for a copy (R104). -/
def stageFull (d : Dev) (fr : Frame) : Dev :=
  let mine (s : Staged) : Bool := s.fr.stream == fr.stream && s.fr.frame == fr.frame && s.mode == .writeThrough
  if d.flume.staged.any mine then
    d.setStaged (d.flume.staged.map (fun (s : Staged) =>
      if mine s then { s with fr := { fr with fullAt := d.tb.tbc }, mode := .ready } else s))
  else d.setStaged (d.flume.staged ++ [{ fr := fr, mode := .waitCopy }])

/-- PEAK of one lane: |q| ÷ Qmax as BF16, clamped at 16.0; NaN gives none (R165). -/
def peakOf (q : Flt) (qmax : Nat) : Nat :=
  match q with
  | .nan => 0
  | .inf _ => 0x4180
  | .fin _ m e => min 0x4180 (roundCode bf16 m qmax e)

/-- One staged word smoothed: each signed 16-bit lane times its multiplier, ties to even, saturated (R164, log entry 143). -/
def smoothWord (mult : List Nat) (p w v : Nat) : Nat × Nat × Nat :=
  let lane (j : Nat) : Nat × Nat × Nat :=
    let q := (Flt.ofInt (signedOf 16 (v / 2 ^ (16 * j)))).mul (decodeFp bf16 (mult.getD ((4 * (w - 1) + j) % p) 0))
    let r := encodeInt 16 q
    (r.1, r.2, peakOf q 32767)
  let ls := (List.range 4).map lane
  (packLanes 16 (ls.map (·.1)), (ls.map (·.2.1)).foldl (· + ·) 0, (ls.map (·.2.2)).foldl max 0)

/-- A payload line that cannot be read is staged as zeros, and the frame carries MEM_ERR (R443). -/
def lineBad (d : Dev) (a : Nat) : Bool :=
  match d.placeOf a 1 with
  | .pond => false
  | .ddr => false
  | .host => false
  | _ => true

/-- The columns whose banks a frame uses: those with staged bytes or a headgate entry (R132, R134). -/
def headCols (d : Dev) : List Nat :=
  (List.range 96).filter (fun c => decide (0 < (d.flume.staging.get (0, 0) c).2) || d.flume.head.any (fun e => e.col == c))

/-- The feeders copy a frame's payload from its slot, line by line; a line that cannot be read is copied as zeros, and the
frame carries MEM_ERR (R104, R132, R443). -/
def stageCopy (d : Dev) (s : Staged) : Staged :=
  d.headCols.foldl (fun (s : Staged) c =>
    let r := d.flume.staging.get (0, 0) c
    (List.range r.2).foldl (fun (s : Staged) i =>
      let a := s.fr.addr + r.1 + i
      if d.lineBad a || d.readBad (a / 64 * 64) 64 then
        { s with bytes := s.bytes.set 0 (r.1 + i) 0, fr := { s.fr with memErr := true } }
      else { s with bytes := s.bytes.set 0 (r.1 + i) (d.byte a).toNat }) s) { s with bytes := ⟨[]⟩, lost := [] }

/-- Lines of a frame's payload in the ranges of its columns. -/
def payloadLines (d : Dev) (fr : Frame) : List Nat :=
  (d.headCols.flatMap (fun c =>
    let r := d.flume.staging.get (0, 0) c
    let a := fr.addr + r.1
    (List.range (ceilDiv (a + r.2) 64 - a / 64)).map (fun k => (a / 64 + k) * 64))).eraseDups

/-- The feeders enter the lines that they cannot reach in their log, and find the lines that fail their check (R307, R435). -/
def copyErrs (d : Dev) (fr : Frame) : Dev :=
  (d.payloadLines fr).foldl (fun d a => if d.lineBad a then d.accessErr unitFlume fr.stream a else d.readChecks a 64) d

/-- A 64-bit word of k staged bytes. -/
def bankWord (m : SMap Nat) (at_ k : Nat) : Nat := (List.range k).foldr (fun i v => m.get 0 (at_ + i) % 256 + 256 * v) 0

/-- The words of one column of a frame: word 0 the attribute word, then the staged bytes of its range, smoothed by the page of
the frame's epoch (R132, R164). -/
def stageCol (d : Dev) (fr : Frame) (bytes : SMap Nat) (attr c : Nat) : Frame :=
  let r := d.flume.staging.get (0, 0) c
  let n := ceilDiv r.2 8
  let raw := (List.range n).map (fun i => bankWord bytes (r.1 + 8 * i) (min 8 (r.2 - 8 * i)))
  let s := d.flume.smooth.get {} c
  let mult := if fr.epoch % 2 = 0 then s.page0 else s.page1
  let sm := if s.p = 0 then raw.map (fun x => (x, 0, 0)) else (raw.zipIdx 1).map (fun x => smoothWord mult s.p x.2 x.1)
  let fr := if s.p = 0 ∨ n = 0 then fr else
    { fr with tallies := fr.tallies.set {} s.group ((fr.tallies.get {} s.group).add (4 * n)
        ((sm.map (·.2.1)).foldl (· + ·) 0) ((sm.map (·.2.2)).foldl max 0)) }
  { fr with words := fr.words.set [] c (attr :: sm.map (·.1)) }

/-- The attribute word (R132): stream, epoch, record index, frame number. -/
def attrWord (fr : Frame) (ix : Nat) : Nat :=
  fr.stream % 64 + fr.epoch % 256 * 2 ^ 6 + ix % 16 * 2 ^ 14 + fr.frame % 2 ^ 32 * 2 ^ 18

/-- A word of a frame's staging bank is taken as 0 (R440). -/
def zeroIn (fr : Frame) (c w : Nat) : Frame := { fr with words := fr.words.set [] c ((fr.words.get [] c).set w 0) }

/-- All columns of an admitted frame, from the bytes that its banks hold; a word that failed its check is 0. -/
def stageWords (d : Dev) (s : Staged) (fr : Frame) (ix : Nat) : Frame :=
  let fr := d.headCols.foldl (fun fr c => d.stageCol fr s.bytes (attrWord fr ix) c) { fr with words := ⟨[]⟩, tallies := ⟨[]⟩ }
  s.lost.foldl (fun fr x => zeroIn fr x.1 x.2) fr

/-! ## Boundaries (R19, R20, R24, R103, R105, R177) -/

/-- The wait ends; its length goes to FLM_WAIT. -/
def endWait (d : Dev) : Dev :=
  match d.flume.waitFrom with
  | none => d
  | some t =>
    let d := if d.flume.waitCounts then d.bump64 Reg.flmWaitLo Reg.flmWaitHi (d.tb.tbc - t) else d
    { d with flume := { d.flume with waitFrom := none, waitCounts := false } }.setFlag Reg.flmStat 2 false

/-- FLM_STAT.WAIT and the time at which a wait began; counts says whether it adds to FLM_WAIT (R24, R115). A FLUME_CLK change
counts from its own start, though the array may have waited before. -/
def beginWait (d : Dev) (counts : Bool) : Dev :=
  if d.flume.waitFrom.isSome && d.flume.waitCounts == counts then d
  else
    let d := d.endWait
    { d with flume := { d.flume with waitFrom := some d.tb.tbc, waitCounts := counts } }.setFlag Reg.flmStat 2 true

/-- The main stream goes to a slot index: the end of an alternative, and a rung window at POS (R171). -/
def goSlot (recs : List AdmitRec) (sched : Nat → Nat) (x : Cell) (i : Nat) : Cell :=
  let x := if x.altEnd ≠ 0 ∧ i = x.altEnd then { x with slot := x.altBack, altEnd := 0 } else { x with slot := i }
  if x.altEnd ≠ 0 then x else
  let stg := bits (sched x.slot) 58 55
  let r := recs.getD stg {}
  match x.windows.find? (fun w => w.pos == x.slot && r.kind == .frame && bits r.fr.rungs (2 * w.lg + 1) (2 * w.lg) == w.rung) with
  | some w => { x with slot := w.alt, altEnd := w.alt + w.len, altBack := w.pos + w.len }
  | none => x

/-- Every main stream restarts at BODY_START (R119). -/
def restartCells (d : Dev) : Dev :=
  let f (x : Cell) : Cell :=
    if x.halted then x else
    goSlot d.flume.recs (fun i => x.sched.get 0 i) { x with loops := [], altEnd := 0, mainAt := d.flume.ecc } x.bodyStart
  { d with flume := { d.flume with cells := ⟨d.flume.cells.cells.map (fun c => (c.1, f c.2))⟩ } }

/-- Put an admission record in front and restart the bodies. -/
def pushRec (d : Dev) (r : AdmitRec) : Dev :=
  restartCells { d with flume := { d.flume with
    recs := (r :: d.flume.recs).take d.flume.d, lastAdmit := some d.flume.ecc, boundaries := d.flume.boundaries + 1 } }

/-- A shadow write has not completed: it is held, or its SCALE_WRITE has been accepted and waits for its source (R178, R392). -/
def shadowOwed (d : Dev) : Bool :=
  !d.flume.shadow.isEmpty || d.vci.active.any (fun c => c.op == 0x30 && c.begun)

/-- At a boundary a pending swap takes effect once every earlier shadow write has completed, and EPOCH_SWAP commands complete
with the new EPOCH (R177, R179, R392). -/
def applySwap (d : Dev) : Dev :=
  if d.flume.swapPend && decide (d.flume.swapFrom ≤ d.flume.ecc) && !d.shadowOwed then
    let e := (d.fld Reg.flmEpoch 7 0 + 1) % 256
    let d := ({ d with flume := { d.flume with swapPend := false } }.setFld Reg.flmEpoch 7 0 e).bump Reg.flmSwaps
    d.completeWhen 0x31 (fun _ => true) [e]
  else d

/-- DATA and FAIL entries of the Flume array and of the junction input buffers (R452). -/
def flumeErrs (d : Dev) : Nat := (d.log unitFlume).cntData + (d.log unitFlume).cntFail + d.flume.bufErrs

/-- A layer group is declared, its base rung (R159, R185). -/
def lgDeclared (d : Dev) (g : Nat) : Bool := d.flag (Reg.lgCfg g) 31
def lgBase (d : Dev) (g : Nat) : Nat := d.fld (Reg.lgCfg g) 1 0

/-- The rungs of a first pass: every declared layer group at its BASE, and 0 for the others (R159, R180). -/
def baseRungs (d : Dev) : Nat :=
  ((List.range 16).filter d.lgDeclared).foldl (fun r g => r + d.lgBase g * 4 ^ g) 0

/-- Admit a staged frame (R106, R107, R170). -/
def admitFrame (d : Dev) (s : Staged) : Dev :=
  let fr := s.fr
  let first := fr.passes == 0
  let fr := { fr with
    passes := fr.passes + 1
    wait := fr.wait + (d.tb.tbc - fr.fullAt)
    epoch := if first then d.fld Reg.flmEpoch 7 0 else fr.epoch
    rungs := if first then d.baseRungs else fr.rungs
    flmErrs := if first then d.flumeErrs else fr.flmErrs
    out := ⟨[]⟩ }
  let fr := d.stageWords s fr (d.flume.boundaries % max 1 d.flume.d)
  let d := (d.reserveOut.bump Reg.flmAdmits)
  let d := if first then d else d.bump Reg.flmReruns
  let d := d.ledgerPut fr.stream fr.frame (fun e => { e with stages := putBits e.stages stAdmitted stAdmitted 1, wait := fr.wait })
  d.pushRec ⟨.frame, fr, d.flume.ecc, true, false⟩

/-- A staged frame that a boundary may admit: a drain holds fresh frames (R397). -/
def mayAdmit (d : Dev) (s : Staged) : Bool := !(d.flume.drain && s.fr.passes == 0)

/-- The staged frame to admit: the forebay full first, then the lower stream. Forebays are full "in the same cycle" when they
become full in one TBC period (R20, log entry 116); a drain holds fresh frames. -/
def pickStaged (d : Dev) : Option Staged :=
  let ok := d.flume.staged.filter (fun s => s.mode == .ready && d.mayAdmit s)
  ok.foldl (fun (b : Option Staged) s => match b with
    | none => some s
    | some t => if s.fr.fullAt < t.fr.fullAt ∨ (s.fr.fullAt = t.fr.fullAt ∧ s.fr.stream < t.fr.stream) then some s else b) none

/-- A staged frame is still in copy, so that the array waits for it (R19, R105). -/
def inCopy (d : Dev) : Bool := !d.flmFaulted && d.flume.staged.any (fun s => s.mode == .copying && d.mayAdmit s)

/-- With nothing in flight, the records that a wait passes are EMPTY (R120). -/
def emptyRecs (d : Dev) : Dev :=
  if d.inFlight.isEmpty then { d with flume := { d.flume with recs := List.replicate d.flume.d {} } } else d

/-- The boundary, evaluated: wait, admit a frame, or admit a bubble (R19, R103, R105, R113, R114, R448). A wait counts in
FLM_WAIT while frames are in flight, and always for a FLUME_CLK change (R24, R115). A pending swap applies at a boundary at
which the array waits, too (R177). -/
def boundary (d : Dev) : Dev :=
  if d.flume.failing || d.flume.clkBusy then d else
  let d := d.applySwap
  let frames := d.inFlight.any (fun r => r.kind == .frame)
  if d.flume.clkPend.isSome then
    { (d.beginWait true) with flume := { (d.beginWait true).flume with clkBusy := true } }
  else if d.held unitFlume then d.beginWait frames
  else
    match (if d.flmFaulted then none else d.pickStaged) with
    | some s =>
      if !d.roomOut then d.beginWait frames
      else
        let d := d.endWait
        (d.setStaged (d.flume.staged.filter (fun t => t != s))).admitFrame s
    | none =>
      if frames && d.inCopy then d.beginWait true
      else if frames || (d.flmFaulted && !d.inFlight.isEmpty) then
        let d := d.endWait.bump Reg.flmBubbles
        d.pushRec ⟨.bubble, {}, d.flume.ecc, false, false⟩
      else (d.beginWait false).emptyRecs

/-- The executed cycle of the boundary that comes next (R103). -/
def boundaryAt (d : Dev) : Nat :=
  match d.flume.lastAdmit with
  | none => d.flume.ecc
  | some b => b + d.flmII

/-- A frame of the array is reported not done. Its work ends there, so its slot is released (R78, R113, R291, log entry 102). -/
def loseFrame (d : Dev) (fr : Frame) : Dev := (d.stage fr.stream fr.frame stNotDone).freeSlot fr.stream fr.slot

/-- After a schedule fault the array stops before executed cycle t (R113). -/
def stopDue (d : Dev) (t : Nat) : Bool :=
  match d.flume.stopAt with
  | none => false
  | some u => decide (u ≤ t)

/-- A swap whose last shadow write completes while the array waits at a later boundary than the request's applies there (R177). -/
def swapWaiting (d : Dev) : Dev := if d.flume.waitFrom.isSome && d.flmRun && !d.flume.failing then d.applySwap else d

/-- Frames that a stop reports not done: those staged for a re-run (R181). -/
def dropQueued (d : Dev) : Dev :=
  let q := d.flume.staged.filter (fun s => s.fr.passes != 0)
  let d := q.foldl (fun d s => d.loseFrame s.fr) d
  d.setStaged (d.flume.staged.filter (fun s => s.fr.passes == 0))

/-- Frames that were in flight at the first schedule fault, or are in flight at a failed cell's boundary. -/
def undone (d : Dev) : List Frame :=
  d.flume.lost ++ (d.inFlight.filter (fun r => r.kind == .frame && !r.fr.doomed)).map (·.fr)

/-- The array stops (R113, R114): frames in flight are reported not done and their reservations released, and a FLUME_CLK
change that waited for a boundary holds at once, since no boundary follows (log entry 102). -/
def stopArray (d : Dev) : Dev :=
  let d := d.undone.foldl (fun (d : Dev) fr => (d.loseFrame fr).releaseOut) d
  let d := d.dropQueued.endWait.flumeTaken
  let d := (d.setFlag Reg.flmStat 3 true).setFlag Reg.flmStat 1 false
  { d with flume := { d.flume with
      recs := List.replicate d.flume.d {}, flights := [], stopAt := none, lost := [], failing := false } }

end Dev

end Sys2Proof.Machine
end

