-- ==== Sys2Proof/Machine/Operands.lean ====
section
/-! DEFINITION. A schedule slot in its cycle: its suppression, its unit, its sources, its data SRAM address, its results
and what the lane does next (R91, R92, R98-R100, R116-R121, R128-R130). -/

namespace Sys2Proof.Machine

/-- Units of R122, as bits of Cell.units. -/
def uNone : Nat := 0
def uAlu : Nat := 1
def uLsu : Nat := 2
def uMac : Nat := 4
def uSail : Nat := 8
def uSend : Nat := 16

namespace Dev

/-- The cell of a slot. -/
def xcell (d : Dev) (x : Slot) : Cell := d.cell x.row.val x.col.val

/-- Change the cell of a slot. -/
def updX (d : Dev) (x : Slot) (f : Cell → Cell) : Dev := d.updCell x.row.val x.col.val f

/-- The executed cycle in which a lane's next slot issues. -/
def issueAt (d : Dev) (x : Slot) : Nat := if x.handler then (d.xcell x).handAt else (d.xcell x).mainAt

/-- Results kept in the order in which they are written: by cycle, then issue cycle, the main stream's last (R128). -/
def insPend (w : PendWrite) : List PendWrite → List PendWrite
  | [] => [w]
  | v :: vs =>
    if v.due < w.due ∨ (v.due = w.due ∧ (v.issued < w.issued ∨ (v.issued = w.issued ∧ (v.handler || !w.handler)))) then
      v :: insPend w vs
    else w :: v :: vs

/-- One result is written. -/
def land1 (x : Cell) (w : PendWrite) : Cell :=
  match w.dest with
  | .reg n => { x with regs := x.regs.set 0 n w.value }
  | .mac => { x with macRes := w.value }
  | .sail => { x with sailRes := w.value }
  | .alu => { x with aluRes := w.value }

/-- Every result readable from cycle t on is written. -/
def landPend (t : Nat) (x : Cell) : Cell :=
  ((x.pend.filter (fun w => decide (w.due ≤ t))).foldl land1 { x with pend := x.pend.filter (fun w => !decide (w.due ≤ t)) })

/-- A cell at the start of its slot in executed cycle t: results due are written, and its record of use starts afresh. -/
def cellStart (t : Nat) (c : Cell) : Cell :=
  let c := landPend t c
  if c.useAt = t then c else { c with useAt := t, units := 0, banks := 0 }

/-- A loop's end is reached: repeat it, or leave it and look at the loop around it (R121). -/
def loopBack (i : Nat) : List LoopState → Nat × List LoopState
  | [] => (i, [])
  | l :: ls =>
    if i = l.start + l.len then
      if 0 < l.left then (l.start, { l with left := l.left - 1 } :: ls) else loopBack i ls
    else (i, l :: ls)

/-- The lane goes on after a slot that took some cycles. -/
def laneNext (d : Dev) (x : Slot) (t cycles : Nat) : Dev :=
  if x.handler then d.updX x (fun c => { c with handAt := t + cycles, handSlot := c.handSlot + 1 })
  else
    let recs := d.flume.recs
    d.updX x (fun c =>
      let n := loopBack (c.slot + 1) c.loops
      goSlot recs (fun i => c.sched.get 0 i) { c with mainAt := t + cycles, lastSlot := c.slot, loops := n.2 } n.1)

/-- A slot executes only while the record of its stage is FRAME; handler slots are never suppressed (R120, R130). -/
def suppressed (d : Dev) (x : Slot) : Bool :=
  !x.handler && (d.flume.recs.getD x.stage.val {}).kind != .frame

/-- A slot of a unit in the present cycle: suppressed, displaced by the main stream (R100), or executed; then its lane goes
on. -/
def runSlot (x : Slot) (unit : Nat) (effect : Nat → Dev → Dev) (d : Dev) : Dev :=
  let t := d.flume.ecc
  let d :=
    if d.suppressed x then d
    else if x.handler && ((d.xcell x).units &&& unit) != 0 then d.schedFault x.row.val x.col.val 5
    else
      let d := if x.handler then d else d.updX x (fun c => { c with units := c.units ||| unit })
      effect t d
  d.laneNext x t 1

/-- A control slot: never suppressed, naming no unit (R120). -/
def runCtl (x : Slot) (cycles : Nat) (effect : Nat → Dev → Dev) (d : Dev) : Dev :=
  let t := d.flume.ecc
  (effect t d).laneNext x t cycles

/-- A result readable from cycle t + lat (R122). -/
def result (d : Dev) (x : Slot) (t lat : Nat) (dest : Dest) (v : Nat) : Dev :=
  d.updX x (fun c => { c with pend := insPend ⟨t + lat, t, x.handler, dest, v % 2 ^ 64⟩ c.pend })

/-! ## Data SRAM (R92, R117) -/

/-- The word address of a slot: ADDR, or the low 12 bits of the base register plus ADDR, modulo 3,072. -/
def sramAddr (d : Dev) (x : Slot) : Nat :=
  (if x.am = 0 then x.addr.toNat else (d.xcell x).regs.get 0 (8 + x.rb.val) % 4096 + x.addr.toNat) % 3072

/-- Mode 0b10: the base register is incremented at the end of the issue cycle, though the access is not performed (R92, log entry
136). -/
def postInc (d : Dev) (x : Slot) (t by_ : Nat) : Dev :=
  if x.am = 2 then d.result x t 1 (.reg (8 + x.rb.val)) ((d.xcell x).regs.get 0 (8 + x.rb.val) + by_) else d

/-- A bank takes one access in a cycle; a second is a BANK fault and is not performed. -/
def takeBank (d : Dev) (x : Slot) (a : Nat) : Dev × Bool :=
  let b := a / 1024
  if bit (d.xcell x).banks b then (d.schedFault x.row.val x.col.val 6, false)
  else (d.updX x (fun c => { c with banks := c.banks ||| 2 ^ b }), true)

/-- A 64-bit read; one not performed returns 0. -/
def read64 (d : Dev) (x : Slot) (t : Nat) : Dev × Nat :=
  let a := d.sramAddr x
  let v := (d.xcell x).sram.get 0 a
  let r := d.takeBank x a
  (r.1.postInc x t 1, if r.2 then v else 0)

/-- A 256-bit read for MA: four words, the low two address bits ignored. -/
def read256 (d : Dev) (x : Slot) (t : Nat) : Dev × Nat :=
  let a := d.sramAddr x / 4 * 4
  let c := d.xcell x
  let v := c.sram.get 0 a + c.sram.get 0 (a + 1) * 2 ^ 64 + c.sram.get 0 (a + 2) * 2 ^ 128 + c.sram.get 0 (a + 3) * 2 ^ 192
  let r := d.takeBank x a
  (r.1.postInc x t 4, if r.2 then v else 0)

/-- A 64-bit write, in the issue cycle; one not performed is lost. -/
def write64 (d : Dev) (x : Slot) (t v : Nat) : Dev :=
  let a := d.sramAddr x
  let r := d.takeBank x a
  let d := if r.2 then r.1.updX x (fun c => { c with sram := c.sram.set 0 a (v % 2 ^ 64) }) else r.1
  d.postInc x t 1

/-! ## Sources (R91, R98, R118, R129) -/

/-- A channel's head, popped; an empty channel reads 0 with an UNDERFLOW fault. -/
def popChan (d : Dev) (x : Slot) (ch : Nat) : Dev × Nat :=
  match (d.xcell x).chans.get [] ch with
  | [] => (d.schedFault x.row.val x.col.val 2, 0)
  | v :: vs => (d.updX x (fun c => { c with chans := c.chans.set [] ch vs }), v)

/-- The 64-bit value that a selector names. -/
def source (d : Dev) (x : Slot) (t sel : Nat) : Dev × Nat :=
  let k := sel / 16
  let i := sel % 16
  if k = 0 then (d, 0)
  else if k = 1 then (d, (d.xcell x).regs.get 0 i)
  else if k = 2 then d.popChan x (i % 8)
  else if k = 3 then d.read64 x t
  else if k = 4 then (d, (d.xcell x).macRes)
  else if k = 5 then (d, (d.xcell x).sailRes)
  else if k = 6 then (d, (d.xcell x).aluRes)
  else (d, i)

/-- SA and SB: one channel named twice is popped once, and data SRAM named twice is read once (R118). -/
def sources (d : Dev) (x : Slot) (t : Nat) : Dev × Nat × Nat :=
  let a := d.source x t x.sa.toNat
  if x.sa = x.sb ∧ (x.sa.toNat / 16 = 2 ∨ x.sa.toNat / 16 = 3) then (a.1, a.2, a.2)
  else
    let b := a.1.source x t x.sb.toNat
    (b.1, a.2, b.2)

/-- A scalar result: S[RD] and the ALU result register (R122). Where mode 0b10 increments the same register in the same
cycle, the manual does not say which write is kept: it is a free function of the two values, so that results stay a function
of the image and its data (R156, log entry 2). -/
def scalarOut (d : Dev) (x : Slot) (t v : Nat) : Dev :=
  let clash := x.am = 2 ∧ x.rd.val = 8 + x.rb.val ∧ (x.sa.toNat / 16 = 3 ∨ x.sb.toNat / 16 = 3)
  let inc := (d.xcell x).regs.get 0 x.rd.val + 1
  let d := if clash ∧ Config.keepsIncrement (BitVec.ofNat 64 v) (BitVec.ofNat 64 inc) then d
    else d.result x t 1 (.reg x.rd.val) v
  d.result x t 1 .alu v

/-- FUNC as a number, and a field of it. -/
def func (x : Slot) : Nat := x.func.toNat
def funcFld (x : Slot) (hi lo : Nat) : Nat := bits x.func.toNat hi lo

end Dev

end Sys2Proof.Machine
end

