-- ==== Sys2Proof/Machine/Slots.lean ====
section
/-! DEFINITION. The schedule slots: what each operation does in its cycle, the command that a schedule word stands for, and the
array's run from cycle to cycle, in which every cell issues the words of its schedule memory (R93-R103, R108, R116-R130). -/

namespace Sys2Proof.Machine

namespace Dev

/-- A scalar operation of two sources (R122). -/
def scalar2 (x : Slot) (f : Nat → Nat → Nat) : Dev → Dev :=
  runSlot x uAlu fun t d => let r := d.sources x t; r.1.scalarOut x t (f r.2.1 r.2.2)

/-- A lane operation of two sources into the ALU result register (R122). -/
def lane2 (x : Slot) (lat : Nat) (f : Nat → Nat → Nat) : Dev → Dev :=
  runSlot x uAlu fun t d => let r := d.sources x t; r.1.result x t lat .alu (f r.2.1 r.2.2)

/-- The lane format of a slot, FUNC[19:16] (R123). -/
def laneFmt (x : Slot) : Nat := funcFld x 19 16

/-- MOVI's immediate: FUNC sign-extended to 64 bits. -/
def moviValue (x : Slot) : Nat := unsignedOf 64 (signedOf 20 (func x))

/-- SHIFT by XB[5:0] (R122). -/
def shiftLsl (a b : Nat) : Nat := a * 2 ^ (b % 64) % 2 ^ 64
def shiftLsr (a b : Nat) : Nat := a / 2 ^ (b % 64)
def shiftAsr (a b : Nat) : Nat := unsignedOf 64 (signedOf 64 a / 2 ^ (b % 64))
def shiftRor (a b : Nat) : Nat := (a / 2 ^ (b % 64) + a * 2 ^ (64 - b % 64)) % 2 ^ 64

/-- CVT: lanes converted, the group's tally updated in a main-stream slot's frame (R148-R152, R165, log entry 143). -/
def cvtResult (x : Slot) (a b : Nat) : Nat × Nat × Nat × Nat :=
  let src := funcFld x 19 16
  let dst := funcFld x 15 12
  let n := min (fmtLanes src) (fmtLanes dst)
  let qmax := if dst = 6 then 127 else if dst = 7 then 7 else if dst = 5 then 32767 else if dst = 0xA then 2147483647 else 1
  let ls := (List.range n).map (fun i => cvtLane (laneOf src a i) src dst (b % 65536))
  (packLanes (fmtWidth dst) (ls.map (·.1)), n, (ls.map (·.2.1)).foldl (· + ·) 0,
    (ls.map (fun l => match l.2.2 with | some q => peakOf q qmax | none => 0)).foldl max 0)

/-- Add lanes to the tally of a saturation group of the frame that a slot works on. -/
def tally (d : Dev) (x : Slot) (group lanes sat peak : Nat) : Dev :=
  if x.handler then d else
  let r := d.flume.recs.getD x.stage.val {}
  d.setRec x.stage.val { r with fr := { r.fr with
    tallies := r.fr.tallies.set {} group ((r.fr.tallies.get {} group).add lanes sat peak) } }

/-- An accumulator of a cell. -/
def acc (c : Cell) (q : Nat) : Acc := ⟨c.accG.get 0 (q % 32), c.accF.get 0 (q % 32)⟩

/-- Replace an accumulator. -/
def setAcc (c : Cell) (q : Nat) (a : Acc) : Cell := { c with accG := c.accG.set 0 (q % 32) a.g, accF := c.accF.set 0 (q % 32) a.f }

/-- The MAC operands: MA and MB, MB from the same row where SB names data SRAM (R124). -/
def macSources (d : Dev) (x : Slot) (t : Nat) : Dev × Nat × Nat :=
  let r := d.read256 x t
  if x.sb.toNat / 16 = 3 then (r.1, r.2, r.2 / 2 ^ (64 * funcFld x 4 3) % 2 ^ 64)
  else
    let b := r.1.source x t x.sb.toNat
    (b.1, r.2, b.2)

/-- The products of a MAC slot go into their accumulators, output by output (R124, R155). -/
def macAll (x : Slot) (ma mb : Nat) (c : Cell) : Cell :=
  match macFmt (funcFld x 19 16) with
  | none => c
  | some p => (List.range p.outs).foldl (fun c o =>
      let q := funcFld x 15 11 + o
      setAcc c q (macOut (funcFld x 19 16) p ma mb o (acc c q))) c

/-- ACCRD into the MAC result register (R125). -/
def accRead (x : Slot) (f : Cell → Nat → Nat) : Dev → Dev :=
  runSlot x uMac fun t d => d.result x t 4 .mac (f (d.xcell x) (funcFld x 15 11))

/-- Width of a point in an element format. -/
def sailWidth (fmt : Nat) : Nat := if fmt = 2 then 32 else 16

/-- A point's exact value with its sign from the diagonal. -/
def sailPoint (c : Cell) (v : Nat) (neg : Bool) : Flt :=
  let n := if c.sailFmt = 0 then decodeFp bf16 v else if c.sailFmt = 1 then Flt.ofInt (signedOf 16 v) else decodeFp fp32 v
  if neg then n.negate else n

/-- The signs that the LFSR gives to n points (R163). -/
def lfsrSigns : Nat → Nat → List Bool
  | 0, _ => []
  | n + 1, r => bit r 0 :: lfsrSigns n (lfsrNext r)

/-- The LFSR after n points. -/
def lfsrAfter : Nat → Nat → Nat
  | 0, r => r
  | n + 1, r => lfsrAfter n (lfsrNext r)

/-- A completed block becomes drainable; the block before it moves to the output buffer (R126, log entry 136). -/
def sailPromote (t : Nat) (c : Cell) : Cell :=
  if !c.sailNext.isEmpty && decide (c.sailAt ≤ t) then
    { c with sailOut := c.sailNext, sailNext := [], sailOutFmt := c.sailNextFmt } else c

/-- SAILIN: points are kept with their sign in bit 40; the push that completes N points transforms the block (R126). -/
def sailPush (t v : Nat) (c : Cell) : Cell :=
  let w := sailWidth c.sailFmt
  let k := 64 / w
  let signs := lfsrSigns k c.lfsr
  let pts := (List.range k).map (fun i => v / 2 ^ (i * w) % 2 ^ w + b2n (signs.getD i false) * 2 ^ 40)
  let c := { c with lfsr := lfsrAfter k c.lfsr, sailIn := c.sailIn ++ pts }
  if c.sailIn.length < 2 ^ c.sailLg then c else
  let blk := c.sailIn.take (2 ^ c.sailLg)
  let y := hadamard c.sailLg (blk.map (fun p => sailPoint c (p % 2 ^ 40) (bit p 40)))
  { sailPromote t c with
    sailIn := [], sailNext := y.map (sailOutPoint c.sailFmt c.sailLg), sailNextFmt := c.sailFmt, sailAt := t + c.sailLg + 1 }

/-- Launch a message with a 20-bit header (R93); V = 0 sends nothing. -/
def launch (d : Dev) (row col : Int) (hdr data : Nat) : Dev :=
  if !bit hdr 0 then d else
  let f : Flight := ⟨row, col, signedOf 8 (bits hdr 19 12), signedOf 8 (bits hdr 11 4), bits hdr 3 1, data, 4, d.flume.ecc⟩
  { d with flume := { d.flume with flights := d.flume.flights ++ [f] } }

/-! ## Effects (R122) -/

/-- NOP: nothing (R122). -/
def fxNop (x : Slot) : Dev → Dev :=
  runSlot x uNone fun _ d => d

/-- IDLE: nothing for FUNC + 1 cycles. -/
def fxIdle (x : Slot) : Dev → Dev :=
  runCtl x (func x + 1) fun _ d => d

/-- LOOP: the following FUNC[7:0] slots, FUNC[19:8] + 1 times (R121). -/
def fxLoop (x : Slot) : Dev → Dev :=
  runCtl x 1 fun _ d => if x.handler then d else
    d.updX x (fun c => { c with loops := ⟨c.slot + 1, funcFld x 7 0, funcFld x 19 8⟩ :: c.loops })

/-- HALT: the main stream and the handler lane stop for the rest of the job run (R101, R130). -/
def fxHalt (x : Slot) : Dev → Dev :=
  runCtl x 1 fun _ d => d.updX x (fun c => { c with halted := true, hand := false })

/-- END: ends a handler (R99). -/
def fxEndSlot (x : Slot) : Dev → Dev :=
  runCtl x 1 fun _ d => if x.handler then d.updX x (fun c => { c with hand := false }) else d

/-- MOV: S[RD] := XA. -/
def fxMov (x : Slot) : Dev → Dev :=
  runSlot x uAlu fun t d => let r := d.source x t x.sa.toNat; r.1.scalarOut x t r.2

/-- MOVI: S[RD] := FUNC sign-extended. -/
def fxMovi (x : Slot) : Dev → Dev :=
  runSlot x uAlu fun t d => d.scalarOut x t (moviValue x)

/-- ADD: XA + XB modulo 2^64. -/
def fxAdd (x : Slot) : Dev → Dev :=
  scalar2 x fun a b => (a + b) % 2 ^ 64

/-- SUB: XA − XB modulo 2^64. -/
def fxSub (x : Slot) : Dev → Dev :=
  scalar2 x fun a b => (a + 2 ^ 64 - b % 2 ^ 64) % 2 ^ 64

/-- LOGIC, FUNC[1:0] = 0: AND. -/
def fxLogicAnd (x : Slot) : Dev → Dev :=
  scalar2 x fun a b => a &&& b

/-- LOGIC, FUNC[1:0] = 1: OR. -/
def fxLogicOr (x : Slot) : Dev → Dev :=
  scalar2 x fun a b => a ||| b

/-- LOGIC, FUNC[1:0] = 2: XOR. -/
def fxLogicXor (x : Slot) : Dev → Dev :=
  scalar2 x fun a b => a ^^^ b

/-- LOGIC, FUNC[1:0] = 3: XA AND NOT XB. -/
def fxLogicAndnot (x : Slot) : Dev → Dev :=
  scalar2 x fun a b => a &&& (2 ^ 64 - 1 - b % 2 ^ 64)

/-- SHIFT, FUNC[1:0] = 0: LSL by XB[5:0]. -/
def fxShiftLsl (x : Slot) : Dev → Dev :=
  scalar2 x shiftLsl

/-- SHIFT, FUNC[1:0] = 1: LSR by XB[5:0]. -/
def fxShiftLsr (x : Slot) : Dev → Dev :=
  scalar2 x shiftLsr

/-- SHIFT, FUNC[1:0] = 2: ASR by XB[5:0]. -/
def fxShiftAsr (x : Slot) : Dev → Dev :=
  scalar2 x shiftAsr

/-- SHIFT, FUNC[1:0] = 3: ROR by XB[5:0]. -/
def fxShiftRor (x : Slot) : Dev → Dev :=
  scalar2 x shiftRor

/-- VADD: lane-wise sum (R123, R154). -/
def fxVadd (x : Slot) : Dev → Dev :=
  lane2 x 2 (laneWise (laneFmt x) Flt.add)

/-- VMUL: lane-wise product. -/
def fxVmul (x : Slot) : Dev → Dev :=
  lane2 x 2 (laneWise (laneFmt x) Flt.mul)

/-- VMAX: lane-wise maximum. -/
def fxVmax (x : Slot) : Dev → Dev :=
  lane2 x 2 (laneWise (laneFmt x) numMax)

/-- VMIN: lane-wise minimum. -/
def fxVmin (x : Slot) : Dev → Dev :=
  lane2 x 2 (laneWise (laneFmt x) numMin)

/-- ACT, FUNC[15:14] = 0: ReLU. -/
def fxActRelu (x : Slot) : Dev → Dev :=
  lane2 x 2 (laneWise (laneFmt x) (actOp 0))

/-- ACT, FUNC[15:14] = 1: clamp to ±XB lane. -/
def fxActClamp (x : Slot) : Dev → Dev :=
  lane2 x 2 (laneWise (laneFmt x) (actOp 1))

/-- ACT, FUNC[15:14] = 2: clamp to [0, XB lane]. -/
def fxActClampPos (x : Slot) : Dev → Dev :=
  lane2 x 2 (laneWise (laneFmt x) (actOp 2))

/-- PWL, FUNC[15] = 1: load segment FUNC[13:10] from XA; no result (R127). -/
def fxPwlLoad (x : Slot) : Dev → Dev :=
  runSlot x uAlu fun t d =>
    let r := d.source x t x.sa.toNat
    r.1.updX x (fun c => { c with pwl := c.pwl.set 0 (funcFld x 13 10) (r.2 % 2 ^ 32) })

/-- PWL, FUNC[15] = 0: evaluate four BF16 lanes (R127). -/
def fxPwlEval (x : Slot) : Dev → Dev :=
  runSlot x uAlu fun t d =>
    let r := d.sources x t
    let table := (List.range 16).map (fun i => (r.1.xcell x).pwl.get 0 i)
    r.1.result x t 3 .alu (pwlLanes table r.2.1 r.2.2)

/-- MAG: |z|² of two complex pairs of INT16 or BF16 (R127). -/
def fxMag (x : Slot) : Dev → Dev :=
  runSlot x uAlu fun t d =>
    let r := d.source x t x.sa.toNat
    r.1.result x t 2 .alu (magLanes (laneFmt x) r.2)

/-- LOG2 of two FP32 lanes (R127). -/
def fxLog2 (x : Slot) : Dev → Dev :=
  runSlot x uAlu fun t d =>
    let r := d.source x t x.sa.toNat
    r.1.result x t 3 .alu (log2Lane (r.2 % 2 ^ 32) + log2Lane (r.2 / 2 ^ 32 % 2 ^ 32) * 2 ^ 32)

/-- SCALE: lane × XB[31:16] + XB[15:0]. -/
def fxScale (x : Slot) : Dev → Dev :=
  lane2 x 2 (scaleLanes (laneFmt x))

/-- CVT: format conversion with its saturation counts (R148-R152). -/
def fxCvt (x : Slot) : Dev → Dev :=
  runSlot x uAlu fun t d =>
    let r := d.sources x t
    let v := cvtResult x r.2.1 r.2.2
    (r.1.result x t 2 .alu v.1).tally x (funcFld x 11 0) v.2.1 v.2.2.1 v.2.2.2

/-- LD: S[RD] := data SRAM word. -/
def fxLd (x : Slot) : Dev → Dev :=
  runSlot x uLsu fun t d => let r := d.read64 x t; r.1.result x t 2 (.reg x.rd.val) r.2

/-- ST: data SRAM word := LS, in the issue cycle. -/
def fxSt (x : Slot) : Dev → Dev :=
  runSlot x uLsu fun t d => let r := d.source x t x.sa.toNat; r.1.write64 x t r.2

/-- MAC (R124). -/
def fxMac (x : Slot) : Dev → Dev :=
  runSlot x uMac fun t d => let r := d.macSources x t; r.1.updX x (macAll x r.2.1 r.2.2)

/-- MACQ: MAC, then close accumulator FUNC[9:5] with MS from SA (R124, R125). -/
def fxMacq (x : Slot) : Dev → Dev :=
  runSlot x uMac fun t d =>
    let r := d.macSources x t
    let m := if x.sa = x.sb ∧ x.sa.toNat / 16 = 2 then (r.1, r.2.2) else r.1.source x t x.sa.toNat
    m.1.updX x (fun c =>
      let c := macAll x r.2.1 r.2.2 c
      let q := funcFld x 9 5
      setAcc c q (accClose (m.2 % 2 ^ 32) (acc c q)))

/-- GQ: close accumulator FUNC[15:11] with MS from SA. -/
def fxGq (x : Slot) : Dev → Dev :=
  runSlot x uMac fun t d =>
    let m := d.source x t x.sa.toNat
    m.1.updX x (fun c => setAcc c (funcFld x 15 11) (accClose (m.2 % 2 ^ 32) (acc c (funcFld x 15 11))))

/-- ACCRD mode 0: F of i and i + 1 as two FP32 (R125). -/
def fxAccrdFp32 (x : Slot) : Dev → Dev :=
  accRead x fun c i => (acc c i).f + (acc c (i + 1)).f * 2 ^ 32

/-- ACCRD mode 1: F of i to i + 3 rounded to BF16 (R125, R150). -/
def fxAccrdBf16 (x : Slot) : Dev → Dev :=
  accRead x fun c i => packLanes 16 ((List.range 4).map fun k => (encodeSat bf16 (decodeFp fp32 (acc c (i + k)).f)).1)

/-- ACCRD mode 2: G of i and i + 1 as two INT32 (R125). -/
def fxAccrdInt32 (x : Slot) : Dev → Dev :=
  accRead x fun c i => unsignedOf 32 (acc c i).g + unsignedOf 32 (acc c (i + 1)).g * 2 ^ 32

/-- ACCCLR: clear FUNC[10:6] + 1 accumulators from FUNC[15:11]. -/
def fxAccclr (x : Slot) : Dev → Dev :=
  runSlot x uMac fun _ d => d.updX x (fun c =>
    (List.range (funcFld x 10 6 + 1)).foldl (fun c k => setAcc c (funcFld x 15 11 + k) {}) c)

/-- SAILCFG: size, element format and seed; a partial block is discarded, the output buffer kept (R126). -/
def fxSailcfg (x : Slot) : Dev → Dev :=
  runSlot x uSail fun _ d => d.updX x (fun c =>
    { c with sailLg := 5 + funcFld x 19 18, sailFmt := funcFld x 17 16, lfsr := funcFld x 15 0, sailIn := [] })

/-- SAILIN: push 64 bits of points (R126). -/
def fxSailin (x : Slot) : Dev → Dev :=
  runSlot x uSail fun t d => let r := d.source x t x.sa.toNat; r.1.updX x (sailPush t r.2)

/-- SAILOUT: the next 64 bits of output, in the format in which they were computed, or 0 where none is ready (R126). -/
def fxSailout (x : Slot) : Dev → Dev :=
  runSlot x uSail fun t d =>
    let c := sailPromote t (d.xcell x)
    let w := sailWidth c.sailOutFmt
    let k := 64 / w
    let v := packLanes w (c.sailOut.take k)
    (d.setCell x.row.val x.col.val { c with sailOut := c.sailOut.drop k }).result x t 1 .sail v

/-- SEND: TX with route header FUNC[19:0] (R93, R94). -/
def fxSend (x : Slot) : Dev → Dev :=
  runSlot x uSend fun t d =>
    let r := d.source x t x.sa.toNat
    r.1.launch x.row.val x.col.val (func x) r.2

/-- What a slot does in the present cycle. -/
def perform : Instr → Dev → Dev
  | .nop x => fxNop x
  | .idle x => fxIdle x
  | .loop x => fxLoop x
  | .halt x => fxHalt x
  | .endSlot x => fxEndSlot x
  | .mov x => fxMov x
  | .movi x => fxMovi x
  | .add x => fxAdd x
  | .sub x => fxSub x
  | .logicAnd x => fxLogicAnd x
  | .logicOr x => fxLogicOr x
  | .logicXor x => fxLogicXor x
  | .logicAndnot x => fxLogicAndnot x
  | .shiftLsl x => fxShiftLsl x
  | .shiftLsr x => fxShiftLsr x
  | .shiftAsr x => fxShiftAsr x
  | .shiftRor x => fxShiftRor x
  | .vadd x => fxVadd x
  | .vmul x => fxVmul x
  | .vmax x => fxVmax x
  | .vmin x => fxVmin x
  | .actRelu x => fxActRelu x
  | .actClamp x => fxActClamp x
  | .actClampPos x => fxActClampPos x
  | .pwlLoad x => fxPwlLoad x
  | .pwlEval x => fxPwlEval x
  | .mag x => fxMag x
  | .log2 x => fxLog2 x
  | .scale x => fxScale x
  | .cvt x => fxCvt x
  | .ld x => fxLd x
  | .st x => fxSt x
  | .mac x => fxMac x
  | .macq x => fxMacq x
  | .gq x => fxGq x
  | .accrdFp32 x => fxAccrdFp32 x
  | .accrdBf16 x => fxAccrdBf16 x
  | .accrdInt32 x => fxAccrdInt32 x
  | .accclr x => fxAccclr x
  | .sailcfg x => fxSailcfg x
  | .sailin x => fxSailin x
  | .sailout x => fxSailout x
  | .send x => fxSend x
  | _ => id

/-! ## Schedule words (R116, R122) -/

/-- The fields of a schedule word in a lane of a cell (R116). -/
def wordSlot (row col : Fin 96) (handler : Bool) (w : Nat) : Slot :=
  { row := row, col := col, handler := handler, stage := Fin.ofNat 16 (bits w 58 55), sa := BitVec.ofNat 7 (bits w 54 48)
    sb := BitVec.ofNat 7 (bits w 47 41), rd := Fin.ofNat 16 (bits w 40 37), am := BitVec.ofNat 2 (bits w 36 35)
    rb := Fin.ofNat 8 (bits w 34 32), addr := BitVec.ofNat 12 (bits w 31 20), func := BitVec.ofNat 20 (bits w 19 0) }

/-- One of several operations by a mode field; none for a reserved code. -/
def modeOf (l : List (Slot → Instr)) (m : Nat) (x : Slot) : Option Instr := (l[m]?).map (fun f => f x)

/-- The command that a schedule word stands for: OP, and the mode bits of FUNC where the operation has them (R122). -/
def slotInstr (row col : Fin 96) (handler : Bool) (w : Nat) : Option Instr :=
  let x := wordSlot row col handler w
  match bits w 63 59 with
  | 0x00 => some (.nop x)
  | 0x01 => some (.idle x)
  | 0x02 => some (.loop x)
  | 0x03 => some (.halt x)
  | 0x04 => some (.endSlot x)
  | 0x05 => some (.mov x)
  | 0x06 => some (.movi x)
  | 0x07 => some (.add x)
  | 0x08 => some (.sub x)
  | 0x09 => modeOf [.logicAnd, .logicOr, .logicXor, .logicAndnot] (bits w 1 0) x
  | 0x0A => modeOf [.shiftLsl, .shiftLsr, .shiftAsr, .shiftRor] (bits w 1 0) x
  | 0x0B => some (.vadd x)
  | 0x0C => some (.vmul x)
  | 0x0D => some (.vmax x)
  | 0x0E => some (.vmin x)
  | 0x0F => modeOf [.actRelu, .actClamp, .actClampPos] (bits w 15 14) x
  | 0x10 => some (if bit w 15 then .pwlLoad x else .pwlEval x)
  | 0x11 => some (.mag x)
  | 0x12 => some (.log2 x)
  | 0x13 => some (.scale x)
  | 0x14 => some (.cvt x)
  | 0x15 => some (.ld x)
  | 0x16 => some (.st x)
  | 0x17 => some (.mac x)
  | 0x18 => some (.macq x)
  | 0x19 => some (.gq x)
  | 0x1A => modeOf [.accrdFp32, .accrdBf16, .accrdInt32] (bits w 19 18) x
  | 0x1B => some (.accclr x)
  | 0x1C => some (.sailcfg x)
  | 0x1D => some (.sailin x)
  | 0x1E => some (.sailout x)
  | 0x1F => some (.send x)
  | _ => none

/-- The schedule word at which a lane of a cell stands. -/
def laneWord (c : Cell) (handler : Bool) : Nat := c.sched.get 0 (if handler then c.handSlot else c.slot)

/-- A lane of a cell issues a slot in executed cycle t: the main stream unless the cell has halted, the handler lane while a
handler runs (R99, R101). -/
def laneDue (c : Cell) (handler : Bool) (t : Nat) : Bool :=
  !c.halted && (if handler then c.hand && decide (c.handAt ≤ t) else decide (c.mainAt ≤ t))

/-- A lane of a cell issues the word at which it stands, where it is due in the present cycle. A word that R137 refuses to
load stands for no command, and its cycle passes. -/
def laneIssue (row col : Fin 96) (handler : Bool) (d : Dev) : Dev :=
  let t := d.flume.ecc
  let c := d.cell row col
  if !laneDue c handler t || !d.powered row.val col.val then d else
  let w := laneWord c handler
  let d := d.updCell row col (cellStart t)
  match slotInstr row col handler w with
  | some i => perform i d
  | none => d.laneNext (wordSlot row col handler w) t 1

/-! ## Dispatches and headgates (R99, R108) -/

/-- The dispatch that starts next: the earliest arrival, then the lowest channel (R99). -/
def nextDispatch (q : List (Nat × Nat)) : Option (Nat × Nat) :=
  q.foldl (fun (b : Option (Nat × Nat)) e => match b with
    | none => some e
    | some f => if e.1 < f.1 ∨ (e.1 = f.1 ∧ e.2 < f.2) then some e else b) none

/-- The executed cycle in which a dispatch starts: the first in which the lane is free and the message readable (R99). -/
def dispatchAt (c : Cell) (e : Nat × Nat) : Nat := max c.handAt (e.1 + 1)

/-- A queued dispatch starts its handler in the present cycle, where it is due (R99). -/
def startHandler (r c : Nat) (d : Dev) : Dev :=
  let x := d.cell r c
  match nextDispatch x.queue with
  | some e =>
    if !x.halted && !x.hand && decide (dispatchAt x e ≤ d.flume.ecc) then
      d.updCell r c (fun x =>
        { x with hand := true, handAt := d.flume.ecc, handSlot := x.binds.get 0 e.2 % 512, queue := x.queue.erase e })
    else d
  | none => d

/-- The next headgate word of a column: executed cycle, record and entry; the newest record first (R108, log entry 136). -/
def nextHead (d : Dev) (c : Nat) : Option (Nat × AdmitRec × HeadEntry) :=
  let from_ := max d.flume.ecc (d.flume.headDone.get 0 c)
  let all := (d.flume.recs.filter (fun r => r.kind == .frame)).flatMap (fun r =>
    (d.flume.head.filter (fun e => e.col == c && decide (from_ ≤ r.e0 + e.k))).map (fun e => (r.e0 + e.k, r, e)))
  all.foldl (fun (b : Option (Nat × AdmitRec × HeadEntry)) e => match b with
    | none => some e
    | some f => if e.1 < f.1 then some e else b) none

/-- A headgate sends a word into the north inbound link of cell (0, c) in executed cycle t (R108). -/
def sendHead (c t : Nat) (r : AdmitRec) (e : HeadEntry) (d : Dev) : Dev :=
  let d := d.launch (-1) c e.hdr ((r.fr.words.get [] c).getD e.word 0)
  { d with flume := { d.flume with headDone := d.flume.headDone.set 0 c (t + 1) } }

/-- A headgate sends its word of the present cycle, where it has one. -/
def headIssue (d : Dev) (c : Nat) : Dev :=
  match d.nextHead c with
  | some (t, r, e) => if t = d.flume.ecc then d.sendHead c t r e else d
  | none => d

/-! ## The array's run (R102, R113) -/

/-- Logical cells by key. -/
def cellKeys (d : Dev) : List (Fin 96 × Fin 96) :=
  d.flume.cells.cells.map (fun c => (Fin.ofNat 96 (c.1 / 96), Fin.ofNat 96 c.1))

/-- The slots and headgate words of the present cycle that have not issued: the main streams take units and channel heads
before the handlers (R100, R129). -/
def cycleSlots (d : Dev) : Dev :=
  let ks := d.cellKeys
  let d := ks.foldl (fun d k => laneIssue k.1 k.2 false d) d
  let d := ks.foldl (fun d k => laneIssue k.1 k.2 true (startHandler k.1 k.2 d)) d
  (List.range 96).foldl headIssue d

/-- The first executed cycle from the present one on in which something happens, or t where none comes before it. -/
def nextEvent (d : Dev) (t : Nat) : Nat :=
  let lastHead := d.flume.head.foldl (fun m e => max m e.k) 0
  let base := d.flume.lastAdmit.getD 0
  let see (m x : Nat) : Nat := if d.flume.ecc ≤ x then min m x else m
  let m := d.flume.tail.foldl (fun m e => see m (base + e.p)) (if d.flume.flights.isEmpty then t else d.flume.ecc)
  let m := d.flume.recs.foldl (fun m r => if r.kind == .empty then m else see (see m (r.e0 + d.flmL - 1)) (r.e0 + lastHead)) m
  let m := (List.range 96).foldl (fun m c => match d.nextHead c with
    | some h => min m h.1
    | none => m) m
  let now := d.flume.ecc
  d.flume.cells.cells.foldl (fun m k =>
    let c := k.2
    if c.halted then m else
    let m := min m (max now c.mainAt)
    if c.hand then min m (max now c.handAt) else
    match nextDispatch c.queue with
    | some e => min m (max now (dispatchAt c e))
    | none => m) m

/-- The array runs on to executed cycle t, or to the cycle at which a schedule fault stops it; fuel bounds the cycles. -/
def runTo (t : Nat) : Nat → Dev → Dev
  | 0, d => d
  | n + 1, d =>
    if t ≤ d.flume.ecc || d.stopDue d.flume.ecc then d
    else
      let q := d.nextEvent (match d.flume.stopAt with
        | some u => min t u
        | none => t)
      if d.flume.ecc < q then runTo t n { d with flume := { d.flume with ecc := q } }
      else runTo t n d.cycleSlots.cycleEnd

/-- The array runs on to executed cycle t: every slot, dispatch and headgate word of an earlier cycle has its effect. -/
def arrayTo (d : Dev) (t : Nat) : Dev := runTo t (2 * (t - d.flume.ecc)) d

/-! ## Slot commands (R119) -/

/-- The array executes, and reaches no boundary before executed cycle t. -/
def executing (d : Dev) (t : Nat) : Bool :=
  d.flmRun && d.flume.waitFrom.isNone && !d.flume.clkBusy && decide (d.flume.ecc ≤ t) &&
    (match d.flume.lastAdmit with
     | none => false
     | some b => decide (t < b + d.flmII))

/-- The array stands in executed cycle t, which it executes. -/
def standsAt (d : Dev) (t : Nat) : Bool := d.flume.ecc == t && !d.stopDue t

/-- The array at a slot's cycle: for a handler's slot the cell's main stream has issued its own (R100, R129). -/
def slotTo (d : Dev) (x : Slot) : Dev :=
  let d := d.arrayTo (d.issueAt x)
  if x.handler then laneIssue x.row x.col false d else d

/-- The array at a slot's cycle, with the cell at the start of its slot. -/
def slotBegin (d : Dev) (x : Slot) : Dev := (d.slotTo x).updX x (cellStart (d.issueAt x))

/-- A slot command is the slot that its lane issues next, and the array reaches its cycle: the lane's schedule word stands for
this very command (R116, R119, R122). -/
def canIssue (d : Dev) (i : Instr) (x : Slot) : Bool :=
  let t := d.issueAt x
  let e := d.slotTo x
  d.executing t && e.standsAt t && e.powered x.row.val x.col.val && laneDue (e.xcell x) x.handler t && e.issueAt x == t &&
    slotInstr x.row x.col x.handler (laneWord (e.xcell x) x.handler) == some i

/-- A slot command: the array runs to its cycle and the slot has its effect there. One that is not its lane's next slot leaves
the state as it is (log entry 7). -/
def slotCmd (i : Instr) (x : Slot) (f : Dev → Dev) (d : Dev) : Dev := if d.canIssue i x then f (d.slotBegin x) else d

end Dev

end Sys2Proof.Machine
end

