-- ==== Sys2Proof/Machine/Ladder.lean ====
section
/-! DEFINITION. The ladder controller: tallies, verdicts, re-runs, gauges, drift, epochs and shadow writes (R158-R181). -/

namespace Sys2Proof.Machine

namespace Dev

/-- A layer group's top rung and its limit (R159, R166, R185). -/
def lgTop (d : Dev) (g : Nat) : Nat := d.fld (Reg.lgCfg g) 9 8
def lgLimitOf (d : Dev) (g : Nat) : Nat :=
  let l := d.flume.lgLimit.get 0 g
  if l = 0 then d.fld Reg.flmLadderCtl 15 0 else l

/-- A saturation group's entry: its layer group, and whether it is TESTED (R182). -/
def sgGroup (d : Dev) (k : Nat) : Nat := d.flume.satGroups.get 0 k % 16
def sgTested (d : Dev) (k : Nat) : Bool := bit (d.flume.satGroups.get 0 k) 4

/-- A frame's rung of a layer group. -/
def rungOf (fr : Frame) (g : Nat) : Nat := bits fr.rungs (2 * g + 1) (2 * g)

/-! ## Gauges (R173, R174) -/

/-- EMA + (p − EMA) × 2^−a in FP32, each operation rounded to nearest (R173). -/
def emaStep (ema p a : Nat) : Nat :=
  let e := decodeFp fp32 ema
  let t := decodeFp fp32 (encodeIeee fp32 false ((decodeFp bf16 p).sub e))
  let u := decodeFp fp32 (encodeIeee fp32 false (t.mul (.fin false 1 (-(a : Int)))))
  encodeIeee fp32 false (e.add u)

/-- clamp(⌊log2 p⌋ + 12, 0, 15); a p of 0 falls in bin 0 (R173). -/
def gaugeBin (p : Nat) : Nat :=
  match decodeFp bf16 p with
  | .fin _ m e => if m = 0 then 0 else (clampI 0 15 ((Nat.log2 m : Int) + e + 12)).toNat
  | _ => 15

/-- HIGH, LOW and DRIFT of a gauge follow from its EMA and bounds (R174); a gauge that no verdict has updated since reset has
no EMA, and shows none of them, as its reset value says (R185, log entry 115, log entry 143). -/
def gaugeHigh (d : Dev) (n : Nat) : Bool :=
  d.flume.emaEver.get false n && (decodeFp bf16 (d.fld (Reg.gaugeBounds n) 31 16)).lt (decodeFp fp32 (d.rn (Reg.gaugeEma n)))
def gaugeLow (d : Dev) (n : Nat) : Bool :=
  d.flume.emaEver.get false n && (decodeFp fp32 (d.rn (Reg.gaugeEma n))).lt (decodeFp bf16 (d.fld (Reg.gaugeBounds n) 15 0))
def gaugeDrift (d : Dev) (n : Nat) : Bool := d.gaugeHigh n || d.gaugeLow n

/-- One gauge at a first-pass verdict (R173). -/
def gaugeUpdate (fr : Frame) (d : Dev) (n : Nat) : Dev :=
  let cfg := d.rn (Reg.gaugeCfg n)
  let k := bits cfg 11 0
  let t := fr.tallies.get {} k
  let g := d.sgGroup k
  if !bit cfg 31 || t.lanes == 0 || rungOf fr g != d.lgBase g then d else
  let p := t.peak
  let ema := if d.flume.emaSet.get false n then emaStep (d.rn (Reg.gaugeEma n)) p (bits cfg 19 16)
    else encodeIeee fp32 false (decodeFp bf16 p)
  let b := n * 16 + gaugeBin p
  let d := { d with flume := { d.flume with
    emaSet := d.flume.emaSet.set false n true
    emaEver := d.flume.emaEver.set false n true
    hist := d.flume.hist.set 0 b ((d.flume.hist.get 0 b + 1) % 2 ^ 32) } }
  ((d.setReg (Reg.gaugeEma n) ema).setReg (Reg.gaugeLast n) p).bump (Reg.gaugeFrames n)

/-! ## The verdict (R166-R170) -/

/-- A layer group misfits by a tested saturation group (R166). -/
def misfitSat (d : Dev) (fr : Frame) (g : Nat) : Bool :=
  fr.tallies.cells.any (fun c => d.sgTested c.1 && d.sgGroup c.1 == g && c.2.lanes != 0 &&
    decide (c.2.lanes * d.lgLimitOf g < c.2.sat * 65536))

/-- A layer group misfits by drift (R174). -/
def misfitDrift (d : Dev) (fr : Frame) (g : Nat) : Bool :=
  d.flag Reg.flmLadderCtl 16 && rungOf fr g == d.lgBase g &&
    (List.range 64).any (fun n => d.flag (Reg.gaugeCfg n) 31 && d.sgGroup (d.fld (Reg.gaugeCfg n) 11 0) == g && d.gaugeDrift n)

/-- A mask of groups from a list. -/
def maskOf (l : List Nat) : Nat := l.foldl (fun m g => m + 2 ^ g) 0

/-- Frames staged again after a RERUN verdict (R170). -/
def rerunQueue (d : Dev) : List Staged := d.flume.staged.filter (fun s => s.fr.passes != 0)

/-- Frames that became eligible in the same cycle stand in ascending stream number (R279, log entry 116). -/
def enqueue : List JFrame → JFrame → List JFrame
  | [], f => [f]
  | g :: gs, f => if g.since = f.since ∧ f.fr.stream < g.fr.stream then f :: g :: gs else g :: enqueue gs f

/-- A frame's result is final: ledger, slot and junction (R78, R180, R279). -/
def frameFinal (d : Dev) (fr : Frame) (uncal : List Nat) : Dev :=
  let fr := { fr with uncal := maskOf uncal, flmErr := d.flumeErrs != fr.flmErrs }
  let d := if uncal.isEmpty then d else d.bump Reg.flmUncals
  let d := uncal.foldl (fun d g => d.bump (Reg.lgUncals g)) d
  let lgs := maskOf ((List.range 16).filter d.lgDeclared)
  let d := d.ledgerPut fr.stream fr.frame (fun e => { e with stages := putBits (putBits e.stages 17 2 (lgs ||| bits e.stages 17 2)) stFlume stFlume 1 })
  let d := d.freeSlot fr.stream fr.slot
  { d with jn := { d.jn with eligible := enqueue d.jn.eligible { fr := fr, since := d.tb.tbc } } }

/-- The verdict on a frame whose tallies have come (R167-R170, R181). -/
def verdict (fr : Frame) (d : Dev) : Dev :=
  let d := if fr.passes = 1 then (List.range 64).foldl (gaugeUpdate fr) d else d
  let decl := (List.range 16).filter d.lgDeclared
  let drift := decl.filter (d.misfitDrift fr)
  let mis := decl.filter (fun g => d.misfitSat fr g || d.misfitDrift fr g)
  let d := if mis.isEmpty then d else d.bump Reg.flmMisfits
  let d := mis.foldl (fun d g => d.bump (Reg.lgMisfits g)) d
  let d := drift.foldl (fun d g => d.bump (Reg.lgDrifts g)) d
  let climb := mis.filter (fun g => decide (rungOf fr g < d.lgTop g))
  let stopped := d.flmFaulted || d.flume.failing || d.flag Reg.flmStat 3
  let want := !climb.isEmpty && decide (fr.passes < 3) && !stopped
  let room := decide (d.rerunQueue.length < 16)
  if want && room then
    let rungs := climb.foldl (fun r g => putBits r (2 * g + 1) (2 * g) (rungOf fr g + 1)) fr.rungs
    let d := d.releaseOut
    d.setStaged (d.flume.staged ++ [{ fr := { fr with rungs := rungs, out := ⟨[]⟩ }, mode := .waitCopy }])
  else
    let d := if want then d.bump Reg.flmRerunFull else d
    d.frameFinal fr mis

/-- The oldest frame whose tallies have come takes its verdict (R167). -/
def takeVerdict (d : Dev) : Dev :=
  match d.flume.passed.find? (·.2) with
  | none => d
  | some p => verdict p.1 { d with flume := { d.flume with passed := d.flume.passed.erase p } }

/-- The tallies of the oldest ended pass reach the ladder controller (R165). A pass that ends at the next executed cycle
is run to its end first. -/
def tallyDone (d : Dev) : Dev :=
  let ends := (d.flume.recs.filter (fun r => r.kind == .frame && !r.ovr && !r.fr.doomed)).map (fun r => r.e0 + d.flmL)
  let t := ends.foldl min (ends.getD 0 0)
  let d := if d.flume.passed.all (·.2) && !ends.isEmpty && d.flmRun && d.flume.waitFrom.isNone && decide (t ≤ d.boundaryAt)
    then d.arrayTo t else d
  match d.flume.passed.findIdx? (fun p => !p.2) with
  | none => d
  | some i => { d with flume := { d.flume with passed := d.flume.passed.modify i (fun p => (p.1, true)) } }

/-! ## Epochs and shadow writes (R176-R179) -/

/-- Frames that hold an epoch: in flight, awaiting a verdict, queued for a re-run. -/
def epochFrames (d : Dev) : List Frame :=
  (d.inFlight.filter (fun r => r.kind == .frame)).map (·.fr) ++ d.flume.passed.map (·.1) ++ d.rerunQueue.map (·.fr)

/-- FLM_EPOCH_STAT.SHADOW_BUSY (R178). -/
def shadowBusy (d : Dev) : Bool :=
  d.epochFrames.any (fun f => f.epoch % 2 == (d.fld Reg.flmEpoch 7 0 + 1) % 2)

/-- Age of an epoch against EPOCH, modulo 256. -/
def epochAge (d : Dev) (e : Nat) : Nat := (d.fld Reg.flmEpoch 7 0 + 256 - e % 256) % 256

/-- FLM_EPOCH.OLDEST (R185). -/
def oldestEpoch (d : Dev) : Nat :=
  d.epochFrames.foldl (fun o f => if d.epochAge o < d.epochAge f.epoch then f.epoch else o) (d.fld Reg.flmEpoch 7 0)

/-- A swap request: pending, or ignored while another is. Requested in the cycle of a boundary it waits for the following one,
and a boundary lasts as long as the array waits at it (R103, R177, R179). -/
def requestSwap (d : Dev) : Dev :=
  if d.flume.swapPend then d.bump Reg.flmSwapsIgnored
  else
    let due := d.flmRun && (d.flume.waitFrom.isSome || d.flume.ecc == d.boundaryAt)
    { d with flume := { d.flume with swapPend := true, swapFrom := d.flume.ecc + b2n due } }

/-- A shadow write reaches its page of the cell's data SRAM (R176, R178). -/
def doShadow (d : Dev) (w : ShadowWrite) : Dev :=
  let page := (d.fld Reg.flmEpoch 7 0 + 1) % 2
  d.updCell w.row w.col (fun c =>
    { c with sram := c.sram.setMany 0 ((if page = 0 then c.page0 else c.page1) + w.word) w.words })

/-- The first held shadow write is made once no frame uses the shadow page (R178). -/
def releaseShadow (d : Dev) : Dev :=
  match d.flume.shadow with
  | [] => d
  | w :: ws =>
    if d.shadowBusy then d else
    let d := d.doShadow w
    { d with flume := { d.flume with shadow := ws } }

end Dev

open Dev

/-- PASS_TALLY (R165). -/
def execPassTally (s : State) : Host.Outcome State Fault Refusal := onDev tallyDone s

/-- VERDICT (R167). -/
def execVerdict (s : State) : Host.Outcome State Fault Refusal := onDev takeVerdict s

/-- EPOCH_SWAP_WRITE: a write of 1 to FLM_EPOCH_CTL.SWAP (R177). -/
def execEpochSwapWrite (s : State) : Host.Outcome State Fault Refusal := onReg Reg.flmEpochCtl requestSwap s

end Sys2Proof.Machine
end

