-- ==== Sys2Proof/Machine/Intake.lean ====
section
/-! DEFINITION. The sample intake: lanes, links, stamps, NCO, decimation chain, framer (R63-R85, R502). -/

namespace Sys2Proof.Machine

namespace Dev

/-- A link's state. -/
def link (d : Dev) (n : Nat) : Link := d.links.get {} n

/-- Replace a link's state. -/
def setLink (d : Dev) (n : Nat) (l : Link) : Dev := { d with links := d.links.set {} n l }

/-- The link that a lane names, while the lane is in use (R85). -/
def laneLink (d : Dev) (m : Nat) : Option Nat :=
  if d.flag (Reg.intkLaneCfg m) 7 && decide (d.fld (Reg.intkLaneCfg m) 6 4 < 6) then some (d.fld (Reg.intkLaneCfg m) 6 4) else none

/-- The lanes of a link. -/
def lanesOf (d : Dev) (n : Nat) : List Nat := (List.range 24).filter (fun m => d.laneLink m == some n)

/-- A lane holds both locks. -/
def laneUp (d : Dev) (m : Nat) : Bool := d.fld (Reg.intkLaneStat m) 1 0 == 3

/-- Link status bits (R85). -/
def linkUp (d : Dev) (n : Nat) : Bool := d.flag (Reg.intkLinkStat n) 1
def linkEn (d : Dev) (n : Nat) : Bool := d.flag (Reg.intkLinkCtl n) 0

/-- A stream is open. -/
def strOpen (d : Dev) (n : Nat) : Bool := d.flag (Reg.intkStrStat n) 0

/-- Streams sourced from a link. A gather stream has no link: its frames come from a decoder. -/
def streamsOf (d : Dev) (n : Nat) : List Nat :=
  (List.range 64).filter (fun k => d.fld (Reg.intkStrSrc k) 18 16 == n && !(d.strm k).gather)

/-- Copies of lane and link state in the summary registers (R85). -/
def showLanes (d : Dev) : Dev :=
  d.setReg Reg.intkLanesUp ((List.range 24).foldl (fun v m => v + b2n (d.laneUp m) * 2 ^ m) 0)
def showUp (d : Dev) (n : Nat) (up : Bool) : Dev :=
  (d.setFlag (Reg.intkLinkStat n) 1 up).setFlag Reg.intkLinksUp n up

/-- Every lane holds both locks: the link waits for its SYSREF pulse (R66). -/
def checkLocks (d : Dev) (n : Nat) : Dev :=
  let ls := d.lanesOf n
  let ready := d.linkEn n && !d.flag (Reg.intkLinkStat n) 3 && !ls.isEmpty && ls.all d.laneUp && !d.linkUp n &&
    (d.link n).lemc.isNone
  d.setFlag (Reg.intkLinkStat n) 4 ready

/-! ## Streams of a link that goes down (R70) -/

/-- The decimation of a stream: R × 2^H × F (R75). -/
def decim (d : Dev) (n : Nat) : Nat :=
  let v := d.rn (Reg.intkStrDec n)
  (bits v 5 0 + 1) * 2 ^ bits v 9 8 * (bits v 15 12 + 1)

/-- TBC of the first sample of a frame on the present grid (R71, R72, R77); none before the first output sample. -/
def frameTbc (d : Dev) (n f : Nat) : Option Nat :=
  (d.strm n).grid0.map (fun (g : Int) =>
    let t : Int := g + (f * d.frameHop n * d.decim n * d.rn (Reg.intkLinkSper (d.fld (Reg.intkStrSrc n) 18 16)) : Nat)
    ((roundDiv t 65536 - (d.rn (Reg.intkStrGd n) : Nat)) / 256 % 2 ^ 64).toNat)

/-- A frame number that will not become a frame: LOST (R70) or DROPPED (R80), in its counter and the ledger. Where no sample has
set the grid yet, the TBC of its first sample is open (log entry 2). -/
def goneFrame (d : Dev) (n f : Nat) (lost : Bool) (tbc : Option Nat) : Dev :=
  let d := d.bump (if lost then Reg.intkStrLost n else Reg.intkStrDropped n)
  let b := if lost then stLost else stDropped
  let e := if tbc.isNone then d.drew else d
  e.ledgerPut n (f % 2 ^ 32) (fun x => { x with stages := putBits x.stages b b 1, tbc := tbc.getD d.freeVal.toNat })

/-- A flushed chain (R70, R77). -/
def flushed (x : Strm) : Strm :=
  { x with cic := [], cicN := 0, hb1 := [], hb1N := 0, hb2 := [], hb2N := 0, fir := [], firN := 0, outq := [] }

/-- The close of a stream takes effect (R83). -/
def closeNow (d : Dev) (n : Nat) : Dev :=
  let d := d.setStrm n { d.strm n with closing := false, filling := [], outq := [], gather := false }
  let d := (d.setFlag (Reg.intkStrStat n) 0 false).setFlag (Reg.intkStrStat n) 2 false
  let d := if n < 32 then d.setFlag Reg.intkOpenLo n false else d.setFlag Reg.intkOpenHi (n - 32) false
  d.completeWhen 0x21 (fun c => c.imm % 64 == n) [(d.rn (Reg.intkStrFrameNo n) + 0xFFFFFFFF) % 2 ^ 32]

/-- An open stream loses its source link (R70, R83). -/
def streamDown (d : Dev) (n : Nat) : Dev :=
  if !d.strOpen n then d else
  let x := d.strm n
  let d := x.filling.foldl (fun d f => ((d.stageAbandon n f.frame).freeSlot n f.slot).goneFrame n f.frame true (d.frameTbc n f.frame)) d
  let d := d.setStrm n { flushed (d.strm n) with filling := [], resume := none }
  let d := d.setFlag (Reg.intkStrStat n) 2 true
  if x.closing then d.closeNow n else d

/-- The link goes down: locks and phase are lost with it where it realigns, and its streams follow R70. -/
def linkDown (d : Dev) (n : Nat) : Dev :=
  let d := d.showUp n false
  let d := d.setFlag (Reg.intkLinkStat n) 4 false
  let d := d.setLink n { d.link n with lemc := none, crcLeft := ⟨[]⟩ }
  (d.streamsOf n).foldl streamDown d

/-- A lane loses the link (R69): counted, logged as an EVENT, and realigned. -/
def loseLink (d : Dev) (m cond : Nat) (clear : Nat) : Dev :=
  match d.laneLink m with
  | none => d
  | some n =>
    if !d.linkEn n then d else
    let d := (d.setReg (Reg.intkLaneStat m) (d.rn (Reg.intkLaneStat m) &&& clear)).showLanes
    -- R503: of the lanes that meet one condition in one cycle INDEX names the lowest
    if (d.link n).lemc.isNone && !d.linkUp n then
      (d.setErrIndex unitIntake (fun e => e % 16 == clsEvent && bits e 15 8 == 0x90 + cond && bits e 31 16 / 256 == n &&
        decide (m < bits e 31 16 % 256)) (n * 256 + m)).checkLocks n
    else
    let d := d.logError unitIntake clsEvent (0x90 + cond) (n * 256 + m) 0
    (d.linkDown n).bump (Reg.intkLinkRealigns n) |>.checkLocks n

/-! ## Enabling (R65) -/

/-- N′ of a link. -/
def nPrime (d : Dev) (n : Nat) : Nat :=
  let k := d.fld (Reg.intkLinkCfg n) 15 14
  if k = 0 then 8 else if k = 1 then 12 else 16

/-- Converters of a link. -/
def convs (d : Dev) (n : Nat) : Nat := d.fld (Reg.intkLinkCfg n) 11 8 + 1

/-- The checks of R65. A sample period of SPER / 65,536 fine units of 625 ps / 256 agrees within 1 ppm with
lane rate × 64/66 × L ÷ (M × N′), the lane rate in units of 10 Mb/s. The reserved code of NP gives no N′, and fails (log entry
110). -/
def linkCfgOk (d : Dev) (n rate : Nat) : Bool :=
  let l := d.fld (Reg.intkLinkCfg n) 2 0 + 1
  let lanes := (List.range 24).filter (fun m => d.laneLink m == some n)
  let ixs := lanes.map (fun m => d.fld (Reg.intkLaneCfg m) 2 0)
  let sper := d.rn (Reg.intkLinkSper n)
  -- samples per second × sample period = 1: rate·10^7·64·L·SPER·625·10^-12 ÷ (66·M·N′·256·65536)
  let a := rate * 64 * l * sper * 625
  let b := 66 * d.convs n * d.nPrime n * 256 * 65536 * 100000
  decide (lanes.length = l) && ixs.all (fun i => decide (i < l)) && decide (ixs.eraseDups.length = ixs.length) &&
    decide (800 ≤ rate) && decide (rate ≤ 3250) && decide (d.fld (Reg.intkLinkCfg n) 15 14 ≠ 3) &&
    decide (a * 1000000 ≤ b * 1000001) && decide (b * 999999 ≤ a * 1000000)

/-- A write of INTK_LINKn_CTL (R65, R70, R81): EN is written; RATE and RBD while EN = 0. -/
def linkCtlWrite (n v : Nat) (d : Dev) : Dev :=
  let was := d.linkEn n
  let old := d.rn (Reg.intkLinkCtl n)
  let w := if was then putBits old 0 0 (v % 2) else putBits (putBits (putBits old 31 20 (bits v 31 20)) 15 8 (bits v 15 8)) 0 0 (v % 2)
  let d := d.setReg (Reg.intkLinkCtl n) w
  let d := d.setFlag (Reg.intkLinkStat n) 0 (bit v 0)
  if !was && bit v 0 then
    -- the group's pads are released (R416)
    let d := if d.pwrState ≤ psIdle then d.setFlag Reg.pwrPadHold 3 false else d
    if d.linkCfgOk n (bits w 31 20) then (d.setFlag (Reg.intkLinkStat n) 3 false).checkLocks n
    else d.setFlag (Reg.intkLinkStat n) 3 true
  else if was && !bit v 0 then
    let d := (d.lanesOf n).foldl (fun d m => d.setReg (Reg.intkLaneStat m) 0) d
    (d.showLanes.linkDown n).setFlag (Reg.intkLinkStat n) 3 false
  else d

/-- A lane gains a lock (R66). -/
def laneLock (b m : Nat) (d : Dev) : Dev :=
  match d.laneLink m with
  | none => d
  | some n =>
    if !d.linkEn n || d.flag (Reg.intkLinkStat n) 3 then d else
    if b = 1 && !d.flag (Reg.intkLaneStat m) 0 then d else
    ((d.setFlag (Reg.intkLaneStat m) b true).showLanes).checkLocks n

/-! ## SYSREF at the intake (R66, R67, R74) -/

/-- LEMC period in TB_CLK periods × 10^7-scaled rate: E × 32 blocks of 66 bits at RATE × 10 Mb/s (R63, R66); a pulse is on
the LEMC grid when its distance from the phase is a whole number of periods. -/
def onLemc (d : Dev) (n t : Nat) : Bool :=
  match (d.link n).lemc with
  | none => true
  | some p =>
    -- distance × 625 ps ÷ (E·2112 bits ÷ (RATE·10^7 b/s)) is an integer
    let e := d.fld (Reg.intkLinkCfg n) 21 20 + 1
    let rate := d.fld (Reg.intkLinkCtl n) 31 20
    ((t : Int) - p) * 625 * rate % (e * 2112 * 100000) == 0

/-- NCO phase accumulator reset (R74). -/
def ncoReset (d : Dev) (n : Nat) : Dev := d.setStrm n { d.strm n with acc := 0 }

/-- A SYSREF channel pulses at TBC t: it aligns the links that wait for it, checks those aligned, and serves pending NCO
resets of streams whose link is up. -/
def sysrefAtIntake (d : Dev) (ch t : Nat) : Dev :=
  if !d.clocksOn then d else
  ((List.range 6).filter (fun n => d.linkEn n && d.fld (Reg.intkLinkCfg n) 26 24 == ch)).foldl (fun d n =>
    if d.flag (Reg.intkLinkStat n) 4 then
      let d := d.setLink n { d.link n with lemc := some (t : Int) }
      let d := d.setFlag (Reg.intkLinkStat n) 4 false
      (d.streamsOf n).foldl ncoReset d
    else if (d.link n).lemc.isSome then
      let d := if d.onLemc n t then d else d.bump (Reg.intkLinkSysrefMiss n)
      if !d.linkUp n then d else
      ((d.streamsOf n).filter (fun k => d.flag (Reg.intkStrStat k) 4)).foldl
        (fun d k => (d.ncoReset k).setFlag (Reg.intkStrStat k) 4 false) d
    else d) d

/-! ## Release and stamps (R66, R68, R70, R71) -/

/-- Exact time of a link's sample j in 1/65,536 fine units (R71). -/
def sampTime (d : Dev) (n j : Nat) : Int := (d.link n).tLemc + (j * d.rn (Reg.intkLinkSper n) : Nat)

/-- The stamp of sample j in fine units: the sample's offset rounded to nearest, ties to even (R71, log entry 109). -/
def sampStamp (d : Dev) (n j : Nat) : Int :=
  (d.link n).tLemc / 65536 + roundDiv ((j * d.rn (Reg.intkLinkSper n) : Nat) : Int) 65536

/-- An open stream's link is up again: the first frame-grid point whose input window lies wholly after release starts the
first frame, and the inputs before that window, which is the D inputs of its first output sample, are passed over (R70, log
entry 135). -/
def streamUp (n : Nat) (d : Dev) (k : Nat) : Dev :=
  if !d.strOpen k then d else
  let x := d.strm k
  let d := d.setFlag (Reg.intkStrStat k) 2 false
  match x.grid0 with
  | none => d.setStrm k { flushed x with resume := none, outIx := x.nextFrame * d.frameHop k, relink := true }
  | some g0 =>
    let sper : Int := d.rn (Reg.intkLinkSper n)
    let dd : Int := d.decim k
    let grid := max 1 (dd * sper)
    let tl := d.sampTime n 0
    -- least output index whose D inputs all lie at or after sample 0
    let imin := ((dd - 2) * sper + tl - g0) / grid + 1
    let hop := max 1 (d.frameHop k)
    let f := max x.nextFrame (ceilDiv imin.toNat hop)
    let ib : Int := f * hop
    let jb := -((-(g0 + ib * grid - tl)) / max 1 sper) - dd + 1
    d.setStrm k { flushed x with resume := some ⟨jb.toNat, f⟩, outIx := f * hop, relink := true }

/-- INTK_LINKn_STAT.LAT_MISMATCH (R68). -/
def latMismatch (d : Dev) (n : Nat) : Bool :=
  d.rn (Reg.intkLinkLatExp n) != 0 && d.rn (Reg.intkLinkLatExp n) != d.rn (Reg.intkLinkLat n)

/-- Lane data are released and the link is UP (R66, R68, R71). The latency and the fine stamp of the release are measured. -/
def release (n lat fine : Nat) (d : Dev) : Dev :=
  if !d.linkEn n || d.linkUp n || (d.link n).lemc.isNone then d else
  let stamp : Int := d.tb.tbc * 256 + fine
  let t := stamp - (lat * 256 : Nat) - (d.rn (Reg.intkLinkAdcLat n) : Nat)
  let d := d.setLink n { d.link n with tLemc := t * 65536, j := 0, crcLeft := ⟨[]⟩ }
  let d := d.setReg (Reg.intkLinkLat n) lat
  (d.streamsOf n).foldl (streamUp n) (d.showUp n true)

/-! ## The chain (R74-R76, R502) -/

/-- A rounded stage output with its marks: the window's marks, and its own saturation (R76). -/
def stageOut (v : Int) (window : List Samp) : Samp × Nat :=
  let c := clampI (-32768) 32767 v
  let sat := c != v
  (⟨c, window.any (·.crc), sat || window.any (·.sat)⟩, b2n sat)

/-- All sums of r neighbours of a list. -/
def boxSum (r : Nat) (l : List Int) : List Int := (List.range (l.length + 1 - r)).map (fun i => ((l.drop i).take r).sum)

/-- A history filled with zeros to w values. -/
def padTo (w : Nat) (l : List Samp) : List Samp := l ++ List.replicate (w - l.length) (Samp.mk 0 false false)

/-- One component of the CIC: five sums of R neighbours, shifted right with rounding (R75). -/
def cicOut (r shift : Nat) (h : List Samp) : Samp × Nat :=
  let w := padTo (5 * (r - 1) + 1) h
  let f := boxSum r
  let s := (f (f (f (f (f (w.map (·.v))))))).getD 0 0
  stageOut (roundDiv s (2 ^ shift)) h

/-- One component of a half-band stage (R75). Every input in the window counts as taken in, zero taps included (R76, log entry
111). -/
def hbOut (h : List Samp) : Samp × Nat :=
  let w := (padTo 23 h).map (·.v)
  let at_ (i : Nat) : Int := w.getD i 0
  let s := (List.range 6).foldl (fun (t : Int) i =>
    t + (Config.halfBandCoef i).toInt * (at_ (11 - (2 * i + 1)) + at_ (11 + (2 * i + 1)))) (65536 * at_ 11)
  stageOut (roundDiv s (2 ^ 17)) h

/-- One component of the FIR (R75). -/
def firOut (coefs : List Int) (h : List Samp) : Samp × Nat :=
  let s := (List.zipWith (fun c (x : Samp) => c * x.v) coefs h).sum
  stageOut (roundDiv s (2 ^ 17)) h

/-- Add an input to the histories of a stage. -/
def pushHist (w : Nat) (h : List (List Samp)) (x : List Samp) : List (List Samp) :=
  x.zipIdx.map (fun c => (c.1 :: h.getD c.2 []).take w)

/-- What a stage passes on: nothing, or its output, with its count of saturations. -/
abbrev StageRes := Option (List Samp) × Nat

/-- A stage's outputs from its histories. -/
def stageAll (f : List Samp → Samp × Nat) (h : List (List Samp)) : StageRes :=
  let o := h.map f
  (some (o.map (·.1)), (o.map (·.2)).sum)

/-- One input through the decimation chain of a stream (R75, R76). -/
def chain (d : Dev) (n : Nat) (x : Strm) (inp : List Samp) : Strm × StageRes :=
  let v := d.rn (Reg.intkStrDec n)
  let r := bits v 5 0 + 1
  let hb := bits v 9 8
  let t := bits v 22 16
  let f := bits v 15 12 + 1
  -- CIC
  let s1 : Strm × StageRes :=
    if r = 1 then (x, (some inp, 0)) else
    let h := pushHist (5 * (r - 1) + 1) x.cic inp
    if x.cicN + 1 < r then ({ x with cic := h, cicN := x.cicN + 1 }, (none, 0))
    else ({ x with cic := h, cicN := 0 }, stageAll (cicOut r (bits v 28 24)) h)
  -- half-band stages
  let s2 : Strm × StageRes := match s1.2.1 with
    | some y => if hb = 0 then (s1.1, (some y, s1.2.2)) else
        let h := pushHist 23 s1.1.hb1 y
        if s1.1.hb1N = 0 then ({ s1.1 with hb1 := h, hb1N := 1 }, (none, s1.2.2))
        else let o := stageAll hbOut h; ({ s1.1 with hb1 := h, hb1N := 0 }, (o.1, s1.2.2 + o.2))
    | none => s1
  let s3 : Strm × StageRes := match s2.2.1 with
    | some y => if hb < 2 then (s2.1, (some y, s2.2.2)) else
        let h := pushHist 23 s2.1.hb2 y
        if s2.1.hb2N = 0 then ({ s2.1 with hb2 := h, hb2N := 1 }, (none, s2.2.2))
        else let o := stageAll hbOut h; ({ s2.1 with hb2 := h, hb2N := 0 }, (o.1, s2.2.2 + o.2))
    | none => s2
  -- FIR
  match s3.2.1 with
  | some y => if t = 0 then (s3.1, (some y, s3.2.2)) else
      let h := pushHist t s3.1.fir y
      if s3.1.firN + 1 < f then ({ s3.1 with fir := h, firN := s3.1.firN + 1 }, (none, s3.2.2))
      else
        let coefs := (List.range t).map (fun i => signedOf 18 (d.rn (Reg.intkStrFirT n i)))
        let o := stageAll (firOut coefs) h
        ({ s3.1 with fir := h, firN := 0 }, (o.1, s3.2.2 + o.2))
  | none => s3

/-- The NCO's output for an input sample (R74, R502), with its count of saturations. -/
def nco (d : Dev) (n acc : Nat) (inp : List Samp) : List Samp × Nat :=
  if !d.flag (Reg.intkStrCtl n) 16 then (inp, 0) else
  let phase := (d.fld (Reg.intkStrCtl n) 15 0 * 2 ^ 32 + acc) % 2 ^ 48
  let cs := ncoCS (phase / 2 ^ 28)
  let mk (v : Int) : Samp × Nat := stageOut (roundDiv v (2 ^ 17)) inp
  let o := match inp with
    | [i] => [mk (i.v * cs.1), mk (-i.v * cs.2)]
    | [i, q] => [mk (i.v * cs.1 + q.v * cs.2), mk (q.v * cs.1 - i.v * cs.2)]
    | _ => []
  (o.map (·.1), (o.map (·.2)).sum)

/-! ## The framer (R77-R80) -/

/-- A filling frame takes an output sample: written to its slot, its marks counted (R78, R79). -/
def fillOne (n hop len ix : Nat) (o : OutSample) (d : Dev) (f : Filling) : Dev :=
  let base := f.frame * hop
  if ix < base ∨ base + len ≤ ix then d else
  let w := if o.comps.length = 2 then 4 else 2
  let a := d.slotAddr n f.slot + 64 + (ix - base) * w
  let data := o.comps.flatMap (fun c => toBytes 2 (unsignedOf 16 c.v))
  let bad := d.lineBad a
  -- the first sample of a line writes it
  let d := if d.flag (Reg.intkStrBufCfg n) 8 ∧ a % 64 = 0 ∧ !bad then d.scPin ((a - ddrBase) / 64) else d
  let d := if bad ∧ a % 64 = 0 then d.accessErr unitIntake n a else d
  let d := if bad then d else (d.putBytes a data).stageWrite n (f.frame % 2 ^ 32) ((ix - base) * w) (data.map (·.toNat))
  let f' := { f with
    count := f.count + 1
    stamp := if ix = base then (o.stamp % 2 ^ 72).toNat else f.stamp
    flags := f.flags ||| (b2n (o.comps.any (·.crc)) + 2 * b2n (o.comps.any (·.sat)))
    sats := f.sats + (o.comps.filter (·.sat)).length
    memErr := f.memErr || bad }
  d.setStrm n { d.strm n with filling := (d.strm n).filling.map (fun (g : Filling) => if g.frame = f.frame then f' else g) }

/-- A hop point whose frame has not started stands at the head of the output queue (R77). -/
def atHop (d : Dev) (n : Nat) (x : Strm) : Bool :=
  let hop := max 1 (d.frameHop n)
  x.outIx % hop == 0 && decide (x.nextFrame ≤ x.outIx / hop) && !x.closing

/-- The framer takes finished output samples up to the next hop point. -/
def drainOut (n : Nat) : Nat → Dev → Dev
  | 0, d => d
  | k + 1, d =>
    let x := d.strm n
    match x.outq with
    | [] => d
    | o :: os =>
      if d.atHop n x then d else
      let d := d.setStrm n { x with outq := os, outIx := x.outIx + 1 }
      drainOut n k (x.filling.foldl (fillOne n (d.frameHop n) (d.frameLen n) x.outIx o) d)

/-- The framer takes what it can. -/
def drainStr (d : Dev) (n : Nat) : Dev := drainOut n (d.strm n).outq.length d

/-- A stream's input sample (R73-R76, R82). -/
def strInput (lk : Nat) (samples : List (BitVec 16)) (crc : Nat → Bool) (j : Nat) (d : Dev) (n : Nat) : Dev :=
  let x := d.strm n
  let isOpen := d.strOpen n
  -- a word posted while the stream is closed applies from this sample (R82)
  let post := !isOpen && x.ftwPend.isSome
  let x := if post then { x with ftw := x.ftwPend.getD 0, ftwPend := none } else x
  let d := if post then d.setFlag (Reg.intkStrStat n) 1 false else d
  let acc := x.acc
  let x := { x with acc := (acc + x.ftw) % 2 ^ 48 }
  if !isOpen then d.setStrm n x else
  match x.resume with
  | some ⟨k + 1, f⟩ => d.setStrm n { x with resume := some ⟨k, f⟩ }
  | _ =>
    let src := d.rn (Reg.intkStrSrc n)
    let get (i : Nat) : Samp := ⟨((samples.getD i 0).toNat / 2 ^ (16 - d.nPrime lk) * 2 ^ (16 - d.nPrime lk) : Nat) |> (signedOf 16 ·), crc i, false⟩
    let inp := if bit src 8 then [get (bits src 3 0), get (bits src 7 4)] else [get (bits src 3 0)]
    let m := d.nco n acc inp
    let c := d.chain n x m.1
    let d := if m.2 + c.2.2 = 0 then d else d.bump (Reg.intkStrSat n) (m.2 + c.2.2)
    match c.2.1 with
    | none => d.setStrm n c.1
    | some y =>
      let ix := c.1.outIx + c.1.outq.length
      let o : OutSample := ⟨y, d.sampStamp lk j - (d.rn (Reg.intkStrGd n) : Nat)⟩
      let g0 := match c.1.grid0 with
        | some g => some g
        | none => some (d.sampTime lk j - (ix * d.decim n * d.rn (Reg.intkLinkSper lk) : Nat))
      (d.setStrm n { c.1 with outq := c.1.outq ++ [o], grid0 := g0 }).drainStr n

/-- One sampling instant of a link's converters (R71, R73). -/
def inputSample (n : Nat) (samples : List (BitVec 16)) (d : Dev) : Dev :=
  if !d.linkUp n then d else
  let l := d.link n
  let left := l.crcLeft.cells.foldl (fun m c => m.set 0 c.1 (c.2 - 1)) l.crcLeft
  let d := d.setLink n { l with j := l.j + 1, crcLeft := left }
  (d.streamsOf n).foldl (strInput n samples (fun c => l.crcLeft.get 0 c != 0) l.j) d

/-- The next slot of the ring after the last one taken that is free (R78, log entry 8). -/
def pickSlot (d : Dev) (n : Nat) : Option Nat :=
  let x := d.strm n
  let count := d.fld (Reg.intkStrBufCfg n) 4 0
  ((List.range count).map (fun i => (x.nextSlot + i) % max 1 count)).find? (fun k => !x.busy.contains k)

/-- TBC of the first sample of a frame that starts with the output sample at the head of the queue. -/
def headTbc (d : Dev) (n f : Nat) : Option Nat :=
  match (d.strm n).outq with
  | o :: _ => some ((o.stamp % 2 ^ 72).toNat / 256)
  | [] => d.frameTbc n f

/-- A frame that has started, as the array will know it. -/
def frameOf (d : Dev) (n : Nat) (f : Filling) : Frame :=
  { stream := n, frame := f.frame % 2 ^ 32, tb72 := f.stamp, slot := f.slot, addr := d.slotAddr n f.slot + 64,
    len := d.frameLen n * d.sampBytes n, fullAt := d.tb.tbc, memErr := f.memErr }

/-- FRAME_START: the hop point of the next frame number (R70, R77, R80, R82, R448). RELINK stays due until a frame takes a slot
(log entry 113). -/
def startFrame (n : Nat) (d : Dev) : Dev :=
  let x := d.strm n
  if !d.strOpen n || x.closing || x.gather then d else
  let f := x.nextFrame
  let took (d : Dev) : Dev :=
    (d.setStrm n { d.strm n with nextFrame := f + 1 }).setReg (Reg.intkStrFrameNo n) (f + 1)
  if d.flag (Reg.intkStrStat n) 2 then took (d.goneFrame n f true (d.frameTbc n f))
  else if (match x.resume with | some r => decide (f < r.frame) | none => false) then took (d.goneFrame n f true (d.frameTbc n f))
  else if !d.atHop n x then d
  else
    let d := match x.ftwPend with
      | some w => (d.setStrm n { x with ftw := w, ftwPend := none }).setFlag (Reg.intkStrStat n) 1 false
      | none => d
    let d := took d
    if d.held unitIntake then (d.goneFrame n f false (d.headTbc n f)).drainStr n
    else match d.pickSlot n with
      | none => ((d.goneFrame n f false (d.headTbc n f)).showNoSlot n).drainStr n
      | some k =>
        let y := d.strm n
        let count := d.fld (Reg.intkStrBufCfg n) 4 0
        let fl : Filling := ⟨f, k, 0, 0, if y.relink then 4 else 0, 0, false⟩
        let d := d.setStrm n { y with
          busy := y.busy ++ [k], filling := y.filling ++ [fl], relink := false, resume := none,
          nextSlot := (k + 1) % max 1 count }
        ((d.showNoSlot n).stageBegin (d.frameOf n fl)).drainStr n

/-- The 64-byte descriptor (R79). -/
def descriptor (n : Nat) (f : Filling) (flags : Nat) : List Byte :=
  toBytes 9 f.stamp ++ toBytes 1 n ++ toBytes 2 flags ++ toBytes 4 f.frame ++ toBytes 4 f.sats ++ zeroBytes 44

/-- FRAME_COMPLETE: the oldest frame whose samples are all written gets its descriptor (R78, R79, R83). -/
def completeFrame (n : Nat) (d : Dev) : Dev :=
  let len := d.frameLen n
  match (d.strm n).filling.find? (fun f => decide (len ≤ f.count)) with
  | none => d
  | some f =>
    let lk := d.fld (Reg.intkStrSrc n) 18 16
    let flags := f.flags ||| (8 * b2n (d.latMismatch lk))
    let a := d.slotAddr n f.slot
    let bad := d.lineBad a
    let d := if d.flag (Reg.intkStrBufCfg n) 8 ∧ !bad then d.scPin ((a - ddrBase) / 64) else d
    let d := if bad then d.accessErr unitIntake n a else d.putBytes a (descriptor n f flags)
    let d := d.bump (Reg.intkStrFrames n)
    let fr := { d.frameOf n f with memErr := f.memErr || bad, flags := flags }
    let d := d.ledgerPut n (f.frame % 2 ^ 32) (fun e =>
      { e with stages := putBits e.stages stIntake stIntake 1, tbc := f.stamp / 256 })
    let d := d.stageFull fr
    let x := d.strm n
    let d := d.setStrm n { x with filling := x.filling.filter (fun g => g.frame != f.frame) }
    if x.closing && (d.strm n).filling.isEmpty then d.closeNow n else d

/-- A post of the FTW by the write of its low half; the registers read the word posted (R82, log entry 112). -/
def ftwPostTo (n lo : Nat) (d : Dev) : Dev :=
  let d := d.setReg (Reg.intkStrFtwLo n) lo
  let w := d.fld (Reg.intkStrFtwHi n) 15 0 * 2 ^ 32 + lo
  (d.setStrm n { d.strm n with ftwPend := some w }).setFlag (Reg.intkStrStat n) 1 true

/-- A multiblock of a lane fails its CRC: the samples that it carries, of the converters in a mask, are delivered and marked
(R69). -/
def crcMismatch (m samples convs : Nat) (first : Bool) (d : Dev) : Dev :=
  match d.laneLink m with
  | none => d
  | some n =>
    if !d.linkUp n then d else
    let d := d.bump (Reg.intkLaneCrcerr m)
    let d := if first then d.bump (Reg.intkLinkCrcBlocks n) else d
    d.setLink n { d.link n with
      crcLeft := (maskBits 16 convs).foldl (fun m c => m.set 0 c (max (m.get 0 c) samples)) (d.link n).crcLeft }

end Dev

open Dev

/-- LINK_ENABLE (R65). -/
def execLinkEnable (n : Fin 6) (v : Word) (s : State) : Host.Outcome State Fault Refusal :=
  onReg (Reg.intkLinkCtl n) (linkCtlWrite n v.toNat) s

/-- SYNC_HEADER_LOCK (R66 step 1). -/
def execSyncHeaderLock (lane : Fin 24) (s : State) : Host.Outcome State Fault Refusal := onDev (whileClocked (laneLock 0 lane)) s

/-- EMB_LOCK (R66 step 2). -/
def execEmbLock (lane : Fin 24) (s : State) : Host.Outcome State Fault Refusal := onDev (whileClocked (laneLock 1 lane)) s

/-- LINK_RELEASE (R66 step 4). -/
def execLinkRelease (n : Fin 6) (lat : Word) (fine : BitVec 8) (s : State) : Host.Outcome State Fault Refusal :=
  onDev (whileClocked (release n lat.toNat fine.toNat)) s

/-- LINK_DOWN_SHERR: 16 invalid sync headers within 64 (R69). -/
def execLinkDownSherr (lane : Fin 24) (s : State) : Host.Outcome State Fault Refusal :=
  onDev (whileClocked fun d => match d.laneLink lane with
    | none => d
    | some n => if d.linkEn n then (d.bump (Reg.intkLaneSherr lane)).loseLink lane 1 0 else d) s

/-- LINK_DOWN_EMB: extended-multiblock lock lost (R69). -/
def execLinkDownEmb (lane : Fin 24) (s : State) : Host.Outcome State Fault Refusal :=
  onDev (whileClocked fun d => d.loseLink lane 2 1) s

/-- LINK_DOWN_EB: an elastic buffer overflows or underflows (R69). -/
def execLinkDownEb (lane : Fin 24) (s : State) : Host.Outcome State Fault Refusal :=
  onDev (whileClocked fun d => match d.laneLink lane with
    | none => d
    | some n => if d.linkUp n then (d.bump (Reg.intkLinkEbErr n)).loseLink lane 3 3 else d) s

/-- LANE_CRC_MISMATCH (R69). -/
def execLaneCrcMismatch (lane : Fin 24) (block : CrcBlock) (first : Bool) (s : State) :
    Host.Outcome State Fault Refusal := onDev (whileClocked (crcMismatch lane block.samples block.convs.toNat first)) s

/-- INPUT_SAMPLE (R71, R73-R76). -/
def execInputSample (n : Fin 6) (samples : List (BitVec 16)) (s : State) : Host.Outcome State Fault Refusal :=
  onDev (whileClocked (inputSample n samples)) s

/-- NCO_SYNC: the request is pending until the next pulse (R74). -/
def execNcoSync (n : Fin 64) (s : State) : Host.Outcome State Fault Refusal :=
  onReg (Reg.intkStrCtl n) (fun d => d.setFlag (Reg.intkStrStat n) 4 true) s

/-- FTW_POST (R82). -/
def execFtwPost (n : Fin 64) (lo : Word) (s : State) : Host.Outcome State Fault Refusal := onReg (Reg.intkStrFtwLo n) (ftwPostTo n lo.toNat) s

/-- FRAME_START (R77). -/
def execFrameStart (n : Fin 64) (s : State) : Host.Outcome State Fault Refusal := onDev (whileClocked (startFrame n)) s

/-- FRAME_COMPLETE (R78). -/
def execFrameComplete (n : Fin 64) (s : State) : Host.Outcome State Fault Refusal := onDev (whileClocked (completeFrame n)) s

end Sys2Proof.Machine
end

