-- ==== Sys2Proof/Machine/Links.lean ====
section
/-! DEFINITION. The transmit stage of the leat ports: egress buffers, credits and codewords (R326-R330). -/

namespace Sys2Proof.Machine

namespace Dev

/-- A leat port. -/
def port (d : Dev) (p : Nat) : Port := d.ports.get {} p

/-- Replace a leat port. -/
def setPort (d : Dev) (p : Nat) (x : Port) : Dev := { d with ports := d.ports.set {} p x }

/-- A port carries traffic (R330). -/
def inUse (d : Dev) (p : Nat) : Bool := d.flag (Reg.lkPortStat p) 2

/-- Landing entries of a link VC (R328). -/
def landSize (v : Nat) : Nat := if v % 4 = 0 then 1024 else 64

/-- The order in which link VCs give packets to a codeword: control first, as in the mesh (R223) (log entry 9). -/
def vcOrder : List Nat := [3, 7, 2, 6, 0, 4, 1, 5]

/-- Fill a codeword: packets against credits, at most n in all. -/
def fillCw (x : Port) (n : Nat) : List Nat → Port × List Nat
  | [] => (x, [])
  | v :: vs =>
    let q := x.egress.get [] v
    let k := min (min n q.length) (landSize v - x.used.get 0 v)
    let x := { x with egress := x.egress.set [] v (q.drop k), used := x.used.set 0 v (x.used.get 0 v + k) }
    let r := fillCw x (n - k) vs
    (r.1, q.take k ++ r.2)

/-- The TB72 at which the first bit of a codeword passes the pad: the stamp given with the packet, or, where it leaves later, its
period and a free fine part (R42, R340, log entry 2). -/
def leaveStamp (d : Dev) (t : TimeOut) : Nat × Dev :=
  if d.tb.tbc ≤ t.due then (t.due * 256 + t.fine, d) else (d.tb.tbc * 256 + d.freeVal.toNat % 256, d.drew)

/-- A TIMESYNC packet leaves in slot 1: a REQ stamps t1 and a REPLY t3 (R42, R340). -/
def stampTime (p : Nat) (t : TimeOut) (d : Dev) : Dev :=
  let e := d.tb.xch.get {} p
  let r := d.leaveStamp t
  let put (e : Exchange) (d : Dev) : Dev := { d with tb := { d.tb with xch := d.tb.xch.set {} p e } }
  if bits t.pkt 7 4 = 0 then put { e with first := r.1 } r.2
  else if bits t.pkt 7 4 = 1 then put { e with third := r.1 } r.2
  else d

/-- Send one DATA codeword, if there are packets with credits and room among the last 64: a TIMESYNC packet in its slot 1, then
the others; its slot 0 returns credits (R326-R329, R340). -/
def transmit (p : Nat) (d : Dev) : Dev :=
  let x := d.port p
  if !d.inUse p || 64 ≤ x.replay.length then d else
  let time := if x.used.get 0 3 < landSize 3 then x.times.head? else none
  let x := if time.isSome then { x with times := x.times.drop 1, used := x.used.set 0 3 (x.used.get 0 3 + 1) } else x
  let r := fillCw x (39 - b2n time.isSome) vcOrder
  let ps := (time.map (·.pkt)).toList ++ r.2
  if ps.isEmpty then d else
  let back := r.1.freed.cells.foldl (fun m c => m.set 0 c.1 (c.2 - 63)) r.1.freed
  let x := { r.1 with replay := r.1.replay ++ [⟨r.1.txSeq, ps, 0⟩], txSeq := (r.1.txSeq + 1) % 1024, freed := back }
  let d := (d.setPort p x).bump64 (Reg.lkPortTxpktLo p) (Reg.lkPortTxpktHi p) ps.length
  match time with
  | some t => d.stampTime p t
  | none => d

/-- The egress buffer of a link VC has room: 64 entries (R339). -/
def egressRoom (d : Dev) (p v : Nat) : Bool := decide (((d.port p).egress.get [] v).length < 64)

/-- A packet enters a port's egress buffer and leaves as soon as it may; a port out of use carries nothing (R330). -/
def egress (p v pkt : Nat) (d : Dev) : Dev :=
  if !d.inUse p then d else
  let x := d.port p
  (d.setPort p { x with egress := x.egress.set [] v (x.egress.get [] v ++ [pkt]) }).transmit p

/-- A TIMESYNC packet goes out by a port in use (R330, R340). -/
def sendTime (p pkt due fine : Nat) (d : Dev) : Dev :=
  if !d.inUse p then d else
  let x := d.port p
  (d.setPort p { x with times := x.times ++ [⟨pkt, due, fine⟩] }).transmit p

/-- Ports toward the time-sync parent: the parent, or ALT while the parent is down (R341). -/
def syncPort (d : Dev) : Nat :=
  let r := d.rn Reg.lkTsync
  if !d.inUse (bits r 29 28) && bit r 30 then bits r 25 24 else bits r 29 28

end Dev

end Sys2Proof.Machine
end

