-- ==== Sys2Proof/Machine/Mesh.lean ====
section
/-! DEFINITION. Packets, router buffers, multicast trees, injection with groups, ponds, windows and device routes
(R218-R234, R336-R339). -/

namespace Sys2Proof.Machine

namespace Dev

/-! ## Units -/

def nc (d : Dev) (n : Nat) : Nc := d.ncs.get {} n
def setNc (d : Dev) (n : Nat) (x : Nc) : Dev := { d with ncs := d.ncs.set {} n x }
def router (d : Dev) (r : Nat) : Router := d.routers.get {} r
def setRouter (d : Dev) (r : Nat) (x : Router) : Dev := { d with routers := d.routers.set {} r x }

/-- Own device index, devices in the job (R248). -/
def ownDev (d : Dev) : Nat := d.fld Reg.mrDevid 3 0
def jobDevs (d : Dev) : Nat := d.fld Reg.mrDevid 12 8

/-- GLB_VARIANT.CODE names the WD4-C2, whose mesh has 8 columns (R1, R2, R7). -/
def isC2 (d : Dev) : Bool := d.fld Reg.glbVariant 3 0 == 4
def meshCols (d : Dev) : Nat := if d.isC2 then 8 else 16

/-- The open tick of the fabric (R248). -/
def openTick (d : Dev) : Nat := d.rn Reg.mrTick

/-! ## Packets (R218-R221) -/

def clsEvt : Nat := 1
def clsHint : Nat := 2
def clsCpl : Nat := 3
def clsBar : Nat := 4
def clsTsync : Nat := 5
def clsCtrl : Nat := 6
def clsColl : Nat := 7
def clsDrain : Nat := 8

def pkClass (p : Nat) : Nat := p % 16
def pkDev (p : Nat) : Nat := bits p 19 4
def pkRow (p : Nat) : Nat := bits p 35 20
def pkCol (p : Nat) : Nat := bits p 51 36
def pkSrc (p : Nat) : Nat := bits p 59 52
def pkAxon (p : Nat) : Nat := bits p 79 60
def pkTick (p : Nat) : Nat := bits p 95 80
def pkSeq (p : Nat) : Nat := bits p 107 96
def pkMult (p : Nat) : Nat := bits p 110 108
def pkPay (p : Nat) : Nat := bits p 126 111

/-- A packet of class EVENT or HINT (R218). -/
def mkPacket (cls dev row col src axon tick mult pay : Nat) : Nat :=
  cls + dev % 2 ^ 16 * 2 ^ 4 + row % 2 ^ 16 * 2 ^ 20 + col % 2 ^ 16 * 2 ^ 36 + src % 256 * 2 ^ 52 +
    axon % 2 ^ 20 * 2 ^ 60 + tick % 2 ^ 16 * 2 ^ 80 + mult % 8 * 2 ^ 108 + pay % 2 ^ 16 * 2 ^ 111

/-- Mesh virtual channel of a class (R219). -/
def vcOf (cls : Nat) : Nat := if cls = 1 then 0 else if cls = 2 then 1 else if cls = 3 ∨ cls = 4 ∨ cls = 8 then 2 else 3

/-- Deliveries of a copy (R227). -/
def deliveries (p : Nat) : Nat := popcount 16 (pkRow p) * popcount 16 (pkCol p)

/-- A packet's full tick as seen from an open tick (R221). -/
def fullTick (opn t : Nat) : Nat := unsignedOf 32 ((opn : Int) + signedOf 16 (t + 2 ^ 16 - opn % 2 ^ 16))

/-- Ticks from a to b, as a signed 32-bit difference (R192). -/
def tickDiff (b a : Nat) : Int := signedOf 32 (b + 2 ^ 32 - a % 2 ^ 32)

/-- Beside its 128 bits, a packet bound for another device carries in the model its set, source and destination devices and
egress port + 1 (log entry 12). -/
def tagged (p set src dst port : Nat) : Nat :=
  p % 2 ^ 128 + (set % 2 + src % 16 * 2 + dst % 16 * 32 + (port + 1) % 8 * 512) * 2 ^ 128
def tagSet (p : Nat) : Nat := bits p 128 128
def tagSrc (p : Nat) : Nat := bits p 132 129
def tagDst (p : Nat) : Nat := bits p 136 133
def tagPort (p : Nat) : Nat := bits p 139 137

/-! ## What a stated traffic figure counts (R246) -/

/-- A walk from line a of the mesh to the lines of a mask crosses the cut between lines 7 and 8. -/
def crossesCut (a mask : Nat) : Bool := if a < 8 then mask / 256 % 256 != 0 else mask % 256 != 0

/-- Crossings by one copy of the column 7/8 cut, by its trunk, and of the row 7/8 cut, by the Y branch of each named column. -/
def colCut (entry pkt : Nat) : Nat := b2n (crossesCut (entry % 16) (pkCol pkt))
def rowCut (entry pkt : Nat) : Nat := popcount 16 (pkCol pkt) * b2n (crossesCut (entry / 16) (pkRow pkt))

/-- Crossings by a copy in transit on its X then Y route from one gateway to another: of the column cut, of the row cut. -/
def transitCuts (g h : Nat) : Nat × Nat :=
  (b2n (crossesCut (g % 16) (2 ^ (h % 16))), b2n (crossesCut (g / 16) (2 ^ (h / 16))))

/-! ## Router buffers (R222) -/

def pN : Nat := 0
def pE : Nat := 1
def pS : Nat := 2
def pW : Nat := 3
def pL : Nat := 4
def pJ : Nat := 5
def pG : Nat := 6

/-- Entries of an input buffer of a virtual channel. -/
def bufSize (vc : Nat) : Nat := if vc = 0 ∨ vc = 4 then 8 else 4

def inBuf (d : Dev) (r port vc : Nat) : List Nat := (d.router r).inbuf.get [] (port * 5 + vc)
def setInBuf (d : Dev) (r port vc : Nat) (l : List Nat) : Dev :=
  d.setRouter r { d.router r with inbuf := (d.router r).inbuf.set [] (port * 5 + vc) l }
def bufRoom (d : Dev) (r port vc : Nat) : Bool := decide ((d.inBuf r port vc).length < bufSize vc)

/-- The NOC_CLK cycle. NOC_CLK and TB_CLK both run at 1.6 GHz, and the model takes one cycle for each TBC period (R23, log entry
119). -/
def nocCycle (d : Dev) : Nat := d.tb.tbc

/-- A hint has come to the head of an input buffer in this cycle (R223). -/
def hintHead (d : Dev) (r port : Nat) : Dev :=
  d.setRouter r { d.router r with hintAt := (d.router r).hintAt.set 0 port d.nocCycle }

/-- A packet enters an input buffer. -/
def pushBuf (d : Dev) (r port vc pkt : Nat) : Dev :=
  let d := if vc = 1 ∧ (d.inBuf r port vc).isEmpty then d.hintHead r port else d
  d.setInBuf r port vc (d.inBuf r port vc ++ [pkt])

/-- The head of an input buffer leaves it. -/
def popBuf (d : Dev) (r port vc : Nat) : Dev :=
  let d := if vc = 1 then d.hintHead r port else d
  d.setInBuf r port vc ((d.inBuf r port vc).drop 1)

/-- The neighbour of a router in a direction: 0 north, 1 east, 2 south, 3 west. -/
def neighbour (d : Dev) (r dir : Nat) : Option Nat :=
  let row := r / 16
  let col := r % 16
  if dir = 0 then (if 0 < row then some (r - 16) else none)
  else if dir = 1 then (if col + 1 < d.meshCols then some (r + 1) else none)
  else if dir = 2 then (if row < 15 then some (r + 16) else none)
  else (if 0 < col then some (r - 1) else none)

/-- The input port on the far side of a direction. -/
def farPort (dir : Nat) : Nat := (dir + 2) % 4

/-- Gateway routers of the leat ports (R14). -/
def gateway (d : Dev) (p : Nat) : Nat :=
  if p = 0 then 8 else if p = 1 then 128 + (d.meshCols - 1) else if p = 2 then 248 else 128

/-! ## Marks on results (R288) -/

/-- Last tick of a frame's window (R283). -/
def lastTick (d : Dev) (f : JFrame) : Nat :=
  let w := d.jn.wins.get {} f.fr.stream
  f.tinj.getD 0 + w.wofs + w.wlen - 1

/-- A flag marks the frames whose ticks t_inj to t_last + 1 hold a tick. -/
def markFrames (d : Dev) (b t : Nat) : Dev :=
  { d with jn := { d.jn with active := d.jn.active.map (fun (f : JFrame) =>
      match f.tinj with
      | none => f
      | some ti => if 0 ≤ tickDiff t ti ∧ tickDiff t (d.lastTick f + 1) ≤ 0 then { f with flags := putBits f.flags b b 1 } else f) } }

/-! ## Barrier counts (R235) -/

/-- A router counts n of a tick, if it is its open tick or the next. -/
def countSent (d : Dev) (r tick n : Nat) : Dev :=
  let x := d.router r
  let k := tickDiff tick x.openTick
  if k = 0 ∨ k = 1 then d.setRouter r { x with sent := x.sent.set 0 (tick % 2) ((x.sent.get 0 (tick % 2) + n) % 2 ^ 32) } else d
def countRecv (d : Dev) (r tick : Nat) : Dev :=
  let x := d.router r
  let k := tickDiff tick x.openTick
  if k = 0 ∨ k = 1 then d.setRouter r { x with recv := x.recv.set 0 (tick % 2) ((x.recv.get 0 (tick % 2) + 1) % 2 ^ 32) } else d

/-! ## Delivery and routing (R226, R243) -/

/-- A packet leaves through L: to its NC, to the injection port, or discarded where the NC has failed. -/
def deliver (d : Dev) (r pkt : Nat) : Dev :=
  let c := pkClass pkt
  if c = clsEvt then
    let t := fullTick (d.router r).openTick (pkTick pkt)
    let d := d.countRecv r t
    if (d.nc r).failed then (d.bump (Reg.rtUndeliv r)).markFrames 8 d.openTick
    else (d.bump (Reg.rtDelivered r)).setNc r { d.nc r with events := (d.nc r).events ++ [pkt % 2 ^ 128] }
  else if c = clsHint then
    if (d.nc r).failed then d.bump (Reg.rtUndeliv r)
    else (d.bump (Reg.rtDelivered r)).setNc r { d.nc r with hints := (d.nc r).hints ++ [pkt % 2 ^ 128] }
  else if c = clsCpl then d.setRouter r { d.router r with cpls := (d.router r).cpls ++ [pkt % 2 ^ 128] }
  else d

/-- The NC takes packets of the event channel: neither its miss queue nor its plastic queue is full (R209, R254). -/
def ncTakes (d : Dev) (r : Nat) : Bool := decide ((d.nc r).missq.length < 256) && decide ((d.nc r).peq.length < 256)

/-- An event packet can leave through L: the NC takes it, or it has failed and the router discards it (R209, R243). -/
def lRoom (d : Dev) (r : Nat) : Bool := (d.nc r).failed || d.ncTakes r

/-- An output has room for a packet of a virtual channel: outputs 0-3 mesh, 4 the L port, 5 a leat egress (reserved). -/
def outRoom (d : Dev) (r out vc : Nat) : Bool :=
  if out < 4 then
    match d.neighbour r out with
    | some m => d.bufRoom m (farPort out) vc
    | none => false
  else if out = 4 then vc != 0 || d.lRoom r
  else true

/-- A packet enters the egress buffer that it has reserved (R339), in its link VC (R328). -/
def toEgress (d : Dev) (pkt : Nat) : Dev :=
  let p := tagPort pkt - 1
  let v := vcOf (pkClass pkt) + 4 * tagSet pkt
  let x := d.port p
  let d := d.setPort p { x with reserved := x.reserved.set 0 v (x.reserved.get 0 v - 1) }
  let d := if tagSrc pkt = d.ownDev then d else d.setReg64 Reg.lkTransitLo Reg.lkTransitHi (d.rn64 Reg.lkTransitLo Reg.lkTransitHi - 1)
  d.egress p v pkt

/-- A packet leaves by an output. -/
def sendOut (d : Dev) (r out vc pkt : Nat) : Dev :=
  if out < 4 then
    match d.neighbour r out with
    | some m => d.pushBuf m (farPort out) vc pkt
    | none => d
  else if out = 4 then d.deliver r pkt
  else d.toEgress pkt

/-- The hop of a unicast route, X then Y; 9 at the target itself. -/
def hopTo (r t : Nat) : Nat :=
  if r % 16 < t % 16 then 1 else if t % 16 < r % 16 then 3 else if r / 16 < t / 16 then 2 else if t / 16 < r / 16 then 0 else 9

/-- The outputs of a packet at a router, by the input port it came by (R226). -/
def treeOuts (r port pkt : Nat) : List Nat :=
  let row := r / 16
  let col := r % 16
  let rm := pkRow pkt
  let cm := pkCol pkt
  let north := rm % 2 ^ row != 0
  let south := rm / 2 ^ (row + 1) != 0
  let west := cm % 2 ^ col != 0
  let east := cm / 2 ^ (col + 1) != 0
  let here := if bit rm row then [4] else []
  let up := if north then [0] else []
  let down := if south then [2] else []
  let branch := if bit cm col then up ++ down ++ here else []
  if port = pE then (if west then [3] else []) ++ branch
  else if port = pW then (if east then [1] else []) ++ branch
  else if port = pN then down ++ here
  else if port = pS then up ++ here
  else (if west then [3] else []) ++ (if east then [1] else []) ++ branch

/-- All outputs of a packet: toward its egress gateway, or along its tree. -/
def outsOf (d : Dev) (r port pkt : Nat) : List Nat :=
  if tagPort pkt = 0 then treeOuts r port pkt
  else
    let h := hopTo r (d.gateway (tagPort pkt - 1))
    [if h = 9 then 5 else h]

/-! ## Arbitration (R223) -/

/-- The place of a virtual channel in the order of an output; a hint that has waited 16 cycles at the head of its buffer goes
ahead of event traffic. -/
def vcRank (vc : Nat) (waited : Bool) : Nat :=
  if vc = 3 then 0 else if vc = 2 then 1 else if vc = 4 then 2 else if vc = 1 then (if waited then 3 else 5) else 4

/-- The router passes a packet of an input buffer on, and does not take it itself as it takes barrier and drain packets. -/
def passesOn (vc pkt : Nat) : Bool :=
  let c := pkClass pkt
  c != 0 && decide (c ≤ 8) && (vc == 4 || tagPort pkt != 0 || (c != clsBar && c != clsDrain))

/-- A source asks for an output: 0-6 an input port whose head leaves by it alone, 7 the replication buffer (R228). -/
def asks (d : Dev) (r out vc src : Nat) : Bool :=
  if src = 7 then (d.router r).repl.any (fun e => e.vc == vc && e.branches.any (fun b => b.1 == out))
  else match d.inBuf r src vc with
    | [] => false
    | pkt :: _ => passesOn vc pkt && d.outsOf r src pkt == [out]

/-- The head of a hint buffer has waited 16 cycles. -/
def hintWaited (d : Dev) (r vc src : Nat) : Bool :=
  vc == 1 && src != 7 && decide ((d.router r).hintAt.get 0 src + 16 ≤ d.nocCycle)

/-- An output has carried no packet in the present cycle. -/
def outIdle (d : Dev) (r out : Nat) : Bool := (d.router r).outAt.get 0 out != d.nocCycle + 1

/-- The distance of a source from the one that an output served last in a channel. -/
def turn (d : Dev) (r out vc src : Nat) : Nat := (src + 8 - (d.router r).lastIn.get 0 (out * 5 + vc)) % 8

/-- A source has a packet and a credit for an output. -/
def contends (d : Dev) (r out vc src : Nat) : Bool := d.asks r out vc src && d.outRoom r out vc

/-- The place of a packet in the order of an output: the exception for hints is one over event traffic (R223). -/
def outRank (d : Dev) (r out vc src : Nat) : Nat :=
  vcRank vc (d.hintWaited r vc src && (List.range 8).any (d.contends r out 0))

/-- A source may use an output for a channel in the present cycle: no packet with a credit has a place before its own there,
and among those of its place it is its turn (R223). -/
def granted (d : Dev) (r out vc src : Nat) : Bool :=
  let k := d.outRank r out vc src
  d.outIdle r out && d.outRoom r out vc &&
    (List.range 5).all (fun v => (List.range 8).all (fun q =>
      !d.contends r out v q || decide (k < d.outRank r out v q) ||
        (decide (k = d.outRank r out v q) && decide (d.turn r out vc src ≤ d.turn r out vc q))))

/-- A packet leaves by an output, which has then carried its packet of the cycle and served its source. -/
def sendVia (d : Dev) (r out vc src pkt : Nat) : Dev :=
  let x := d.router r
  (d.setRouter r { x with
    outAt := x.outAt.set 0 out (d.nocCycle + 1)
    lastIn := x.lastIn.set 0 (out * 5 + vc) ((src + 1) % 8) }).sendOut r out vc pkt

/-! ## Replication (R228) -/

/-- RT_STAT.REPL_FULL and RT_REPL_MAX, over the entries of the event and hint channels (R228, R247). -/
def showRepl (d : Dev) (r : Nat) : Dev :=
  let n := ((d.router r).repl.filter (fun e => e.vc == 0)).length
  (d.setFlag (Reg.rtStat r) 3 (decide (32 ≤ n))).maxReg (Reg.rtReplMax r) ((d.router r).repl.filter (fun e => decide (e.vc ≤ 1))).length

/-- A branch of the i-th entry of the replication buffer leaves; the entry frees with its last branch. -/
def sendBranch (r i : Nat) (b : Nat × Nat) (d : Dev) : Dev :=
  let l := (d.router r).repl
  match l[i]? with
  | none => d
  | some e =>
    let left := e.branches.erase b
    let l := if left.isEmpty then l.eraseIdx i else l.set i { e with branches := left }
    ((d.setRouter r { d.router r with repl := l }).sendVia r b.1 e.vc 7 b.2).showRepl r

/-- The packet at the head of an input buffer goes on. One that leaves by more than one output takes an entry of the
replication buffer, and its branches leave as their outputs are granted; each that does not leave at once counts in
RT_BRANCH_WAITS (R226, R228). -/
def forward (r port vc pkt : Nat) (d : Dev) : Dev :=
  match d.outsOf r port pkt with
  | [] => d.popBuf r port vc
  | [o] => if d.granted r o vc port then (d.popBuf r port vc).sendVia r o vc port pkt else d
  | os =>
    if (if vc = 1 then 8 else 32) ≤ ((d.router r).repl.filter (fun e => e.vc == vc)).length then d else
    let d := d.popBuf r port vc
    let i := (d.router r).repl.length
    let d := (d.setRouter r { d.router r with repl := (d.router r).repl ++ [⟨vc, os.map (fun o => (o, pkt))⟩] }).showRepl r
    let d := os.foldl (fun d o => if d.granted r o vc 7 then sendBranch r i (o, pkt) d else d) d
    d.bump (Reg.rtBranchWaits r) (match (d.router r).repl[i]? with
      | some e => e.branches.length
      | none => 0)

/-- A branch of an entry of the replication buffer leaves (R228): the first that its output is granted. -/
def branchSend (r : Nat) (d : Dev) : Dev :=
  let free (e : Repl) (b : Nat × Nat) : Bool := d.granted r b.1 e.vc 7
  match (d.router r).repl.findIdx? (fun e => e.branches.any (free e)) with
  | none => d
  | some i =>
    match ((d.router r).repl[i]?).bind (fun e => e.branches.find? (free e)) with
    | none => d
    | some b => sendBranch r i b d

/-! ## Device routes (R336, R337) -/

/-- The port of the route to a device and whether it is the reverse one; none where both are down. -/
def routeTo (d : Dev) (dev : Nat) : Option (Nat × Bool) :=
  let e := d.rn (Reg.lkRoute dev)
  let down := d.reg Reg.lkLinksDown
  if !bit e 31 then none
  else if d.reg (Reg.lkRoutePmask dev) &&& down == 0 then some (bits e 1 0, false)
  else if d.reg (Reg.lkRouteRmask dev) &&& down == 0 then some (bits e 5 4, true)
  else none

/-- A transit packet follows its own REV bit (R337). -/
def transitPort (d : Dev) (dev : Nat) (rev : Bool) : Option Nat :=
  let e := d.rn (Reg.lkRoute dev)
  let down := d.reg Reg.lkLinksDown
  let mask := if rev then d.reg (Reg.lkRouteRmask dev) else d.reg (Reg.lkRoutePmask dev)
  if bit e 31 && mask &&& down == 0 then some (if rev then bits e 5 4 else bits e 1 0) else none

/-- LK_ROUTEd_STAT (R337, R347). -/
def showRoutes (d : Dev) : Dev :=
  (List.range 16).foldl (fun d v =>
    if !d.flag (Reg.lkRoute v) 31 then d else
    match d.routeTo v with
    | some (_, rev) => d.setFld (Reg.lkRouteStat v) 1 0 (b2n rev)
    | none => d.setFld (Reg.lkRouteStat v) 1 0 2) d

/-- Board shapes of R333 that are tori: codes 9 to 11 of the description's shape word (log entry 15). -/
def isTorus (d : Dev) : Bool := decide (9 ≤ d.board.shape)

/-- The set in which a copy leaves by a port: 1 from a WRAP link on; in a torus 0 again when it turns from X to Y (R339). -/
def setOut (d : Dev) (port set : Nat) (turns : Bool := false) : Nat :=
  if d.flag (Reg.lkPortCfg port) 21 then 1 else if d.isTorus && turns then 0 else set

/-- An egress entry can be reserved (R339). -/
def canReserve (d : Dev) (p v : Nat) : Bool :=
  decide (((d.port p).egress.get [] v).length + (d.port p).reserved.get 0 v < 64)
def reserve (d : Dev) (p v : Nat) : Dev :=
  let x := d.port p
  d.setPort p { x with reserved := x.reserved.set 0 v (x.reserved.get 0 v + 1) }

/-! ## Injection (R229-R232) -/

/-- Devices named by a mask: the own device first, then the others ascending (R231). -/
def devList (d : Dev) (mask : Nat) : List Nat :=
  (if bit mask d.ownDev then [d.ownDev] else []) ++ (maskBits 16 mask).filter (· != d.ownDev)

/-- A packet reaches the injection port. -/
def toInject (d : Dev) (r port pkt : Nat) : Dev :=
  let devs := d.devList (pkDev pkt)
  if devs.isEmpty then d
  else d.setRouter r { d.router r with inject := (d.router r).inject ++ [⟨pkt, devs, port⟩] }

/-- Group codes on packets from J and G act as 0 and are counted (R229). -/
def plainGroup (d : Dev) (r pkt : Nat) : Dev × Nat :=
  if bits pkt 79 76 = 0 then (d, pkt) else (d.bump (Reg.rtGrpInvalid r), putBits pkt 79 76 0)

/-- RT_POND, RT_POND_MAX and RT_STAT.POND_FULL (R230, R247). -/
def showPond (d : Dev) (r : Nat) : Dev :=
  let n := (d.router r).pond.length
  ((d.setReg (Reg.rtPond r) n).maxReg (Reg.rtPondMax r) n).setFlag (Reg.rtStat r) 2 (decide (4096 ≤ n))

/-- The router takes the next packet from its NC: group, pond or injection (R229, R230). -/
def takeNc (r : Nat) (d : Dev) : Dev :=
  match (d.router r).fromNc with
  | [] => d
  | pkt :: rest =>
    if 4096 ≤ (d.router r).pond.length then d else
    let d := d.setRouter r { d.router r with fromNc := rest }
    let g := bits pkt 79 76
    let pkt := putBits pkt 79 76 0
    let e := d.rn (Reg.rtGrpCtl r g)
    if g = 0 then d.toInject r pL pkt
    else if !bit e 31 then (d.bump (Reg.rtGrpInvalid r)).toInject r pL pkt
    else
      let pkt := if bit e 30 then
        putBits (putBits pkt 35 20 (d.fld (Reg.rtGrpRow r g) 15 0)) 51 36 (d.fld (Reg.rtGrpCol r g) 15 0) else pkt
      let delay := bits e 5 0
      if delay = 0 then d.toInject r pL pkt
      else
        let t := fullTick (d.router r).openTick (pkTick pkt)
        let pkt := putBits pkt 95 80 (t + delay)
        (d.setRouter r { d.router r with pond := (d.router r).pond ++ [⟨(t + delay - 1) % 2 ^ 32, pkt⟩] }).showPond r

/-- The place of a copy in the replay store (R338, log entry 140). -/
def replayAddr (d : Dev) (r dev seq : Nat) : Nat :=
  let w := max 1 (d.fld (Reg.rtWin r) 8 0)
  d.rn Reg.lkReplayBase + ((16 * r + dev) * w + seq % w) * 16

/-- Cycles of a wait until now. -/
def waited (d : Dev) (o : Option Nat) : Nat :=
  match o with
  | some t => d.nocCycle - t
  | none => 0

/-- The waits of an injection port end, and their cycles are counted (R247). -/
def endWaits (d : Dev) (r : Nat) : Dev :=
  let x := d.router r
  let d := (d.bump (Reg.rtWinWaits r) (d.waited x.winFrom)).bump (Reg.rtHintWaits r) (d.waited x.hintFrom)
  d.setRouter r { x with winFrom := none, hintFrom := none }

/-- The head of the injection queue has sent a copy: one in a cycle (R231). -/
def sentCopy (d : Dev) (r : Nat) : Dev :=
  let d := d.endWaits r
  let x := d.router r
  match x.inject with
  | [] => d
  | i :: is =>
    let l := if i.devs.length ≤ 1 then is else { i with devs := i.devs.drop 1 } :: is
    d.setRouter r { x with inject := l, outAt := x.outAt.set 0 6 (d.nocCycle + 1) }

/-- The injection port starts to wait for its window, RT_STAT.INJ_HELD, or for a hint's way. -/
def winWait (d : Dev) (r : Nat) : Dev :=
  let x := d.router r
  d.setRouter r { x with winFrom := some (x.winFrom.getD d.nocCycle) }
def hintWait (d : Dev) (r : Nat) : Dev :=
  let x := d.router r
  d.setRouter r { x with hintFrom := some (x.hintFrom.getD d.nocCycle) }

/-- send_copy (R232): the next copy of the injection port goes to the mesh or toward its egress gateway, once its window,
its reservation and a buffer entry allow. -/
def sendCopy (r : Nat) (d : Dev) : Dev :=
  match (d.router r).inject with
  | [] => takeNc r d
  | i :: _ =>
    if !d.outIdle r 6 then d
    else if tagPort i.pkt ≠ 0 then
      -- a replayed copy (R338): no window and no second count
      let p := tagPort i.pkt - 1
      let v := vcOf (pkClass i.pkt) + 4 * tagSet i.pkt
      if !d.bufRoom r pL 0 || !d.canReserve p v then d else ((d.reserve p v).pushBuf r pL 0 i.pkt).sentCopy r
    else
    let dev := i.devs.headD 0
    let x := d.router r
    let own := dev == d.ownDev
    let event := pkClass i.pkt == clsEvt
    let vc := vcOf (pkClass i.pkt)
    let seq := x.nextSeq.get 0 dev
    if !own && (d.routeTo dev).isNone then
      (((d.bump Reg.lkUnreach).showRoutes).noteSplit 3 dev).sentCopy r
    else if !own && event && decide (max 1 (d.fld (Reg.rtWin r) 8 0) ≤ (seq + 4096 - x.acked.get 0 dev) % 4096) then
      d.winWait r
    else
      let route := (d.routeTo dev).getD (0, false)
      let set := d.setOut route.1 0
      let v := vc + 4 * set
      if !d.bufRoom r i.port vc || (!own && !d.canReserve route.1 v) then
        (if event then d else d.hintWait r)
      else
        let copy := putBits (putBits i.pkt 19 4 (2 ^ dev)) 107 96 (if event then seq else 0)
        let t := fullTick x.openTick (pkTick copy)
        let d := if event then
            (d.setRouter r { x with nextSeq := x.nextSeq.set 0 dev ((seq + 1) % 4096) }).countSent r t (deliveries copy)
          else d
        let d := d.bump (Reg.rtInjected r)
        if own then (d.pushBuf r i.port vc copy).sentCopy r
        else
          let copy := putBits copy 127 127 (b2n route.2)
          let d := if event then d.putNum (d.replayAddr r dev seq) 16 copy else d
          ((d.reserve route.1 v).pushBuf r i.port vc (tagged copy set d.ownDev dev route.1)).sentCopy r

/-- on_completion (R232). -/
def takeCompletion (r : Nat) (d : Dev) : Dev :=
  let x := d.router r
  match x.cpls with
  | [] => d
  | c :: cs =>
    let dev := bits c 55 52
    let ack := bits c 71 60
    let a := x.acked.get 0 dev
    let d := d.setRouter r { x with cpls := cs }
    if (ack + 4096 - a) % 4096 ≤ (x.nextSeq.get 0 dev + 4096 - a) % 4096 then
      d.setRouter r { d.router r with acked := x.acked.set 0 dev ack }
    else d.bump (Reg.rtCplStale r)

/-- An NC emits a packet into its router (R200, R224). -/
def emit (d : Dev) (n pkt : Nat) : Dev := d.setRouter n { d.router n with fromNc := (d.router n).fromNc ++ [pkt] }

end Dev

end Sys2Proof.Machine
end

