-- ==== Sys2Proof/Machine/Timebase.lean ====
section
/-! DEFINITION. The timebase: capture, load, disciplining, TIMESYNC, SYSREF, PPS and clock outputs, compare units
(R32-R54, R340, R341, R501). -/

namespace Sys2Proof.Machine

namespace Dev

/-- TB_STAT fields (R62). -/
def tbState (d : Dev) : Nat := d.fld Reg.tbStat 2 0
def setTbState (s : Nat) (d : Dev) : Dev := d.setFld Reg.tbStat 2 0 s
def tbJob (d : Dev) : Bool := d.flag Reg.tbStat 6
def refsel (d : Dev) : Nat := d.fld Reg.tbCtl 1 0

/-- TB_FREQ_ADJ takes a correction that the manual leaves to the loop: a free value within ±100 ppm (R38). -/
def freeAdj (d : Dev) : Dev :=
  (d.setReg Reg.tbFreqAdj (unsignedOf 32 (((d.freeVal.toNat % 200000001 : Nat) : Int) - 100000000))).drew

/-- Entry into HOLDOVER: counted, the correction frozen at its mean over 16 s, a free value; from FREE, where no correction is
in force, it stays 0 (R36, R37). -/
def holdover (d : Dev) : Dev :=
  if d.tbState = 3 then d else
  let e := (d.setTbState 3).bump Reg.tbHoldEntries
  if d.tbState = 0 then e else e.freeAdj

/-- FREE: no correction is in force (R36). -/
def freeRun (d : Dev) : Dev := (d.setTbState 0).setReg Reg.tbFreqAdj 0

/-- A state that slews toward its source, with the correction of its loop (R36, R38). -/
def disciplined (s : Nat) (d : Dev) : Dev := (d.setTbState s).freeAdj

/-- The selected source is present (R36). -/
def sourcePresent (d : Dev) : Bool :=
  if d.refsel = 3 then d.flag Reg.tbStat 5 else d.refsel != 0 && d.flag Reg.tbStat 3

/-! ## Capture and load (R35, R39) -/

/-- The TBC is copied into the capture registers. -/
def captureTbc (d : Dev) : Dev :=
  (d.setReg64 Reg.tbCapLo Reg.tbCapHi d.tb.tbc).setReg Reg.tbCapFine 0

/-- TB_LOAD.ARM between jobs. -/
def loadArm (d : Dev) : Dev :=
  if d.tbJob then d else
  { d with tb := { d.tb with loadPend := some (d.rn64 Reg.tbLoadLo Reg.tbLoadHi) } }.setFlag Reg.tbStat 7 true

/-- A pending load is cancelled when a job is armed (R39). -/
def loadCancel (d : Dev) : Dev :=
  if d.tb.loadPend.isNone then d
  else ({ d with tb := { d.tb with loadPend := none } }.setFlag Reg.tbStat 7 false).bump Reg.tbLoadCancels

/-! ## SYSREF (R45-R47, R50, R501) -/

def sys (d : Dev) (n : Nat) : Sysref := d.tb.sysref.get {} n
def setSys (d : Dev) (n : Nat) (x : Sysref) : Dev := { d with tb := { d.tb with sysref := d.tb.sysref.set {} n x } }
def sysMode (d : Dev) (n : Nat) : Nat := d.fld (Reg.sysCtl n) 1 0

/-- The first grid point at or after a count; a PERIOD of 0 lies outside its bounds and gives no grid (R45, R62). -/
def gridAt (d : Dev) (n t : Nat) : Option Nat :=
  let p := d.rn (Reg.sysPeriod n)
  if p = 0 then none else some (t + (d.rn (Reg.sysPhase n) % p + p - t % p) % p)

/-- SYSn_STAT.RUN (R47). -/
def showSys (d : Dev) (n : Nat) : Dev := d.setFlag (Reg.sysStat n) 0 (d.sysMode n != 0 || (d.sys n).pulseEnd.isSome)

/-- A trigger reaches a channel: from FIRE or a compare match (R46, R47). -/
def sysTrigger (d : Dev) (n : Nat) : Dev :=
  let x := d.sys n
  if d.sysMode n ≠ 3 || x.next.isSome || (x.shot && x.pulseEnd.isSome) then d.bump (Reg.sysIgnored n)
  else (d.setSys n { x with next := d.gridAt n (d.tb.tbc + 16) }).setFlag (Reg.sysStat n) 1 false

/-- A write of SYSn_CTL: WIDTH under its lock, then MODE, then FIRE against the new mode. A MODE written with the value in
force keeps the grid in use (log entry 11). -/
def sysCtlWrite (n v : Nat) (d : Dev) : Dev :=
  let run := d.flag (Reg.sysStat n) 0
  let was := d.sysMode n
  let d := if run then d else d.setFld (Reg.sysCtl n) 15 8 (bits v 15 8)
  let d := (d.setFld (Reg.sysCtl n) 1 0 (bits v 1 0)).setFlag (Reg.sysStat n) 1 false
  let d := if bits v 1 0 = was then d else
    let g := if bits v 1 0 = 1 ∨ bits v 1 0 = 2 then d.gridAt n (d.tb.tbc + 16) else none
    d.setSys n { d.sys n with next := g, gapPos := 0 }
  let d := if bit v 31 then d.sysTrigger n else d
  d.showSys n

/-- A pulse begins at count t. -/
def sysBegin (n t : Nat) (d : Dev) : Dev :=
  let d := d.setSys n { d.sys n with pulseEnd := some (t + d.fld (Reg.sysCtl n) 15 8), shot := d.sysMode n == 3 }
  ((d.bump (Reg.sysPulses n)).showSys n).sysrefAtIntake n t

/-- The count comes to t: a pulse whose last period is over ends, with DONE after ONE_SHOT (R46). -/
def sysOver (n t : Nat) (d : Dev) : Dev :=
  let x := d.sys n
  if x.pulseEnd != some t then d else
  let d := d.setSys n { x with pulseEnd := none, shot := false }
  (if x.shot then d.setFlag (Reg.sysStat n) 1 true else d).showSys n

/-- The channel's pad is released at the grid point t; the group's bit is 0 once every channel's is (R416). -/
def sysFreed (n t : Nat) (d : Dev) : Dev :=
  if (d.sys n).held != some t then d else
  let d := d.setSys n { d.sys n with held := none }
  if (List.range 8).any (fun m => (d.sys m).held.isSome) then d else d.setFlag Reg.pwrPadHold 0 false

/-- The count comes to t: a pulse may end, and the channel's grid point at t has its pulse, or in the silent part of a GAPPED
sequence none; a WIDTH of 0 gives a pulse of no length, and a COUNT of 0 acts as 1 (R45, R46, log entry 132). -/
def sysAt (n t : Nat) (d : Dev) : Dev :=
  let d := sysFreed n t (sysOver n t d)
  let x := d.sys n
  if x.next != some t then d else
  let count := max 1 (d.fld (Reg.sysGap n) 7 0)
  let cyc := count + d.fld (Reg.sysGap n) 31 16
  let gapped := d.sysMode n == 2
  let next := if d.sysMode n = 3 then none else some (t + max 1 (d.rn (Reg.sysPeriod n)))
  let d := d.setSys n { x with next := next, gapPos := if gapped then (x.gapPos + 1) % cyc else 0 }
  if gapped && decide (count ≤ x.gapPos) then d else sysOver n t (sysBegin n t d)

/-- The next count at which a channel has something to do. -/
def sysDue (d : Dev) (n : Nat) : List Nat := (d.sys n).next.toList ++ (d.sys n).pulseEnd.toList ++ (d.sys n).held.toList

/-! ## Disciplining (R36, R37) -/

/-- A write of TB_CTL while no job runs. A source newly selected is acquired; REFSEL 0 runs free, but in NAP, where the PLL
follows XT32, it is in HOLDOVER until the PLL is back on REFCLK; a slave in FREE waits for its first exchange (R36, R43, R359, log entry 105). -/
def tbCtlWrite (v : Nat) (d : Dev) : Dev :=
  if d.tbJob then d else
  let was := d.refsel
  let d := d.setReg Reg.tbCtl (v % 8)
  let now := d.refsel
  if now = was then d
  else if now = 0 then (if d.pwrState = psNap then d.holdover else d.freeRun)
  else if d.tbState = 3 || (d.tbState == 0 && now == 3) then d
  else disciplined 1 d

/-- Four expected edges of TB_REF_IN are missing (R37). Of the states that TB_REF_IN disciplines, only LOCKED is left by the
loss (R36). -/
def refLost (d : Dev) : Dev :=
  let d := d.setFlag Reg.tbStat 3 false
  if (d.refsel = 1 ∨ d.refsel = 2) ∧ d.tbState = 2 then d.holdover else d

/-- A TB_PPS_IN edge is missing by more than 1 ms (R37). -/
def ppsLost (d : Dev) : Dev :=
  let d := d.setFlag Reg.tbStat 4 false
  if d.flag Reg.tbCtl 2 && d.tbState == 2 then d.holdover else d

/-- The 1 s dwell ends (R36). -/
def dwellEnd (d : Dev) : Dev :=
  if !d.sourcePresent then d
  else if d.tbState = 1 then disciplined (if d.refsel = 3 then 4 else 2) d
  else if d.tbState = 3 then disciplined 1 d
  else d

/-! ## PPS output (R51) -/

/-- Periods of a timebase second. -/
def tbSecond : Nat := 1600000000

/-- TB_PPSO.PHASE in periods. -/
def ppsPhase (d : Dev) : Nat := d.fld Reg.tbPpso 31 15 * 2 ^ 14

/-- The next count at which TB_PPS_OUT rises. -/
def ppsNext (d : Dev) : Nat :=
  d.tb.tbc + 1 + (d.ppsPhase % tbSecond + tbSecond - (d.tb.tbc + 1) % tbSecond) % tbSecond

/-- The count comes to t: TB_PPS_OUT falls after WIDTH_MS, or rises at its phase of the timebase second. -/
def ppsAt (t : Nat) (d : Dev) : Dev :=
  let d := if d.tb.ppsFall != some t then d
    else { d with pins := { d.pins with ppsOut := false }, tb := { d.tb with ppsFall := none } }
  if !d.flag Reg.tbPpso 0 || t % tbSecond != d.ppsPhase % tbSecond then d else
  let d := d.setFlag Reg.pwrPadHold 1 false
  { d with
    pins := { d.pins with ppsOut := true }
    tb := { d.tb with ppsFall := some (t + d.fld Reg.tbPpso 9 1 * 1600000) } }

/-- The next counts at which TB_PPS_OUT has something to do. -/
def ppsDue (d : Dev) : List Nat := (if d.flag Reg.tbPpso 0 then [d.ppsNext] else []) ++ d.tb.ppsFall.toList

/-- A write of TB_PPSO: PHASE and WIDTH_MS are held to their ranges, and EN = 0 drives the output low (R51, R62, log entry
140). -/
def ppsoWrite (v : Nat) (d : Dev) : Dev :=
  let w := bits v 9 1
  let w := if w = 0 then 1 else min w 500
  let d := d.setReg Reg.tbPpso (min (bits v 31 15) 97656 * 2 ^ 15 + w * 2 + v % 2)
  if bit v 0 then d else { d with pins := { d.pins with ppsOut := false }, tb := { d.tb with ppsFall := none } }

/-! ## Trigger-output timing (R293, R431) -/

def trigOut (d : Dev) (p : Nat) : TrigOut := d.trigOuts.get {} p

def setTrigOut (d : Dev) (p : Nat) (x : TrigOut) : Dev := { d with trigOuts := d.trigOuts.set {} p x }

/-- The levels that the pins of TRIG_OUT take at the next edge that times them: active from a pulse's leading edge for its
length, at the level of POL (R293, R296). -/
def trigLevels (d : Dev) (t : Nat) : Nat :=
  (List.range 8).foldl (fun v p =>
    let x := d.trigOut p
    v + b2n ((x.phase == .width && decide (x.since ≤ t)) != d.flag (Reg.trgoCtl p) 1) * 2 ^ p) 0

/-- WIDTH and HOLDOFF of TRGOp_TIME (R293, R296). -/
def trgoTime (d : Dev) (p : Nat) : Nat × Nat := (d.fld (Reg.trgoTime p) 15 0, d.fld (Reg.trgoTime p) 31 16)

/-- The smallest whole number of SENT_CLK periods, of 3,125/24 TBC periods, that covers a time (R431). -/
def sentPeriods (v : Nat) : Nat := ceilDiv (v * 24) 3125

/-- A phase of an output that begins at a count and lasts v periods. -/
def trigRun (ph : TrigPhase) (t v : Nat) : TrigOut := ⟨ph, t, t + v, sentPeriods v⟩

/-- An output's present phase ends at count t: after WIDTH the pin is inactive and HOLDOFF runs, unless it is 0 (R293). -/
def trigPhase (p t : Nat) (d : Dev) : Dev :=
  d.setTrigOut p (if (d.trigOut p).phase = .width ∧ (d.trgoTime p).2 ≠ 0 then trigRun .holdoff t (d.trgoTime p).2 else {})

/-- Outputs that time a pulse or a hold-off. -/
def trigBusy (d : Dev) : List Nat := (List.range 8).filter (fun p => (d.trigOut p).phase != .idle)

/-- One TB_CLK edge at count t times the outputs and drives their pins. -/
def trigTick (t : Nat) (d : Dev) : Dev :=
  let d := (d.trigBusy.filter (fun p => decide ((d.trigOut p).fin ≤ t))).foldl (fun d p => trigPhase p t d) d
  { d with pins := { d.pins with trigOut := d.trigLevels t } }

/-- The next counts at which an output's pin or phase may change. -/
def trigDue (d : Dev) : List Nat :=
  d.trigBusy.map (fun p => max (d.trigOut p).fin (d.tb.tbc + 1)) ++
    (if d.pins.trigOut = d.trigLevels d.tb.tbc && d.trigBusy.all (fun p => decide ((d.trigOut p).since ≤ d.tb.tbc)) then []
     else [d.tb.tbc + 1])

/-- One SENT_CLK period of the outputs in SENTINEL (R431). -/
def trigSent (d : Dev) : Dev :=
  let d := d.trigBusy.foldl (fun (d : Dev) p =>
    let x := d.trigOut p
    if x.left ≤ 1 then trigPhase p 0 d else d.setTrigOut p { x with left := x.left - 1 }) d
  { d with pins := { d.pins with trigOut := d.trigLevels d.tb.tbc } }

/-! ## Compare units (R53, R54) -/

/-- A write of TBCMPn_LO arms the unit with the 64-bit value. -/
def cmpArm (n lo : Nat) (d : Dev) : Dev :=
  let d := (d.setReg (Reg.tbcmpLo n) lo).setFlag (Reg.tbcmpStat n) 0 true
  { d with tb := { d.tb with cmp := d.tb.cmp.set 0 n (d.rn64 (Reg.tbcmpLo n) (Reg.tbcmpHi n)) } }

/-- The value that a unit is armed with, and whether it is armed. -/
def cmpValue (d : Dev) (n : Nat) : Nat := d.tb.cmp.get 0 n
def cmpArmed (d : Dev) (n : Nat) : Bool := d.flag (Reg.tbcmpStat n) 0

/-- An armed unit's actions, and its disarming. A timer that stops in the same step is not started (R58). -/
def cmpFire (stops : List Nat) (n : Nat) (d : Dev) : Dev :=
  let c := d.rn (Reg.tbcmpCtl n)
  let d := d.setFlag (Reg.tbcmpStat n) 0 false
  let d := if bit c 0 then d.tbInterrupt else d
  let d := (maskBits 8 (bits c 15 8)).foldl sysTrigger d
  ((maskBits 16 (bits c 31 16)).filter (fun o => !stops.contains o)).foldl (gtSetRun true) d

/-! ## The crossbar (R55, R292, R293, R431) -/

/-- The time that a capture or a Sentinel log entry takes: the live TBC, or in SENTINEL the keeper's, advanced by 130.208
periods for each SENT_CLK period since its last XT32 edge (R431). -/
def captureTime (d : Dev) : Nat := if d.inSentinel then d.tb.tbc + d.tb.sent * 130208 / 1000 else d.tb.tbc

/-- A qualifying pulse at an output: it starts a pulse at the next TB_CLK edge, or is suppressed. What qualifies in one period
is one pulse, the OR of its sources (R293, log entry 140). -/
def trigOutPulse (d : Dev) (p : Nat) : Dev :=
  if !d.flag (Reg.trgoCtl p) 0 || bit d.tb.outAt p then d else
  let d := { d with tb := { d.tb with outAt := putBits d.tb.outAt p p 1 } }
  if (d.trigOut p).phase ≠ .idle then d.bump (Reg.trgoSuppressed p)
  else
    let t := if d.inSentinel then d.captureTime else d.tb.tbc + 1
    let d := d.setTrigOut p (trigRun .width t (d.trgoTime p).1)
    let d := (d.setReg64 (Reg.trgoCapLo p) (Reg.trgoCapHi p) t).bump (Reg.trgoSeq p)
    if d.inSentinel then { d with pins := { d.pins with trigOut := d.trigLevels t } } else d

/-- A crossbar line's level of 1 covers an active edge of a timer's clock (R55): of a TB-derived clock where the coming TB_CLK
edge is one; in SENTINEL of SENT_CLK always, and of XT32 where the coming SENT_CLK edge is one. Where the two clocks' phase is
open, a free value says (log entry 2). -/
def gateCovers (d : Dev) (o : Nat) : Bool :=
  let c := d.gtClk o
  if d.inSentinel then decide (12 ≤ o) && (c == 4 || (c == 5 && d.tb.sent == 374))
  else if clkTimed c then clkEdges c (d.tb.tbc + 1) != clkEdges c d.tb.tbc
  else decide (6 ≤ c) && decide (c ≤ 7) && bit d.freeVal.toNat o

/-- Timers that crossbar lines gate: where the level of 1 opens the gate they step at the edge that it covers, and where it
closes the gate they hold there (R55). -/
def gateEdges (lines : Nat) (d : Dev) : Dev :=
  let os := d.gtOwners.filter (fun o =>
    let c := d.rn (Reg.gtCtl o)
    bits c 7 6 == 3 && bit lines (bits c 15 12) && bit c 0)
  let covered := os.filter d.gateCovers
  let steps := covered.filter (fun o => !d.flag (Reg.gtCtl o) 5)
  let holds := covered.filter (fun o => d.flag (Reg.gtCtl o) 5)
  let d := if os.any (fun o => !clkTimed (d.gtClk o)) then d.drew else d
  let d := holds.foldl (fun (d : Dev) o => d.setGt o { d.gt o with skip := (d.gt o).skip + 1 }) d
  -- the gate is open for this one edge and for the actions of its step
  let d := gtEdges steps (steps.foldl (fun d o => d.setFld (Reg.gtCtl o) 7 6 0) d)
  steps.foldl (fun d o => d.setFld (Reg.gtCtl o) 7 6 3) d

/-- Pulses on crossbar lines, as a mask. A line that is at 1 already stays at 1, and an output takes the OR of its lines (R292,
R293). -/
def crossbarPulse (lines : Nat) (d : Dev) : Dev :=
  let new := lines &&& (0xFFFF ^^^ d.tb.lineAt)
  let d := { d with tb := { d.tb with lineAt := d.tb.lineAt ||| new } }
  let d := (List.range 8).foldl (fun d p => if d.fld (Reg.trgoCtl p) 31 16 &&& new ≠ 0 then d.trigOutPulse p else d) d
  if d.tbOn || d.inSentinel then d.gateEdges new else d

/-- The network lines are live: not in basic mode and not in SENTINEL (R292). -/
def networkOn (d : Dev) : Bool := d.fld Reg.pwrStat 18 16 != 3 && d.fld Reg.pwrStat 18 16 != 7

/-- A network line's pulse is taken from its crossing, or waits there while the line carries one (R55, R292, R453). -/
def linePulse (line : Nat) (d : Dev) : Dev :=
  if !d.networkOn then d else
  let d := d.bump (Reg.trgLinePulses line)
  if bit d.tb.lineAt line then { d with tb := { d.tb with lineDue := d.tb.lineDue.set 0 line (d.tb.lineDue.get 0 line + 1) } }
  else crossbarPulse (2 ^ line) d

/-- The crossings give one waiting pulse of each line. -/
def linesTaken (d : Dev) : Dev :=
  let due := (d.tb.lineDue.cells.map (·.1)).filter (fun l => d.tb.lineDue.get 0 l != 0)
  let d := due.foldl (fun (d : Dev) l => { d with tb := { d.tb with lineDue := d.tb.lineDue.set 0 l (d.tb.lineDue.get 0 l - 1) } }) d
  if due.isEmpty then d else crossbarPulse ((due.map (2 ^ ·)).sum) d

/-! ## The passage of time (R32) -/

/-- A new period: the crossbar lines are at 0 again. -/
def linesDown (d : Dev) : Dev := { d with tb := { d.tb with lineAt := 0, outAt := 0 } }

/-- One TB_CLK period: the TBC steps, the timers whose clock has an edge step, compare units match, SYSREF channels, the PPS
output and the trigger outputs do what falls at the new count. -/
def tbTick (d : Dev) : Dev :=
  let t := d.tb.tbc + 1
  let os := d.gtOwners.filter (fun o => clkEdges (d.gtClk o) t != clkEdges (d.gtClk o) d.tb.tbc)
  let r := gtSteps os d
  let stops := gtStops r.2 r.1
  let d := ((gtActions r.2 r.1).setTime t).linesDown
  let d := (List.range 4).foldl (fun d n => if d.cmpArmed n && d.cmpValue n == t then cmpFire stops n d else d) d
  let d := (List.range 8).foldl (fun d n => sysAt n t d) d
  linesTaken (trigTick t (ppsAt t d))

/-- The counts at which a period does more than count. -/
def tbDues (d : Dev) : List Nat :=
  d.gtOwners.filterMap d.gtDue ++ ((List.range 4).filter d.cmpArmed).map d.cmpValue ++ (List.range 8).flatMap d.sysDue ++
    d.ppsDue ++ d.trigDue ++ (if d.tb.lineDue.cells.isEmpty then [] else [d.tb.tbc + 1])

/-- The first count after the present at which a period does more than count, at most t. -/
def tbNext (d : Dev) (t : Nat) : Nat := (d.tbDues.filter (fun x => decide (d.tb.tbc < x))).foldl min t

/-- Time passes to count t in at most n periods that do more than count. -/
def tbPass (t : Nat) : Nat → Dev → Dev
  | 0, d => d
  | n + 1, d =>
    if t ≤ d.tb.tbc then d else
    let e := d.tbNext t - 1
    tbPass t n (tbTick (if e ≤ d.tb.tbc then d else (d.gtOwners.foldl (gtGlide d.tb.tbc e) d).setTime e))

/-- Time passes to a count of the TBC, period by period, while TB_CLK runs (R32, R61, log entry 10). -/
def advanceTo (d : Dev) (t : Nat) : Dev := if d.tbOn then tbPass t (t - d.tb.tbc) d else d

/-- Timers that count in SENTINEL on a clock (R61). -/
def sentOwners (d : Dev) (c : Nat) : List Nat := d.gtOwners.filter (fun o => decide (12 ≤ o) && d.gtClk o == c)

/-- The keeper counts k XT32 edges: 48,828 or 48,829 periods each, 48,828.125 in the mean (R61). -/
def keeperAdd (d : Dev) (k : Nat) : Dev :=
  { d with tb := { d.tb with tbc := d.tb.tbc + 48828 * k + (d.tb.keeper + k) / 8, keeper := (d.tb.keeper + k) % 8 } }

/-- One SENT_CLK period in SENTINEL, 375 of which make an XT32 period: GT12-GT15 step on the two clocks, and the trigger
outputs time their pulses (R61, R431). -/
def sentStep (d : Dev) : Dev :=
  let edge := decide (375 ≤ d.tb.sent + 1)
  let d := { d with tb := { d.tb with sent := (d.tb.sent + 1) % 375 } }.linesDown
  let d := trigSent (if edge then d.keeperAdd 1 else d)
  gtEdges (if edge then d.sentOwners 4 ++ d.sentOwners 5 else d.sentOwners 4) d

/-- SENT_CLK periods in which timers and the keeper only count, at most k. -/
def sentQuiet (d : Dev) (k : Nat) : Nat :=
  let steady (o : Nat) : Bool := !d.gtWaiting o && (d.gt o).skip == 0
  let os := d.sentOwners 4 ++ d.sentOwners 5
  if !os.all steady || !d.trigBusy.isEmpty || d.pins.trigOut != d.trigLevels d.tb.tbc then 0 else
  (os.filter d.gtCounting).foldl (fun m o =>
    min m (if d.gtClk o = 4 then d.gtDistance o - 1 else 375 * d.gtDistance o - d.tb.sent - 1)) k

/-- k SENT_CLK periods in which timers and the keeper only count. -/
def sentGlide (k : Nat) (d : Dev) : Dev :=
  let s := d.tb.sent + k
  let up (n : Nat) (d : Dev) (o : Nat) : Dev := if d.gtCounting o then d.setGtCount o (d.gtCount o + n) else d
  let d := (d.sentOwners 5).foldl (up (s / 375)) ((d.sentOwners 4).foldl (up k) d)
  { d with tb := { d.tb with sent := s % 375 } }.keeperAdd (s / 375)

/-- k SENT_CLK periods in SENTINEL, in at most n that do more than count. -/
def sentPass : Nat → Nat → Dev → Dev
  | 0, _, d => d
  | n + 1, k, d =>
    if k = 0 then d else
    let q := d.sentQuiet (k - 1)
    sentPass n (k - q - 1) (sentStep (if q = 0 then d else sentGlide q d))

/-- The coming k active edges of a timer's clock: time passes to the last of them, in SENTINEL by SENT_CLK periods. Edges of
the race tick boundary and of TB_PPS_IN come to this timer alone (log entry 104). -/
def gtWait (o k : Nat) (d : Dev) : Dev :=
  let c := d.gtClk o
  if d.inSentinel then
    let m := if c = 5 then 375 * k - d.tb.sent else k
    sentPass m m d
  else if clkTimed c then d.advanceTo (clkEdgeAt c d.tb.tbc k)
  else gtEdgesN o k k d

/-- A governing timer's edge with a pending write or reset, then its k-th further edge where it still counts and the first
edge has not counted in its register. -/
def gtRunTo (a o : Nat) (k : Dev → Nat) (d : Dev) : Dev :=
  if !d.gtCounting o || !d.gtClocked o then d else
  let e := if d.gtWaiting o then gtWait o 1 d else d
  if e.rn a ≠ d.rn a || !e.gtCounting o then e else gtWait o (k e + (e.gt o).skip) e

/-- GT_MATCH: the timer steps into its compare value (R56). -/
def gtMatchNow (n : Nat) (d : Dev) : Dev :=
  if d.gtOwner n ≠ n then d else
  gtRunTo (Reg.gtMatches n) n (fun e =>
    let m := 2 ^ e.gtBits n
    (e.gtCompare n + (m - 1) + (m - e.gtCount n)) % m + 1) d

/-- GT_OVERFLOW: the timer steps from all ones to 0 (R56). -/
def gtOverflowNow (n : Nat) (d : Dev) : Dev :=
  if d.gtOwner n ≠ n then d else gtRunTo (Reg.gtOvfs n) n (fun e => 2 ^ e.gtBits n - e.gtCount n) d

/-- GT_WRITE_APPLY: an active edge of a timer with a pending write or reset (R60). -/
def gtApplyNow (n : Nat) (d : Dev) : Dev :=
  let o := d.gtOwner n
  if !d.gtWaiting o || !d.gtClocked o then d else gtWait o 1 d

/-- The TBC steps into an armed unit's value, if that value still lies ahead. -/
def cmpMatch (n : Nat) (d : Dev) : Dev := if d.cmpArmed n then d.advanceTo (d.cmpValue n) else d

/-- A channel's next pulse begins: time passes to the channel's next grid point that is not silent (R45, R46). -/
def sysPulse (n : Nat) (d : Dev) : Dev :=
  let x := d.sys n
  let count := max 1 (d.fld (Reg.sysGap n) 7 0)
  let silent := if d.sysMode n = 2 ∧ count ≤ x.gapPos then count + d.fld (Reg.sysGap n) 31 16 - x.gapPos else 0
  match x.next with
  | none => d
  | some g => d.advanceTo (g + silent * d.rn (Reg.sysPeriod n))

/-- A pulse ends after WIDTH periods (R46, R47). -/
def sysPulseEnd (n : Nat) (d : Dev) : Dev :=
  match (d.sys n).pulseEnd with
  | none => d
  | some e => d.advanceTo e

/-- TB_PPS_OUT rises at its phase of the next timebase second. -/
def ppsRise (d : Dev) : Dev := if d.flag Reg.tbPpso 0 then d.advanceTo d.ppsNext else d

/-- TB_PPS_OUT falls. -/
def ppsDrop (d : Dev) : Dev :=
  match d.tb.ppsFall with
  | none => d
  | some t => d.advanceTo t

/-! ## Loads (R39, R43, R501) -/

/-- A load of value v at a count that becomes now: a sequence goes on at the first grid point above v that the count has not
passed, a pending ONE_SHOT pulse at the first at least 16 periods after v (R501, log entry 11). -/
def sysReload (v now before : Nat) (d : Dev) : Dev :=
  (List.range 8).foldl (fun d n =>
    let x := d.sys n
    let from_ (t : Nat) (p : Option Nat) : Option Nat := if p.isNone then none else d.gridAt n (max now t)
    let ends := x.pulseEnd.map (fun e => max now (v + (e - before)))
    sysAt n now (d.setSys n { x with
      next := from_ (if d.sysMode n = 3 then v + 16 else v + 1) x.next, pulseEnd := ends, held := from_ (v + 1) x.held })) d

/-- A load takes effect at the count now: what the TBC was before is v, so every grid and the LEMC phases move by the
difference, and what is timed in counts keeps its length (R39, R67, R501). -/
def loadTbc (v now : Nat) (d : Dev) : Dev :=
  let before := d.tb.tbc
  let back (t : Nat) : Nat := v - min v (before - t)
  let ahead (t : Nat) : Nat := max now (v + (t - before))
  let out (x : TrigOut) : TrigOut := if x.phase = .idle then x else { x with since := back x.since, fin := ahead x.fin }
  let d : Dev := { d with
    tb := { d.tb with tbc := v, clkRise := back d.tb.clkRise, ppsFall := d.tb.ppsFall.map ahead }
    links := ⟨d.links.cells.map (fun (c : Nat × Link) => (c.1, { c.2 with lemc := c.2.lemc.map (· + (v : Int) - before) }))⟩
    trigOuts := ⟨d.trigOuts.cells.map (fun (c : Nat × TrigOut) => (c.1, out c.2))⟩
    pwr := { d.pwr with lastAct := back d.pwr.lastAct, since := back d.pwr.since, waveEnd := v + (d.pwr.waveEnd - before) } }
  ppsAt now (trigTick now (sysReload v now before (d.setTime now)))

/-- TB_PPS_IN edge (R39, R40, R55). A TB_PPS_PHASE of 1,600,000,000 or more is compared as it stands, and no edge is at it (log
entry 132). -/
def ppsEdge (fine : Nat) (d : Dev) : Dev :=
  if !d.tbOn then d else
  let d := d.setFlag Reg.tbStat 4 true
  let at_ := d.tb.loadPend.getD d.tb.tbc
  let d := match d.tb.loadPend with
    | some v => ({ d with tb := { d.tb with loadPend := none } }.setFlag Reg.tbStat 7 false).loadTbc v ((v + 6) % 2 ^ 64)
    | none => d
  let d := ((d.setReg64 Reg.tbPpsCapLo Reg.tbPpsCapHi at_).setReg Reg.tbPpsCapFine fine).bump Reg.tbPpsSeq
  let d := if d.flag Reg.tbCtl 2 && d.tbState == 2 && at_ % 1600000000 != d.rn Reg.tbPpsPhase then d.freeAdj else d
  d.gtClockEdge 7

/-! ## TIMESYNC (R42, R43, R340, R341) -/

def xch (d : Dev) (p : Nat) : Exchange := d.tb.xch.get {} p
def setXch (d : Dev) (p : Nat) (x : Exchange) : Dev := { d with tb := { d.tb with xch := d.tb.xch.set {} p x } }

/-- A TIMESYNC packet. -/
def tsPacket (kind xseq t1 d41 : Nat) : Nat :=
  5 + kind * 2 ^ 4 + xseq % 256 * 2 ^ 8 + t1 % 2 ^ 56 * 2 ^ 16 + d41 % 2 ^ 32 * 2 ^ 72

/-- Children of this parent: ports in use in the CHILDREN mask. -/
def syncChildren (d : Dev) : List Nat := (maskBits 4 (d.rn Reg.lkTsync)).filter d.inUse

/-- A parent sends a REQ to each child, whose t1 is stamped as it leaves. -/
def xchStart (fines : List (BitVec 8)) (d : Dev) : Dev :=
  let x := d.tb.xseq
  let d := d.syncChildren.foldl (fun d p =>
    (d.setXch p { d.xch p with isOpen := true, xseq := x }).sendTime p (tsPacket 0 x 0 0) d.tb.tbc ((fines.getD p 0).toNat)) d
  { d with tb := { d.tb with xseq := (x + 1) % 256 } }

/-- The port is the child's way to its parent. -/
def fromParent (d : Dev) (p : Nat) : Bool := !d.flag Reg.lkTsync 31 && d.syncPort == p && d.inUse p

/-- A child stamps t2, and replies; its t3 is stamped as the reply leaves. -/
def xchReq (p x f2 turn f3 : Nat) (d : Dev) : Dev :=
  if !d.fromParent p then d else
  let t2 := d.tb.tbc * 256 + f2
  (d.setXch p { d.xch p with isOpen := true, xseq := x, first := t2 }).sendTime p (tsPacket 1 x 0 0) (d.tb.tbc + turn) f3

/-- A parent stamps t4 and returns t1 and t4 − t1. -/
def xchReply (p x f4 : Nat) (d : Dev) : Dev :=
  let e := d.xch p
  if !d.syncChildren.contains p || !e.isOpen || e.xseq != x then d else
  let t4 := d.tb.tbc * 256 + f4
  (d.setXch p { e with isOpen := false }).sendTime p (tsPacket 2 x e.first (t4 - e.first)) d.tb.tbc 0

/-- The value congruent to t modulo 2^56 that is nearest r. -/
def nearest56 (t r : Nat) : Int :=
  let base : Int := (r / 2 ^ 56 * 2 ^ 56 + t % 2 ^ 56 : Nat)
  let r : Int := r
  if r - base > 2 ^ 55 then base + 2 ^ 56 else if base - r > 2 ^ 55 then base - 2 ^ 56 else base

/-- A child forms offset and delay, in half fine units, and loads or slews; in HOLDOVER the correction stays frozen (R37, R42,
R43). -/
def xchFollow (p x t1 d41 : Nat) (d : Dev) : Dev :=
  let e := d.xch p
  if !d.fromParent p || !e.isOpen || e.xseq != x then d else
  let s1 := nearest56 t1 e.first
  let s4 := s1 + (d41 : Int)
  let fwd := (e.first : Int) - s1
  let rev := s4 - (e.third : Int)
  let asym := signedOf 32 (d.rn (Reg.tbAsym p))
  let off := fwd - rev - asym
  let d := d.setXch p { e with isOpen := false }
  let d := { d with tb := { d.tb with syncFails := 0 } }
  let d := (d.setReg Reg.tbSyncOffset (unsignedOf 32 off)).setReg Reg.tbSyncDelay (unsignedOf 32 (fwd + rev + asym))
  let d := d.setFlag Reg.tbStat 5 true
  if d.refsel ≠ 3 then d
  else if d.tbState = 0 then
    if d.tbJob then d else
    let now := (((d.tb.tbc * 512 : Nat) : Int) - off) / 512
    disciplined 1 (d.loadTbc now.toNat now.toNat)
  else if off ≠ 0 ∧ d.tbState ≠ 3 then d.freeAdj else d

/-- The time-sync source is lost: SLAVE_LOCKED goes to HOLDOVER (R36, R37). -/
def syncLost (d : Dev) : Dev :=
  let d := d.setFlag Reg.tbStat 5 false
  if d.refsel = 3 ∧ d.tbState = 4 then d.holdover else d

/-- An exchange fails; three failures in a row lose the time-sync source, whatever ports they were on (R37, R340, R341). -/
def xchTimeout (p : Nat) (d : Dev) : Dev :=
  let d := d.setXch p { d.xch p with isOpen := false }
  if d.flag Reg.lkTsync 31 || d.syncPort != p then d else
  let d := { d with tb := { d.tb with syncFails := min 3 (d.tb.syncFails + 1) } }
  if d.tb.syncFails < 3 then d else d.syncLost

end Dev

open Dev

/-- What a step does on an empty queue: one TB_CLK period passes, in SENTINEL one SENT_CLK period (log entry 10). -/
def idleStep (s : State) : Host.Outcome State Fault Refusal :=
  onDev (fun d => if d.inSentinel then d.sentStep else if d.tbOn then d.tbTick else d) s

/-- TB_CAP_GO (R35). -/
def execTbCapGo (s : State) : Host.Outcome State Fault Refusal := onReg Reg.tbCap captureTbc s

/-- TB_LOAD_ARM (R39). -/
def execTbLoadArm (s : State) : Host.Outcome State Fault Refusal := onReg Reg.tbLoad loadArm s

/-- TB_CTL_WRITE (R36). -/
def execTbCtlWrite (v : Word) (s : State) : Host.Outcome State Fault Refusal := onReg Reg.tbCtl (tbCtlWrite v.toNat) s

/-- TB_PPS_IN_EDGE (R40). -/
def execTbPpsInEdge (fine : BitVec 8) (s : State) : Host.Outcome State Fault Refusal := onDev (ppsEdge fine.toNat) s

/-- REFERENCE_LOST (R37). -/
def execReferenceLost (s : State) : Host.Outcome State Fault Refusal := onDev refLost s

/-- PPS_LOST (R37). -/
def execPpsLost (s : State) : Host.Outcome State Fault Refusal := onDev ppsLost s

/-- LOCK_DWELL_EXPIRY (R36). -/
def execLockDwellExpiry (s : State) : Host.Outcome State Fault Refusal := onDev dwellEnd s

/-- REFERENCE_PRESENT (R36). -/
def execReferencePresent (s : State) : Host.Outcome State Fault Refusal := onDev (fun d => d.setFlag Reg.tbStat 3 true) s

/-- TIMESYNC_EXCHANGE_START (R42). -/
def execTimesyncExchangeStart (fines : List (BitVec 8)) (s : State) : Host.Outcome State Fault Refusal :=
  onDev (xchStart fines) s

/-- TIMESYNC_REQ (R42, R340). -/
def execTimesyncReq (p : Fin 4) (x f2 : BitVec 8) (turn : Nat) (f3 : BitVec 8) (s : State) :
    Host.Outcome State Fault Refusal := onDev (xchReq p x.toNat f2.toNat turn f3.toNat) s

/-- TIMESYNC_REPLY (R42, R340). -/
def execTimesyncReply (p : Fin 4) (x f4 : BitVec 8) (s : State) : Host.Outcome State Fault Refusal :=
  onDev (xchReply p x.toNat f4.toNat) s

/-- TIMESYNC_FOLLOW (R42, R43). -/
def execTimesyncFollow (p : Fin 4) (x : BitVec 8) (t1 : BitVec 56) (d41 : BitVec 32) (s : State) :
    Host.Outcome State Fault Refusal := onDev (xchFollow p x.toNat t1.toNat d41.toNat) s

/-- TIMESYNC_TIMEOUT (R37, R340). -/
def execTimesyncTimeout (p : Fin 4) (s : State) : Host.Outcome State Fault Refusal := onDev (xchTimeout p) s

/-- SYSREF_MODE_WRITE (R46, R47). -/
def execSysrefModeWrite (n : Fin 8) (v : Word) (s : State) : Host.Outcome State Fault Refusal := onReg (Reg.sysCtl n) (sysCtlWrite n v.toNat) s

/-- SYSREF_FIRE: FIRE with MODE as it stands (R46, R47). -/
def execSysrefFire (n : Fin 8) (s : State) : Host.Outcome State Fault Refusal := onReg (Reg.sysCtl n) (fun d => d.sysTrigger n) s

/-- SYSREF_PULSE (R45). -/
def execSysrefPulse (n : Fin 8) (s : State) : Host.Outcome State Fault Refusal := onDev (sysPulse n) s

/-- SYSREF_PULSE_END (R46). -/
def execSysrefPulseEnd (n : Fin 8) (s : State) : Host.Outcome State Fault Refusal := onDev (sysPulseEnd n) s

/-- PPS_OUT_EDGE (R51). -/
def execPpsOutEdge (s : State) : Host.Outcome State Fault Refusal := onDev ppsRise s

/-- PPS_OUT_FALL (R51). -/
def execPpsOutFall (s : State) : Host.Outcome State Fault Refusal := onDev ppsDrop s

/-- TB_CLKO_WRITE: the divider takes effect at the next rising edge (R52). -/
def execTbClkoWrite (v : Word) (s : State) : Host.Outcome State Fault Refusal :=
  onReg Reg.tbClko (fun d => d.setReg Reg.tbClko (v.toNat % 65536)) s

/-- TBCMP_ARM (R53). -/
def execTbcmpArm (n : Fin 4) (lo : Word) (s : State) : Host.Outcome State Fault Refusal := onReg (Reg.tbcmpLo n) (cmpArm n lo.toNat) s

/-- GT_MATCH (R56). -/
def execGtMatch (n : Fin 16) (s : State) : Host.Outcome State Fault Refusal := onDev (gtMatchNow n) s

/-- GT_OVERFLOW (R56). -/
def execGtOverflow (n : Fin 16) (s : State) : Host.Outcome State Fault Refusal := onDev (gtOverflowNow n) s

/-- GT_WRITE_APPLY (R60). -/
def execGtWriteApply (n : Fin 16) (s : State) : Host.Outcome State Fault Refusal := onDev (gtApplyNow n) s

/-- TBCMP_MATCH (R53). -/
def execTbcmpMatch (n : Fin 4) (s : State) : Host.Outcome State Fault Refusal := onDev (cmpMatch n) s

end Sys2Proof.Machine
end

