-- ==== Sys2Proof/Machine/Triggers.lean ====
section
/-! DEFINITION. The trigger crossbar, TRIG_OUT and TRIG_IN pins (R292-R294, R431). -/

namespace Sys2Proof.Machine

namespace Dev

/-- NC n pulses a network line. Pulses of several NCs in one RACE_CLK cycle merge into one; whether two of them less than a
cycle and a TB_CLK period apart meet in one cycle is free (R292, log entry 2). -/
def ncLinePulse (n line : Nat) (d : Dev) : Dev :=
  let last := d.lineLast.get (0, 0) line
  let f := d.rn Reg.pwrRaceMhz
  let meet := decide (0 < last.1) && last.2 != n && decide (last.1 ≤ d.tb.tbc + 1) && decide ((d.tb.tbc + 1 - last.1) * f < 1600 + f)
  let merged := meet && d.freeVal.toNat % 2 == 1
  let d := if meet then d.drew else d
  if merged then d else linePulse line { d with lineLast := d.lineLast.set (0, 0) line (d.tb.tbc + 1, n) }

/-- A write of TRGOp_CTL (R293, R296): EN = 0 ends the timing in progress, and drives the pin inactive from the next edge. -/
def trgoWrite (p v : Nat) (d : Dev) : Dev :=
  let d := d.setReg (Reg.trgoCtl p) (putBits v 15 2 0)
  let d := d.setTrigOut p (if bit v 0 then d.trigOut p else {})
  if bit v 2 then d.trigOutPulse p else d

/-- The present phase of an output ends: time passes to its end, in SENTINEL by SENT_CLK periods (R293, R431). -/
def trigTimed (ph : TrigPhase) (p : Nat) (d : Dev) : Dev :=
  let x := d.trigOut p
  if x.phase ≠ ph then d
  else if d.inSentinel then sentPass (max 1 x.left) (max 1 x.left) d
  else d.advanceTo (max x.fin (d.tb.tbc + 1))

/-- The pulse has lasted WIDTH periods, or HOLDOFF has passed. -/
def widthEnd (p : Nat) (d : Dev) : Dev := trigTimed .width p d
def holdoffEnd (p : Nat) (d : Dev) : Dev := trigTimed .holdoff p d

end Dev

open Dev

/-- TRIGGER_LINE_PULSE: a pulse on a network line (R292, R293). -/
def execTriggerLinePulse (line : Fin 16) (s : State) : Host.Outcome State Fault Refusal := onDev (linePulse line) s

/-- TRIG_OUT_FIRE (R293). -/
def execTrigOutFire (p : Fin 8) (s : State) : Host.Outcome State Fault Refusal := onDev (fun d => d.trigOutPulse p) s

/-- TRGO_CTL_WRITE (R293). -/
def execTrgoCtlWrite (p : Fin 8) (v : Word) (s : State) : Host.Outcome State Fault Refusal := onReg (Reg.trgoCtl p) (trgoWrite p v.toNat) s

/-- TRIG_OUT_WIDTH_END (R293). -/
def execTrigOutWidthEnd (p : Fin 8) (s : State) : Host.Outcome State Fault Refusal := onDev (widthEnd p) s

/-- TRIG_OUT_HOLDOFF_END (R293). -/
def execTrigOutHoldoffEnd (p : Fin 8) (s : State) : Host.Outcome State Fault Refusal := onDev (holdoffEnd p) s

end Sys2Proof.Machine
end

