-- ==== Sys2Proof/Machine/NeuronCore.lean ====
section
/-! DEFINITION. Neuron cores: events, the Cistern cache and hints, the fire phase, the rest sweep, the trigger comparator,
learning and the bank ALUs (R186-R217, R249-R267). -/

namespace Sys2Proof.Machine

/-- A neuron's state word, by its fields (R191). -/
structure Neu where
  v      : Int
  ath    : Nat
  tlast  : Nat
  tspike : Nat
  pset   : Nat
  mlast  : Nat
  head   : Bool
  elig   : Nat
deriving DecidableEq, Repr

/-- Read a state word (R191). -/
def neuOf (w : Nat) : Neu :=
  ⟨signedOf 24 w, bits w 39 24, bits w 71 40, bits w 103 72, bits w 109 104, bits w 112 110, bit w 113, bits w 127 120⟩

/-- Write a state word; its reserved bits are 0 (R191). -/
def neuWord (s : Neu) : Nat :=
  unsignedOf 24 s.v + s.ath % 2 ^ 16 * 2 ^ 24 + s.tlast % 2 ^ 32 * 2 ^ 40 + s.tspike % 2 ^ 32 * 2 ^ 72 +
    s.pset % 64 * 2 ^ 104 + s.mlast % 8 * 2 ^ 110 + b2n s.head * 2 ^ 113 + s.elig % 256 * 2 ^ 120

/-- A synapse word of a row that targets a neuron: its index in the row, weight and target (R203). -/
structure Syn where
  ix  : Nat
  w   : Int
  tgt : Nat
deriving DecidableEq, Repr

/-- The synapses and the free words (index, current block) of a row, from a block and an index (R203, R252). -/
def walkRow (block ix : Nat) : List Nat → List Syn × List (Nat × Nat)
  | [] => ([], [])
  | w :: ws =>
    if w = 0x80FF then
      let r := walkRow block (ix + 1) ws
      (r.1, (ix, block) :: r.2)
    else if w / 256 = 0x80 then walkRow (w % 64) (ix + 1) ws
    else
      let r := walkRow block (ix + 1) ws
      (⟨ix, signedOf 8 (w / 256), 256 * block + w % 256⟩ :: r.1, r.2)

/-- leak (R195). -/
def leak (table : Nat → Nat) (x : Int) (dt : Nat) : Int :=
  if dt = 0 then x
  else if 255 < dt then 0
  else if table dt = 0xFFFF then x
  else truncDiv (x * table dt) 65536

/-- Row-header fields (R202). -/
def hdValid (h : Nat) : Bool := bit h 63
def hdCist (h : Nat) : Bool := bit h 62
def hdGraded (h : Nat) : Bool := bit h 61
def hdPlastic (h : Nat) : Bool := bit h 60
def hdRule (h : Nat) : Nat := bits h 59 57
def hdBlock (h : Nat) : Nat := bits h 56 51
def hdLen (h : Nat) : Nat := bits h 47 36
def hdAddr (h : Nat) : Nat := bits h 35 0

/-- The header of a synapse memory, by index (R201, R202). -/
def headerOf (x : Nc) (i : Nat) : Nat :=
  (List.range 4).foldl (fun h j => h + x.syn.get 0 (4 * i + j) % 65536 * 2 ^ (16 * j)) 0

/-- A synapse word of a row: on-die, or in the cache. -/
def rowWord (x : Nc) (hix ix : Nat) : Nat :=
  let h := headerOf x hix
  if hdCist h then (match x.cached.find? (fun c => c.header == hix) with
    | some c => c.words.getD ix 0
    | none => 0)
  else x.syn.get 0 (hdAddr h + ix)

/-- Write a synapse word of a row; a cached line becomes modified (R267). -/
def setRowWord (x : Nc) (hix ix v : Nat) : Nc :=
  let h := headerOf x hix
  if hdCist h then { x with cached := x.cached.map (fun (c : CachedRow) =>
      if c.header = hix then
        { c with words := c.words.set ix v, dirty := if c.dirty.contains (ix / 32) then c.dirty else c.dirty ++ [ix / 32] }
      else c) }
  else
    let a := hdAddr h + ix
    { x with syn := x.syn.set 0 a v, badSyn := x.badSyn.set 0 (a / 4) (putBits (x.badSyn.get 0 (a / 4)) (a % 4) (a % 4) 0) }

/-- All words of a row, as an event reads them. -/
def rowWords (x : Nc) (hix : Nat) : List Nat := (List.range (hdLen (headerOf x hix))).map (rowWord x hix)

/-- The row can be read: on die, or cached. -/
def rowHere (x : Nc) (hix : Nat) : Bool := !hdCist (headerOf x hix) || x.cached.any (fun c => c.header == hix)

/-- compute the bounded weight (R262): bounds, softness, present weight, change. -/
def boundW (lo hi : Int) (soft : Bool) (w dw : Int) : Int :=
  if !soft then clampI lo hi (w + dw)
  else if 0 < dw then w + (dw * max 0 (hi - w) + 64) / 128
  else w - (-dw * max 0 (w - lo) + 64) / 128

namespace Dev

/-! ## Tables -/

/-- H row headers and K cache words of an NC (R201). -/
def ncH (d : Dev) (n : Nat) : Nat := (d.fld (Reg.ncMemCfg n) 23 16 + 1) * 256
def ncK (d : Dev) (n : Nat) : Nat := d.fld (Reg.ncMemCfg n) 3 0 * 32768

/-- Parameter-set fields (R193). -/
def psTheta (d : Dev) (n p : Nat) : Nat := d.fld (Reg.ncPset0 n p) 23 0
def psRefrac (d : Dev) (n p : Nat) : Nat := d.fld (Reg.ncPset0 n p) 31 24
def psVmin (d : Dev) (n p : Nat) : Int := signedOf 24 (d.rn (Reg.ncPset1 n p))
def psWexp (d : Dev) (n p : Nat) : Nat := d.fld (Reg.ncPset1 n p) 27 24
def psRmode (d : Dev) (n p : Nat) : Bool := d.flag (Reg.ncPset1 n p) 28
def psBurst (d : Dev) (n p : Nat) : Bool := d.flag (Reg.ncPset1 n p) 29
def psLeak (d : Dev) (n p : Nat) : Bool := d.flag (Reg.ncPset1 n p) 30
def psAinc (d : Dev) (n p : Nat) : Nat := d.fld (Reg.ncPset2 n p) 15 0
def psAdec (d : Dev) (n p : Nat) : Nat := d.fld (Reg.ncPset2 n p) 21 16
def psHfrac (d : Dev) (n p : Nat) : Nat := d.fld (Reg.ncPset2 n p) 31 24

/-- A neuron's state, and its replacement. -/
def neu (d : Dev) (n i : Nat) : Neu := neuOf ((d.nc n).state.get 0 i)
def setNeu (d : Dev) (n i : Nat) (s : Neu) : Dev :=
  d.setNc n { d.nc n with state := (d.nc n).state.set 0 i (neuWord s) }

/-- A decay table (R194). -/
def decayOf (d : Dev) (n p : Nat) : Nat → Nat := fun dt => (d.nc n).decay.get 0 (p * 256 + dt)

/-- V and ATH brought to tick t, T_LAST with them (R195, R198). -/
def aged (d : Dev) (n t : Nat) (s : Neu) : Neu :=
  let dt := (t + 2 ^ 32 - s.tlast) % 2 ^ 32
  let ath := (leak (d.decayOf n (d.psAdec n s.pset)) s.ath dt).toNat
  let v := if d.psLeak n s.pset then leak (d.decayOf n s.pset) s.v dt else s.v
  { s with v := v, ath := ath, tlast := t }

/-- Refractory at tick t (R198). -/
def refractory (d : Dev) (n t : Nat) (s : Neu) : Bool :=
  s.mlast != 0 && decide ((t + 2 ^ 32 - s.tspike) % 2 ^ 32 ≤ d.psRefrac n s.pset)

/-- Key of an accumulator (R196). -/
def accKey (t i : Nat) : Nat := t % 2 * 16384 + i

/-- The axon entry of a neuron (R200). -/
def axonOf (d : Dev) (n i : Nat) : Nat := (d.nc n).axon.get 0 i

/-! ## The trigger comparator (R213) -/

/-- An entry of the axon table is read: whether it passes its check, and the device that has found the failure (R435, R440). -/
def axonCheck (n i : Nat) (d : Dev) : Bool × Dev :=
  if (d.nc n).badAxons.contains i then
    (false, d.logError n clsData 4 0 i false (some (.ncAxon (Fin.ofNat 256 n) (Fin.ofNat 16384 i))))
  else (true, d)

/-- A bound neuron is compared; at threshold it pulses its line, once in a tick. An entry that fails its check binds none (R440,
log entry 139). -/
def compareTrig (n i : Nat) (d : Dev) : Dev :=
  let ax := d.axonOf n i
  let x := d.nc n
  if !bit ax 69 || !d.flag (Reg.ncCtl n) 4 || x.pulsed.get false i then d else
  let chk := axonCheck n i d
  if !chk.1 then chk.2 else
  let t := x.openTick
  let s0 := d.neu n i
  let s := d.aged n t s0
  if d.refractory n t s0 then d
  else if s.v + x.acc.get 0 (accKey t i) + x.trigRest.get 0 i < (d.psTheta n s.pset + s.ath : Nat) then d
  else
    let d := (d.setNc n { x with pulsed := x.pulsed.set false i true }).bump (Reg.ncTrigPulses n)
    d.ncLinePulse n (bits ax 73 70)

/-- Neurons bound to the comparator. -/
def boundNeurons (d : Dev) (n : Nat) : List Nat := ((d.nc n).axon.cells.filter (fun c => bit c.2 69)).map (·.1)

/-! ## Contributions (R196, R204) -/

/-- One contribution to a neuron of a page. -/
def contribute (n page i : Nat) (c : Int) (d : Dev) : Dev :=
  let x := d.nc n
  let k := accKey page i
  let a := x.acc.get 0 k + c
  let v := clampI (-0x800000) 0x7FFFFF a
  let opn := decide (page % 2 = x.openTick % 2)
  let rest := if opn && bit (d.axonOf n i) 69 then x.trigRest.set 0 i (x.trigRest.get 0 i + (a - v)) else x.trigRest
  let d := d.setNc n { x with acc := x.acc.set 0 k v, dirty := x.dirty.set false k true, trigRest := rest }
  let d := if v = a then d else d.bump (Reg.ncVsat n)
  if opn then d.compareTrig n i else d

/-- The contribution of a weight (R204). -/
def contribution (d : Dev) (n : Nat) (h : Nat) (e : NcEvent) (s : Syn) : Int :=
  let g := if hdGraded h then e.payload else 256
  truncDiv (s.w * (e.mult * g * 2 ^ d.psWexp n (d.neu n s.tgt).pset : Nat)) 256

/-- A 16-bit word of an on-die row fails its check (R440). -/
def badWord (x : Nc) (h ix : Nat) : Bool :=
  !hdCist h && bit (x.badSyn.get 0 ((hdAddr h + ix) / 4)) ((hdAddr h + ix) % 4)

/-- The synapse words of a row and its free words, its prefix left out where it is plastic (R251), and words that fail their
check skipped (R440). -/
def rowSyns (x : Nc) (hix : Nat) : List Syn × List (Nat × Nat) :=
  let h := headerOf x hix
  let k := if hdPlastic h then 4 else 0
  let ws := (rowWords x hix).zipIdx.map (fun w => if badWord x h w.2 then 0x80FF else w.1)
  let r := walkRow (hdBlock h) k (ws.drop k)
  (r.1, r.2.filter (fun f => !badWord x h f.1))

/-- A read of bank words of the synapse memory finds those whose check fails (R435, R440). -/
def bankChecks (n : Nat) (d : Dev) (ws : List Nat) : Dev :=
  (ws.filter (fun w => (d.nc n).badSyn.get 0 w != 0)).foldl (fun d w =>
    d.logError n clsData 3 (w % 4) w false
      (some (.ncSynapse (Fin.ofNat 256 n) (BitVec.ofNat 17 w) (BitVec.ofNat 4 ((d.nc n).badSyn.get 0 w))))) d

/-- Bank words of the first len words of a row; those of a row in the cache are not of it. -/
def rowBanks (h len : Nat) : List Nat :=
  if hdCist h || len = 0 then [] else
  let a := hdAddr h
  (List.range ((a + len - 1) / 4 + 1 - a / 4)).map (· + a / 4)

/-- A row header is read: whether it passes its check, and the device that has found the failure; header h is bank word h
(R201, R435, R440, R446). -/
def headerCheck (n hix : Nat) (d : Dev) : Bool × Dev :=
  if (d.nc n).badHeaders.contains hix then
    (false, d.logError n clsData 3 (hix % 4) hix false (some (.ncHeader (Fin.ofNat 256 n) (BitVec.ofNat 16 hix))))
  else (true, d)

/-- An event's row adds its contributions into the page of its tick; each word processed counts in NC_SOPS (R204, R251). -/
def applyRow (n : Nat) (e : NcEvent) (d : Dev) : Dev :=
  let x := d.nc n
  let h := headerOf x e.axon
  let d := bankChecks n d (rowBanks h (hdLen h))
  let d := d.bump64 (Reg.ncSopsLo n) (Reg.ncSopsHi n) (hdLen h - if hdPlastic h then 4 else 0)
  (rowSyns x e.axon).1.foldl (fun d s => d.contribute n e.tick s.tgt (d.contribution n h e s)) d

/-! ## The Cistern cache (R208-R212, R267) -/

/-- A row is used: an event or a hint has named it, whether it is cached, being fetched or waiting for its fetch (R210). -/
def touchRow (d : Dev) (n hix : Nat) (hint : Bool) : Dev :=
  let x := d.nc n
  d.setNc n { x with
    cacheAge := x.cacheAge + 1
    cached := x.cached.map (fun (c : CachedRow) =>
      if c.header = hix then { c with used := x.cacheAge, hinted := c.hinted && hint } else c)
    fetches := x.fetches.map (fun (f : Fetch) => if f.header = hix then { f with used := x.cacheAge } else f)
    queuedUse := if x.fetchQ.contains hix || x.hintQ.contains hix then x.queuedUse.set 0 hix x.cacheAge else x.queuedUse }

/-- Device address of a Cistern row (R202). -/
def cistAddr (d : Dev) (h : Nat) : Nat :=
  d.rn64 Reg.memCistBaseLo Reg.memCistBaseHi + bits h 28 0 * 64

/-- Modified lines of a cached row go back to DDR5 (R210, R267). -/
def writeBack (d : Dev) (n : Nat) (c : CachedRow) : Dev :=
  if c.dirty.isEmpty then d else
  let a := d.cistAddr (headerOf (d.nc n) c.header)
  let d := c.dirty.foldl (fun d l =>
    let ws := (c.words.drop (32 * l)).take 32
    if d.isDdr (a + 64 * l) then
      (d.scTouch 3 ((a + 64 * l - ddrBase) / 64)).putBytes (a + 64 * l) (ws.flatMap (toBytes 2))
    else d.accessErr n 0 (a + 64 * l)) d
  let x := d.nc n
  let d := d.setNc n { x with cached := x.cached.map (fun (y : CachedRow) =>
    if y.header = c.header then { y with dirty := [] } else y) }
  d.bump (Reg.ncWritebacks n)

/-- Every modified line of an NC goes back (R267). -/
def writeBackAll (n : Nat) (d : Dev) : Dev := (d.nc n).cached.foldl (fun d c => d.writeBack n c) d

/-- Updates queued for a row, in the banks or of a held pass. -/
def queuedFor (x : Nc) (hix : Nat) (p : Upd → Bool) : Bool :=
  (x.heldUpd ++ x.banks.cells.flatMap (·.2)).any (fun u => u.header == hix && p u)

/-- A cached row is pinned (R210, R267). -/
def rowPinned (x : Nc) (hix : Nat) : Bool :=
  x.missq.any (fun e => e.axon == hix) || x.peq.any (fun e => e.axon == hix) || queuedFor x hix (fun _ => true)

/-- Lines that a row of LEN words takes (R210). -/
def rowLines (len : Nat) : Nat := ceilDiv len 32

/-- Lines of the cache in use: by cached rows, and by rows being fetched, which are pinned (R210). -/
def linesUsed (x : Nc) : Nat :=
  (x.cached.map (fun c => rowLines c.words.length)).sum + (x.fetches.map (fun f => rowLines (hdLen (headerOf x f.header)))).sum

/-- A row of some lines fits beside those in use. -/
def rowFits (d : Dev) (n need : Nat) : Bool := decide (linesUsed (d.nc n) + need ≤ d.ncK n / 32)

/-- Evict least recently used unpinned rows until a row of some lines fits (R210). -/
def makeRoom (n need : Nat) : Nat → Dev → Dev
  | 0, d => d
  | k + 1, d =>
    let x := d.nc n
    if d.rowFits n need then d else
    match x.cached.filter (fun c => !rowPinned x c.header) with
    | [] => d
    | c :: cs =>
      let v := cs.foldl (fun (a : CachedRow) b => if b.used < a.used then b else a) c
      let d := d.writeBack n v
      let y := d.nc n
      let d := d.setNc n { y with cached := y.cached.filter (fun r => r.header != v.header) }
      let d := if v.hinted then d.bump (Reg.ncHintUnused n) else d
      makeRoom n need k d

/-- A fetch of a row begins, its lines taken. -/
def beginFetch (d : Dev) (n hix used : Nat) (hinted : Bool) : Dev :=
  let x := d.nc n
  let h := headerOf x hix
  (d.scDeclare 3 (d.cistAddr h) (2 * hdLen h)).setNc n { x with
    queuedUse := x.queuedUse.set 0 hix 0, fetches := x.fetches ++ [{ header := hix, hinted := hinted, used := used }] }

/-- Room is made for a row, and its fetch begins; none where every cached row is pinned. -/
def tryFetch (d : Dev) (n hix used : Nat) (hinted : Bool) : Option Dev :=
  let need := rowLines (hdLen (headerOf (d.nc n) hix))
  let d := makeRoom n need ((d.nc n).cached.length + 1) d
  if d.rowFits n need then some (d.beginFetch n hix used hinted) else none

/-- A row is on its way: its fetch is outstanding, or waits for room. -/
def fetching (x : Nc) (hix : Nat) : Bool := x.fetches.any (fun f => f.header == hix) || x.fetchQ.contains hix

/-- An event needs a row: its fetch begins, unless it is on its way, or waits for room in the cache (R208, R210, R212). -/
def startFetch (d : Dev) (n hix : Nat) : Dev :=
  let x := d.nc n
  if fetching x hix then d else
  match d.tryFetch n hix x.cacheAge false with
  | some d => d
  | none => d.setNc n { d.nc n with fetchQ := (d.nc n).fetchQ ++ [hix] }

/-- A hint's fetch begins where a fetch slot is free and the cache has room; the manual does not number the slots (R212, log
entry 118). -/
def hintFetch (d : Dev) (n hix used : Nat) : Option Dev :=
  if (d.nc n).fetches.length < 1 + Config.fetchSlots.toNat then (d.tryFetch n hix used true).map (fun d => d.bump (Reg.ncHintFetches n))
  else none

/-- Waiting fetches begin in their order: those of events, then those of hints; a row that is here by then needs none. -/
def pumpFetches (n : Nat) : Nat → Dev → Dev
  | 0, d => d
  | k + 1, d =>
    let x := d.nc n
    match x.fetchQ, x.hintQ with
    | h :: hs, _ =>
      let d' := d.setNc n { x with fetchQ := hs }
      if rowHere x h then pumpFetches n k d' else
      match d'.tryFetch n h (x.queuedUse.get 0 h) false with
      | some e => pumpFetches n k e
      | none => d
    | [], h :: hs =>
      let d' := d.setNc n { x with hintQ := hs }
      if rowHere x h || fetching x h then pumpFetches n k d' else
      match d'.hintFetch n h (x.queuedUse.get 0 h) with
      | some e => pumpFetches n k e
      | none => d
    | [], [] => d

/-- Every fetch that may begin begins. -/
def pumpFetch (n : Nat) (d : Dev) : Dev := pumpFetches n ((d.nc n).fetchQ.length + (d.nc n).hintQ.length) d

/-- The oldest fetch ends: its row is cached, and the events of the miss queue that wait for it are applied in their
order; a fetch that receives an error response leaves them without contributions (R208, R443). A failed NC applies none
(R190, log entry 141). -/
def fetchDone (n cycles : Nat) (d : Dev) : Dev :=
  let x := d.nc n
  match x.fetches with
  | [] => d
  | f :: fs =>
    let h := headerOf x f.header
    let a := d.cistAddr h
    let len := hdLen h
    if x.failed then (d.scDone 3 a (2 * len)).setNc n { x with fetches := fs } else
    let out := decide (d.placeOf a (2 * len) ≠ .ddr)
    let failing := out || d.readBad a (2 * len)
    -- R443: the MP rewrites the lines, and the fetch is retried once
    if failing ∧ !f.again then
      (if out then d.accessErr n 0 a else d.readChecks a (2 * len)).setNc n { x with fetches := { f with again := true } :: fs }
    else if failing ∧ !out ∧ !(d.log unitDdr).todo.isEmpty then d
    else
    let d := (if out then d.accessErr n 0 a else (d.readChecks a (2 * len)).scTouchAll 3 a (2 * len)).scDone 3 a (2 * len)
    let d := d.maxReg (Reg.ncCistLatMax n) cycles
    let waiting := x.missq.filter (fun e => e.axon == f.header)
    let rest := x.missq.filter (fun e => e.axon != f.header)
    if failing then
      (d.setNc n { x with fetches := fs, missq := rest, peq := x.peq.filter (fun e => e.axon != f.header) }).pumpFetch n
    else
      let ws := (List.range len).map (fun i => d.num (a + 2 * i) 2)
      let hinted := f.hinted && waiting.isEmpty && !x.peq.any (fun e => e.axon == f.header)
      let d := d.setNc n { x with
        fetches := fs, missq := rest, cached := x.cached ++ [⟨f.header, ws, f.used, hinted, []⟩] }
      (waiting.foldl (fun d e => d.applyRow n e) d).pumpFetch n

/-- A hint (R212): a fetch for a row that is not cached, at once or once a fetch slot is free. One that arrives while 64 hints
wait is dropped. -/
def takeHint (n : Nat) (d : Dev) : Dev :=
  let x := d.nc n
  match x.hints with
  | [] => d
  | p :: ps =>
    let d := (d.setNc n { x with hints := ps }).bump (Reg.ncHintsRx n)
    let hix := pkAxon p % 65536
    let h := headerOf x hix
    if x.failed then d
    else if 64 ≤ x.hintQ.length then d.bump (Reg.ncHintDrops n)
    else if !(headerCheck n hix d).1 then (headerCheck n hix d).2
    else if d.ncH n ≤ hix || !hdValid h || !hdCist h then d
    else if rowHere x hix || fetching x hix then d.touchRow n hix true
    else
      match (if x.hintQ.isEmpty then d.hintFetch n hix x.cacheAge else none) with
      | some e => e.touchRow n hix true
      | none => (d.setNc n { d.nc n with hintQ := (d.nc n).hintQ ++ [hix] }).touchRow n hix true

/-! ## Events (R197, R204, R208, R254) -/

/-- The NC takes the next event packet. An event of the next tick on a plastic row waits in the plastic queue, since the slots
enabled at the open of its tick decide whether it is a plastic event (R254, log entry 40). -/
def takeEvent (n : Nat) (d : Dev) : Dev :=
  let x := d.nc n
  match x.events with
  | [] => d
  | p :: ps =>
    if x.failed || !d.ncTakes n then d else
    let d := d.setNc n { x with events := ps }
    let k := tickDiff (fullTick x.openTick (pkTick p)) x.openTick
    let d := if k < 0 then (d.bump (Reg.ncLate n)).markFrames 5 x.openTick else if 1 < k then d.bump (Reg.ncEarly n) else d
    let tick := if k ≤ 0 then x.openTick else (x.openTick + 1) % 2 ^ 32
    let hix := pkAxon p % 65536
    let e : NcEvent := ⟨hix, tick, pkMult p, pkPay p⟩
    let h := headerOf x hix
    -- R440: an event whose header fails its check is applied to no neuron
    let chk := headerCheck n hix d
    if !chk.1 then chk.2
    else if d.ncH n ≤ hix || !hdValid h then d.bump (Reg.ncBadAxon n) else
    let here := rowHere x hix
    let plastic := hdPlastic h && (decide (0 < k) || bit x.enNow (hdRule h))
    let d := if !hdCist h then d
      else if here then (d.bump (Reg.ncCistHits n)).touchRow n hix false
      else ((d.bump (Reg.ncCistMisses n)).startFetch n hix).touchRow n hix false
    let y := d.nc n
    if plastic then d.setNc n { y with peq := y.peq ++ [e] }
    else if here then d.applyRow n e
    else d.setNc n { y with missq := y.missq ++ [e] }

/-! ## Learning (R250-R266) -/

/-- A reward, clamped into its range. -/
def clampR (v : Int) : Int := clampI (-127) 127 v

/-- The reward in force at a tick's open (R259). -/
def rewardNow (d : Dev) (n k : Nat) : Int :=
  let c := d.rn (Reg.lrnRwdCfg n k)
  let src := bits c 29 28
  if src = 1 then signedOf 8 (d.rn (Reg.lrnReward n k))
  else if src = 2 then signedOf 8 (d.rn (Reg.lrnGreward (bits c 17 16)))
  else if src = 3 then clampR (((d.jn.wlast.get 0 (bits c 27 16) : Nat) : Int) - (bits c 15 0 : Nat))
  else 0

/-- E of the NC's open tick (R250). -/
def extTick (d : Dev) (n : Nat) : Nat := d.rn (Reg.lrnEtickHi n) * 2 ^ 32 + (d.nc n).openTick

/-- The bank of a row's word (R186). -/
def bankOf (x : Nc) (hix ix : Nat) : Nat :=
  let h := headerOf x hix
  ((if hdCist h then ix else hdAddr h + ix) / 4) % 4

/-- Move held updates into the banks' queues, in order, while there is room (R266). -/
def settleUpd : List Upd → Nc → Nc
  | [], x => { x with heldUpd := [] }
  | u :: us, x =>
    let b := bankOf x u.header u.word
    let q := x.banks.get [] b
    if q.length < 64 then settleUpd us { x with banks := x.banks.set [] b (q ++ [u]) } else { x with heldUpd := u :: us }

/-- The update of one synapse: the pair terms of R255, none where the term is 0. -/
def pairUpd (d : Dev) (n hix k : Nat) (pre e mult : Nat) (f : Int) (s : Syn) : List Upd :=
  let ctl := d.rn (Reg.lrnCtl n k)
  let z := d.neu n s.tgt
  if (bit ctl 28 && !bit z.elig k) || z.mlast = 0 then [] else
  let age := ((d.nc n).openTick + 2 ^ 32 - z.tspike) % 2 ^ 32
  let ts : Int := (e : Int) - (age : Nat)
  let tpre : Int := (bits pre 47 0 : Nat)
  let mpre := bits pre 50 48
  let tab (dep i : Nat) : Int := ((d.nc n).dt.get 0 (dep * 2048 + k * 256 + i) : Nat)
  let pot : Int := if mpre ≠ 0 ∧ tpre ≤ ts ∧ ts - tpre ≤ 255 then tab 0 (ts - tpre).toNat * (mpre * z.mlast : Nat) else 0
  let dep : Int := if age ≤ 255 then tab 1 age * (mult * z.mlast : Nat) else 0
  let dw := clampR (truncDiv ((pot - dep) * f) (2 ^ (bits ctl 19 16 + 7)))
  if dw = 0 then [] else [⟨hix, hdCist (headerOf (d.nc n) hix), s.ix, .delta dw k⟩]

/-- The candidates of a candidate list: target, word, block (R253); those whose words fail their check are skipped, and a header
that fails names none (R440). -/
def candidates (x : Nc) (cand : Nat) : List (Nat × Nat × Nat) :=
  let h := if x.badHeaders.contains cand then 0 else headerOf x cand
  let ws := (List.range (hdLen h)).map (fun i => if badWord x h i then 0x80FF else x.syn.get 0 (hdAddr h + i))
  (walkRow (hdBlock h) 0 ws).1.map (fun s => (s.tgt, ws.getD s.ix 0, s.tgt / 256))

/-- The sprout check (R264): how many candidates lacked a slot, and the sprout write. -/
def sproutScan (ok : Nat → Bool) (free : List (Nat × Nat)) : List (Nat × Nat × Nat) → Nat × Option (Nat × Nat)
  | [] => (0, none)
  | c :: cs =>
    if !ok c.1 then sproutScan ok free cs else
    match free.find? (fun f => f.2 == c.2.2) with
    | some f => (0, some (f.1, c.2.1))
    | none =>
      let r := sproutScan ok free cs
      (r.1 + 1, r.2)

/-- The synapses of a row in the order in which their updates reach a bank: by the bank word that is read, whose words reach it
in one cycle, and there by target neuron (R206, R207, R266). One pass has one rule slot. -/
def bankOrder (base : Nat) (l : List Syn) : List Syn :=
  let before (a b : Syn) : Bool :=
    decide ((base + a.ix) / 4 < (base + b.ix) / 4) || ((base + a.ix) / 4 == (base + b.ix) / 4 && decide (a.tgt ≤ b.tgt))
  l.foldr (fun s m => m.takeWhile (fun t => !before s t) ++ s :: m.dropWhile (fun t => !before s t)) []

/-- learn_event (R255): contributions, pair terms, the sprout check and the prefix write. -/
def learnEvent (n : Nat) (ev : NcEvent) (d : Dev) : Dev :=
  let x := d.nc n
  let hix := ev.axon
  let h := headerOf x hix
  let k := hdRule h
  let ctl := d.rn (Reg.lrnCtl n k)
  let e := d.extTick n
  -- a prefix with a failed word gives no trace and no candidates (R440, log entry 139)
  let pre := if (List.range 4).any (badWord x h) then 0 else (List.range 4).foldl (fun v j => v + rowWord x hix j * 2 ^ (16 * j)) 0
  let f : Int := if bit ctl 30 then signedOf 8 (d.rn (Reg.lrnR n k)) else 128
  let r := rowSyns x hix
  let ups := (bankOrder (if hdCist h then 0 else hdAddr h) r.1).flatMap (d.pairUpd n hix k pre e ev.mult f)
  let ok (c : Nat) : Bool :=
    let z := d.neu n c
    let gap : Int := (e : Int) - ((x.openTick + 2 ^ 32 - z.tspike) % 2 ^ 32 : Nat) - (bits pre 47 0 : Nat)
    (!bit ctl 28 || bit z.elig k) && z.mlast != 0 && bits pre 50 48 != 0 && decide (0 ≤ gap) &&
      decide (gap ≤ (d.fld (Reg.lrnStruct n k) 23 16 : Nat)) && !r.1.any (fun s => s.tgt == c)
  let scan := bit ctl 26 && bits pre 63 52 != 0 && !r.2.isEmpty
  let sp := if scan then sproutScan ok r.2 (candidates x (bits pre 63 52))
    else (0, none)
  let cist := hdCist h
  let spUps := match sp.2 with
    | some s => [Upd.mk hix cist s.1 (.sprout s.2 k)]
    | none => []
  let newPre := bits pre 63 52 * 2 ^ 52 + ev.mult % 8 * 2 ^ 48 + e % 2 ^ 48
  let all := ups ++ spUps ++ [Upd.mk hix cist 0 (.pre newPre)]
  let d := (d.applyRow n ev).bump (Reg.lrnSproutNoslot n) sp.1
  let ch := headerOf x (bits pre 63 52)
  let d := if scan then bankChecks n (headerCheck n (bits pre 63 52) d).2 (rowBanks ch (hdLen ch)) else d
  d.setNc n (settleUpd all (d.nc n))

/-- The next plastic event that can be applied (R254, R255): of the open tick, its row present, no prefix write of it
queued, no pass held. -/
def nextPlastic (x : Nc) : Option NcEvent :=
  if !x.heldUpd.isEmpty then none else
  x.peq.find? (fun e => decide (tickDiff e.tick x.openTick ≤ 0) && rowHere x e.axon &&
    !queuedFor x e.axon (fun u => match u.kind with | .pre _ => true | _ => false))

/-- PLASTIC_EVENT_APPLY's effect; an event whose slot was off at the open of its tick only contributes (R254). -/
def plasticApply (n : Nat) (d : Dev) : Dev :=
  let x := d.nc n
  if x.failed then d else
  match nextPlastic x with
  | none => d
  | some e =>
    let d := d.setNc n { x with peq := x.peq.erase e }
    (if bit x.enNow (hdRule (headerOf x e.axon)) then d.learnEvent n e else d.applyRow n e).pumpFetch n

/-- An update reads the word that it changes; a prefix write replaces its words (R205, R261). -/
def updReads (u : Upd) : Bool :=
  match u.kind with
  | .pre _ => false
  | _ => true

/-- The bank ALU applies one update (R205, R261-R264); a word that fails its check is skipped (R440). -/
def applyUpd (n : Nat) (u : Upd) (d : Dev) : Dev :=
  let x := d.nc n
  let h := headerOf x u.header
  let v := rowWord x u.header u.word
  if updReads u && badWord x h u.word then bankChecks n d [(hdAddr h + u.word) / 4] else
  match u.kind with
  | .pre p => d.setNc n ((List.range 4).foldl (fun x j => setRowWord x u.header j (bits p (16 * j + 15) (16 * j))) x)
  | .sprout w _ =>
    if v = 0x80FF then (d.setNc n (setRowWord x u.header u.word w)).bump (Reg.lrnSprouts n) else d.bump (Reg.lrnSproutLost n)
  | .delta dw k =>
    if v = 0x80FF then d.bump (Reg.lrnFreeUpd n)
    else if v / 256 = 0x80 then d.bump (Reg.ncMarkerUpd n)
    else
      let ctl := d.rn (Reg.lrnCtl n k)
      let w := signedOf 8 (v / 256)
      let w' := clampR (boundW (signedOf 8 ctl) (signedOf 8 (bits ctl 15 8)) (bit ctl 29) w dw)
      let prune := bit ctl 27 && decide (w'.natAbs ≤ d.fld (Reg.lrnStruct n k) 14 8) && decide (w'.natAbs < w.natAbs)
      let d := d.setNc n (setRowWord x u.header u.word (if prune then 0x80FF else unsignedOf 8 w' * 256 + v % 256))
      (if prune then d.bump (Reg.lrnPrunes n) else d).bump (Reg.lrnUpdates n k)

/-- One bank cycle: the oldest update of a bank is applied and its queue entry frees (R206, R207, R266). -/
def bankCycle (n b : Nat) (d : Dev) : Dev :=
  let x := d.nc n
  if x.failed then d else
  match x.banks.get [] b with
  | [] => d
  | u :: us =>
    let held := match x.heldUpd with
      | [] => false
      | w :: _ => bankOf x w.header w.word == b
    let d := if held then d.bump (Reg.lrnHoldCycles n) else d
    let d := (d.setNc n { x with banks := x.banks.set [] b us }).applyUpd n u
    let y := d.nc n
    (d.setNc n (settleUpd y.heldUpd y)).pumpFetch n

/-! ## A tick opens in an NC (R213, R250, R258, R260) -/

/-- Eligibility writes that wait for the tick (R260). -/
def eligApply (x : Nc) : Nc :=
  let one (x : Nc) (w : Nat × Bool × Nat × Nat) : Nc :=
    (List.range (w.2.2.2 + 1 - w.2.2.1)).foldl (fun (x : Nc) j =>
      let i := w.2.2.1 + j
      let s := neuOf (x.state.get 0 i)
      { x with state := x.state.set 0 i (neuWord { s with elig := putBits s.elig w.1 w.1 (b2n w.2.1) }) }) x
  let y := x.eligPend.foldl one x
  { y with eligPend := [] }

/-- The slots and rewards in force in the open tick (R258, R259). -/
def learnOpen (n : Nat) (d : Dev) : Dev :=
  let d := if d.rn (Reg.lrnEtickHi n) = 0xFFFF then
      ((List.range 8).foldl (fun d k => d.setFlag (Reg.lrnCtl n k) 31 false) d).setFlag (Reg.lrnStat n) 4 true
    else d
  let en := (List.range 8).foldl (fun v k => v + b2n (d.flag (Reg.lrnCtl n k) 31) * 2 ^ k) 0
  let d := (List.range 8).foldl (fun d k => d.setReg (Reg.lrnR n k) (unsignedOf 8 (d.rewardNow n k))) d
  d.setNc n { d.nc n with enNow := en }

/-- Tick t opens in NC n. -/
def openNc (n t : Nat) (d : Dev) : Dev :=
  let x := d.nc n
  let d := if t % 2 ^ 32 = 0 then d.setReg (Reg.lrnEtickHi n) ((d.rn (Reg.lrnEtickHi n) + 1) % 65536) else d
  let d := d.setNc n (eligApply { x with openTick := t % 2 ^ 32, pulsed := ⟨[]⟩, trigRest := ⟨[]⟩ })
  let d := d.completeWhen 0x32 (fun c => c.imm == n) [t % 2 ^ 32]
  let d := d.learnOpen n
  (d.boundNeurons n).foldl (fun d i => d.compareTrig n i) d

/-! ## The fire phase (R198-R200, R211) -/

/-- The packet of a spike or hint of a neuron (R200, R211). -/
def axonPacket (cls n ax tick mult pay : Nat) : Nat :=
  mkPacket cls (bits ax 15 0) (bits ax 31 16) (bits ax 47 32) n (bits ax 67 48) tick mult pay

/-- emit (R200). -/
def emitSpike (n i t m : Nat) (d : Dev) : Dev :=
  let ax := d.axonOf n i
  let d := d.bump (Reg.ncSpikes n)
  -- R440: an axon entry that fails its check sends nothing
  let chk := axonCheck n i d
  if !chk.1 then chk.2 else
  let d := if bit ax 68 then d.emit n (axonPacket clsEvt n ax (t + 1) m 0x100) else d
  if bit ax 75 then { d with jn := { d.jn with adds := d.jn.adds ++ [(n, bits ax 87 76, m)] } } else d

/-- headrace_check (R211): the state with HEAD, and whether a hint leaves. An axon entry that fails its check has no hints (R440,
log entry 139). -/
def headrace (n i : Nat) (s : Neu) (th : Nat) (d : Dev) : Neu × Bool × Dev :=
  let ax := d.axonOf n i
  let hf := d.psHfrac n s.pset
  if s.v < (th * hf / 256 : Nat) then ({ s with head := false }, false, d)
  else if hf = 0 ∨ d.flag (Reg.ncCtl n) 8 = false ∨ s.head then (s, false, d)
  else
    let chk := axonCheck n i d
    if chk.1 && bit ax 68 && bit ax 74 then ({ s with head := true }, true, chk.2) else (s, false, chk.2)

/-- fire (R198) of one dirty neuron. -/
def fireOne (n t : Nat) (d : Dev) (i : Nat) : Dev :=
  let x := d.nc n
  let k := accKey t i
  let a := x.acc.get 0 k
  let d := d.setNc n { x with acc := x.acc.set 0 k 0, dirty := x.dirty.set false k false }
  let s0 := d.neu n i
  let s := d.aged n t s0
  let p := s.pset
  if d.refractory n t s then (if a = 0 then d else d.bump (Reg.ncRefDrops n)).setNeu n i s else
  let v := clampI (d.psVmin n p) 0x7FFFFF (s.v + a)
  let d := if v = s.v + a then d else d.bump (Reg.ncVsat n)
  let th := d.psTheta n p + s.ath
  let s := { s with v := v }
  if v < (th : Nat) then
    let r := headrace n i s th d
    let d := r.2.2.setNeu n i r.1
    if r.2.1 then (d.emit n (axonPacket clsHint n (d.axonOf n i) (t + 1) 0 0)).bump (Reg.ncHintsTx n) else d
  else
    -- with a threshold of 0 the manual gives no quotient: a free multiplicity of 1 to 7 (log entry 2)
    let unstated := d.psBurst n p && decide (th = 0)
    let q := if unstated then 1 + d.freeVal.toNat % 7 else v.toNat / th
    let m := if d.psBurst n p then min 7 q else 1
    let d := if unstated then d.drew else d
    let surplus := decide (((m + 1) * th : Nat) ≤ v)
    let v' : Int := if surplus || !d.psRmode n p then 0 else v - (m * th : Nat)
    let d := if surplus then d.bump (Reg.ncSaturate n) else d
    let s := { s with v := v', ath := min (s.ath + m * d.psAinc n p) 0xFFFF, tspike := t, mlast := m, head := false }
    (d.setNeu n i s).emitSpike n i t m

/-- The fire phase of the NC's open tick may begin (R198, R265, R448): its tick has closed, and every event it took for the
tick and every update formed from them is applied. -/
def mayFire (d : Dev) (n : Nat) : Bool :=
  let x := d.nc n
  let due (t : Nat) : Bool := decide (tickDiff t x.openTick ≤ 0)
  x.inJob && !x.failed && decide (0 < tickDiff (d.router n).openTick x.openTick) && !d.held n &&
    !x.missq.any (fun e => due e.tick) && !x.peq.any (fun e => due e.tick) && x.heldUpd.isEmpty && x.banks.cells.isEmpty &&
    !(d.ncTakes n && x.events.any (fun p => due (fullTick x.openTick (pkTick p))))

/-- Neurons dirty for a tick, ascending. -/
def dirtyOf (x : Nc) (t : Nat) : List Nat :=
  (x.dirty.cells.filter (fun c => c.2 && c.1 / 16384 == t % 2)).map (fun c => c.1 % 16384)

/-- The next dirty neuron of the fire phase: the router takes what it emits at once, and while a packet stands at the L port
the phase pauses (R230). -/
def fireNext (n t : Nat) (d : Dev) (i : Nat) : Dev :=
  if (d.router n).fromNc.isEmpty then takeNc n (d.fireOne n t i) else d

/-- The fire phase (R198), after which the next tick is open in the NC. A phase that has paused goes on with the neurons still
dirty once the router takes the packet that stands at its L port (R230). -/
def firePhase (n : Nat) (d : Dev) : Dev :=
  if !d.mayFire n then d else
  let t := (d.nc n).openTick
  let d := (dirtyOf (d.nc n) t).foldl (fireNext n t) (takeNc n d)
  if (d.router n).fromNc.isEmpty then (d.setReg (Reg.ncTick n) t).openNc n (t + 1) else d

/-- A rest-sweep slot visits a neuron without pending input (R192). -/
def sweepNeuron (n i : Nat) (d : Dev) : Dev :=
  let x := d.nc n
  if x.failed || x.dirty.get false (accKey 0 i) || x.dirty.get false (accKey 1 i) then d else
  let t := d.rn (Reg.ncTick n)
  let s := d.neu n i
  let s := if 255 < (t + 2 ^ 32 - s.tlast) % 2 ^ 32 then d.aged n t s else s
  let s := if 0xFFFFFF < (t + 2 ^ 32 - s.tspike) % 2 ^ 32 then { s with mlast := 0, head := false } else s
  d.setNeu n i s

/-! ## Snapshots (R217) -/

/-- A write of NC_NSEL. -/
def nselWrite (n v : Nat) (d : Dev) : Dev :=
  (d.setReg (Reg.ncNsel n) (v % 16384)).setNc n { d.nc n with snap := some (v % 16384) }

/-- The snapshot is taken. -/
def snapDone (n : Nat) (d : Dev) : Dev :=
  match (d.nc n).snap with
  | none => d
  | some i =>
    let w := (d.nc n).state.get 0 i
    let d := (List.range 4).foldl (fun d k => d.setReg (Reg.ncNsnap n k) (bits w (32 * k + 31) (32 * k))) d
    d.setNc n { d.nc n with snap := none }

end Dev

open Dev

/-- EVENT_RECEIVE (R204). -/
def execEventReceive (n : Fin 256) (s : State) : Host.Outcome State Fault Refusal := onDev (takeEvent n) s

/-- CISTERN_FETCH_DONE (R208). -/
def execCisternFetchDone (n : Fin 256) (cycles : Nat) (s : State) : Host.Outcome State Fault Refusal := onDev (fetchDone n cycles) s

/-- HINT_RECEIVE (R212). -/
def execHintReceive (n : Fin 256) (s : State) : Host.Outcome State Fault Refusal := onDev (takeHint n) s

/-- FIRE_PHASE (R198). -/
def execFirePhase (n : Fin 256) (s : State) : Host.Outcome State Fault Refusal := onDev (firePhase n) s

/-- REST_SWEEP (R192). -/
def execRestSweep (n : Fin 256) (neuron : Fin 16384) (s : State) : Host.Outcome State Fault Refusal := onDev (whileClocked (sweepNeuron n neuron)) s

/-- BANK_UPDATE (R205). -/
def execBankUpdate (n : Fin 256) (bank : Fin 4) (s : State) : Host.Outcome State Fault Refusal := onDev (whileClocked (bankCycle n bank)) s

/-- NEURON_SNAPSHOT_START (R217). -/
def execNeuronSnapshotStart (n : Fin 256) (v : Word) (s : State) : Host.Outcome State Fault Refusal := onReg (Reg.ncNsel n) (nselWrite n v.toNat) s

/-- NEURON_SNAPSHOT_DONE (R217). -/
def execNeuronSnapshotDone (n : Fin 256) (s : State) : Host.Outcome State Fault Refusal := onDev (whileClocked (snapDone n)) s

/-- PLASTIC_EVENT_APPLY (R255). -/
def execPlasticEventApply (n : Fin 256) (s : State) : Host.Outcome State Fault Refusal := onDev (plasticApply n) s

end Sys2Proof.Machine
end

