-- ==== Sys2Proof/Machine/Junction.lean ====
section
/-! DEFINITION. The junction: encoders, injection, windows, gather decoders, records and the record queue (R274-R291), and
the edges of TRIG_IN (R294). -/

namespace Sys2Proof.Machine

namespace Dev

/-! ## Lane maps and encoders (R274-R278) -/

/-- Lane-map modes. -/
def lmRate : Nat := 1
def lmLatency : Nat := 2
def lmDelta : Nat := 3

/-- Change a unit's part of the device. -/
def setJn (d : Dev) (x : Junction) : Dev := { d with jn := x }

/-- A clip of a frame's value (R275-R277). -/
def clip1 (d : Dev) (c : Bool) : Dev := if c then d.bump Reg.jnClips else d

/-- v = round(x × GAIN): one FP32 multiplication, then to an integer, ties to even; NaN gives 0 and a clip (R275). An
infinite product is taken beyond every bound. -/
def laneValue (fmt gain x : Nat) : Int × Bool :=
  match roundFp32 ((decodeLane fmt x).mul (decodeFp bf16 gain)) with
  | .nan => (0, true)
  | .inf neg => (if neg then -0x10000000000 else 0x10000000000, false)
  | .fin neg m e => (roundToInt neg m e, false)

/-- P = clamp(round(|x| × PSCALE × 256), 0, 0xFFFF): the value, whether it was clamped, and whether the manual states none
(R276). -/
def gradeOf (fmt ps x : Nat) : Nat × Bool × Bool :=
  match ((decodeLane fmt x).abs.mul (decodeFp bf16 ps)).mul (Flt.ofInt 256) with
  | .nan => (0, false, true)
  | .inf neg => (if neg then 0 else 0xFFFF, true, false)
  | .fin neg m e =>
    let v := roundToInt neg m e
    if v < 0 then (0, true, false) else if 0xFFFF < v then (0xFFFF, true, false) else (v.toNat, false, false)

/-- A reference's place: its address, and whether it can be reached and read. A place outside Pond memory has none (R277,
R307). -/
def refOut (d : Dev) (a : Nat) : Bool := !(isPond a) || d.placeOf a 2 != .pond

/-- A delta reference: its value, the device after the read, and whether the read got an error response; its value is then a
free value (R277, R443). -/
def readRef (d : Dev) (a : Nat) : Int × Bool × Dev :=
  if d.refOut a then (signedOf 16 d.freeVal.toNat, true, d.drew.accessErr unitJunction 0 a)
  else if d.readBad a 2 then (signedOf 16 d.freeVal.toNat, true, d.drew.readChecks a 2)
  else (signedOf 16 (d.num a 2), false, d)

/-- A delta reference is written, where its place can be reached (R307). -/
def writeRef (d : Dev) (a : Nat) (v : Int) : Dev :=
  if d.refOut a then d.accessErr unitJunction 0 a else d.putNum a 2 (unsignedOf 16 v)

/-- The part of a run of bytes from a to z that lies in a Pond bank becomes 0, one access of the junction; bank 64 stands for
what lies beyond the banks (R307, R315, log entry 138). -/
def clearBank (a z : Nat) (d : Dev) (b : Nat) : Dev :=
  let lo := max a (b * 0x80000)
  let hi := if b = 64 then z else min z ((b + 1) * 0x80000)
  if hi ≤ lo then d
  else if d.refOut lo then d.accessErr unitJunction 0 lo
  else d.zeroMem lo (hi - lo)

/-- A stream opens: its references become 0 (R277). -/
def clearRefs (d : Dev) (n : Nat) : Dev :=
  let a := d.jn.deltaBase + 2 * (n * d.deltaSpan)
  (List.range 65).foldl (clearBank a (a + 2 * d.deltaSpan)) d

/-- The payload of an element's events. -/
def payloadOf (l : LaneMap) (x : Nat) (d : Dev) : Dev × Nat :=
  if !l.graded then (d, 0x100) else
  let g := gradeOf l.fmt l.pscale x
  if g.2.2 then (d.drew, d.freeVal.toNat % 65536) else (d.clip1 g.2.1, g.1)

/-- What the encoders have read of a frame: its train entries, whether a value was clipped, and whether the delta store gave
an error response. -/
structure Encoded where
  d     : Dev
  evs   : List TrainEv
  clips : Bool
  err   : Bool := false

/-- Read one element (R275, log entry 142). -/
def encodeElem (stream ix : Nat) (l : LaneMap) (a : Encoded) (xe : Nat × Nat) : Encoded :=
  let v := laneValue l.fmt l.gain xe.1
  let enc := ix / 24
  let before := a.d.rn Reg.jnClips
  let d := a.d.clip1 v.2
  let ev (j axon mult pay : Nat) : TrainEv := ⟨enc, ix, xe.2, j, l.rows, l.cols, axon % 65536, mult, pay⟩
  let fin (d : Dev) (evs : List TrainEv) : Encoded := ⟨d, a.evs ++ evs, a.clips || d.rn Reg.jnClips != before, a.err⟩
  if l.mode = lmRate then
    let top : Int := (7 * l.nt : Nat)
    let n := (clampI 0 top v.1).toNat
    let d := d.clip1 (decide (top < v.1))
    let js := (List.range l.nt).filter (fun j => decide (j * n / l.nt < (j + 1) * n / l.nt))
    if js.isEmpty then fin d [] else
    let p := payloadOf l xe.1 d
    fin p.1 (js.map (fun j => ev j (l.axbase + xe.2) ((j + 1) * n / l.nt - j * n / l.nt) p.2))
  else if l.mode = lmLatency then
    if v.1 < 1 then fin d [] else
    let p := payloadOf l xe.1 d
    fin p.1 [ev (l.nt - min v.1.toNat l.nt) (l.axbase + xe.2) 1 p.2]
  else if l.mode = lmDelta then
    let at_ := d.deltaAddr stream ix xe.2
    let q := d.readRef at_
    let ref := q.1
    let d := q.2.2
    let a := { a with err := a.err || q.2.1 }
    let fin (d : Dev) (evs : List TrainEv) : Encoded := ⟨d, a.evs ++ evs, a.clips || d.rn Reg.jnClips != before, a.err⟩
    let dv := v.1 - ref
    let m := min 7 (dv.natAbs / max 1 l.dth)
    if m = 0 then fin d [] else
    let step : Int := (m * l.dth : Nat)
    let r := ref + (if dv < 0 then -step else step)
    let r' := clampI (-32768) 32767 r
    let d := (d.writeRef at_ r').clip1 (decide (r' ≠ r))
    let p := payloadOf l xe.1 d
    fin p.1 [ev 0 (l.axbase + 2 * xe.2 + (if dv < 0 then 1 else 0)) m p.2]
  else fin d []

/-- Read one lane of a column: its words in arrival order, their lanes in the order of R142 (R274). -/
def encodeLaneWords (fr : Frame) (a : Encoded) (ix : Nat) : Encoded :=
  let l := a.d.jn.lanes.get {} ix
  if l.mode = 0 then a else
  let xs := (fr.out.get [] ix).flatMap (fun w => (List.range (fmtLanes l.fmt)).map (laneOf l.fmt w))
  (xs.zipIdx).foldl (encodeElem fr.stream ix l) a

/-- Read a whole frame, in ascending column, then lane, then element (R278). -/
def encodeFrame (d : Dev) (fr : Frame) : Encoded := (List.range 384).foldl (encodeLaneWords fr) { d := d, evs := [], clips := false }

/-! ## The record queue (R289) -/

/-- Entries of the record queue, in use, and free: a queue with WR = RD is empty, so it holds COUNT − 1 (DEDUCED, log entry
14, log entry 140). -/
def rqCount (d : Dev) : Nat := d.fld Reg.jnRqCfg 15 0
def rqUsed (d : Dev) : Nat := (d.fld Reg.jnRqWr 15 0 + max 1 d.rqCount - d.fld Reg.jnRqRd 15 0) % max 1 d.rqCount
def rqFree (d : Dev) : Nat := d.rqCount - 1 - d.rqUsed - d.jn.reserved

/-- Device address of a record-queue entry. -/
def rqAddr (d : Dev) (i : Nat) : Nat := d.rn64 Reg.jnRqBaseLo Reg.jnRqBaseHi + i * 64

/-- An entry cannot be reached: the address lies outside the memory that JN_RQ_CFG.PLACE names, or gives an error response
(R289, R307, log entry 123). -/
def rqOut (d : Dev) (a : Nat) : Bool := d.placeOf a 64 != (if d.flag Reg.jnRqCfg 16 then .ddr else .pond)

/-- The stream forms windows; it forms records (R283, R287). -/
def forms (d : Dev) (s : Nat) : Bool := (d.jn.wins.get {} s).ncls != 0
def formsRec (d : Dev) (s : Nat) : Bool := d.forms s && (d.jn.wins.get {} s).hasRec

/-- Train-store entries that an encoder holds: elements with events still to come after the present tick (R278). -/
def storeUsed (l : List TrainEv) (enc j : Nat) : Nat :=
  ((l.filter (fun e => e.enc == enc && decide (j < e.j))).map (fun e => (e.lane, e.elem))).eraseDups.length

/-- JN_STAT (R295). -/
def showJn (d : Dev) : Dev :=
  let d := d.setFlag Reg.jnStat 4 (d.rqCount != 0 && d.rqFree == 0)
  let d := d.setFlag Reg.jnStat 1 (d.jn.active.any (fun f => !f.trains.isEmpty))
  d.setFlag Reg.jnStat 2 (!d.jn.eligible.isEmpty)

/-- Counts of R452: NCs, routers and the junction's entries other than input-buffer ones. -/
def mrErrCount (d : Dev) : Nat :=
  let ncs := (d.errs.cells.filter (fun c => decide (c.1 < 256))).foldl (fun v c => v + c.2.cntData + c.2.cntFail) 0
  ncs + (d.log unitJunction).cntData + (d.log unitJunction).cntFail - d.flume.bufErrs

/-! ## Assignment and injection (R279-R281) -/

/-- Conditions of R279 for a frame, were tick t its t_inj. -/
def mayAssign (d : Dev) (t : Nat) (f : JFrame) (evs : List TrainEv) : Bool :=
  let w := d.jn.wins.get {} f.fr.stream
  let last := d.jn.lastWin.get 0 f.fr.stream
  (!d.forms f.fr.stream || last == 0 || decide (0 < tickDiff (t + w.wofs) (last - 1))) &&
    (!d.formsRec f.fr.stream || decide (0 < d.rqFree)) &&
    (List.range 16).all (fun n =>
      let held := (d.jn.active.map (fun g => storeUsed g.trains n ((t + 2 ^ 32 - g.tinj.getD 0) % 2 ^ 32))).sum
      decide (held + storeUsed evs n 0 ≤ 8192))

/-- Frames are assigned to tick t, in order, until one must wait (R279); a drain holds all of them (R281). -/
def assignFrames (t tbc : Nat) : Nat → Dev → Dev
  | 0, d => d
  | k + 1, d =>
    match d.jn.eligible with
    | [] => d
    | f :: fs =>
      -- a drain, or a hold of the junction (R448)
      if d.bar.drainTick.isSome || d.held unitJunction then d else
      let a := d.encodeFrame f.fr
      if !d.mayAssign t f a.evs then d.bump Reg.jnInjWaits else
      let d := a.d
      let w := d.jn.wins.get {} f.fr.stream
      let rec_ := d.formsRec f.fr.stream
      let g : JFrame := { f with
        fr := { f.fr with memErr := f.fr.memErr || a.err }, trains := a.evs, clip := a.clips, tinj := some t, tbc := tbc, reserved := rec_, mrErrs := d.mrErrCount }
      let d := d.setJn { d.jn with
        eligible := fs, active := d.jn.active ++ [g]
        lastWin := if d.forms f.fr.stream then d.jn.lastWin.set 0 f.fr.stream ((t + w.wofs + w.wlen - 1) % 2 ^ 32 + 1) else d.jn.lastWin
        reserved := d.jn.reserved + b2n rec_ }
      assignFrames t tbc k (d.bump Reg.jnInjected)

/-- The packet of a train event (R276). -/
def trainPacket (d : Dev) (t : Nat) (e : TrainEv) : Nat :=
  mkPacket clsEvt (2 ^ d.ownDev) e.rows e.cols e.enc e.axon t e.mult e.payload

/-- One frame emits its train tick for tick t: once its train tick 0 is emitted its buffer bytes are consumed, and after
its last event it is injected (R278, R280, R291). -/
def emitTrain (t : Nat) (d : Dev) (i : Nat) : Dev :=
  match d.jn.active[i]? with
  | none => d
  | some f =>
    let j := (t + 2 ^ 32 - f.tinj.getD 0) % 2 ^ 32
    let now := f.trains.filter (fun e => e.j == j)
    let later := f.trains.filter (fun e => decide (j < e.j))
    let first := f.sent = 0
    let d := d.setJn { d.jn with active := d.jn.active.set i { f with trains := later, sent := j + 1 } }
    let d := now.foldl (fun d e => (d.toInject e.enc pJ (d.trainPacket t e)).bump Reg.jnEvents) d
    let d := if first then d.releaseOut else d
    if later.isEmpty && (first || !f.trains.isEmpty) then
      (d.ledgerPut f.fr.stream f.fr.frame (fun e => { e with tinj := f.tinj.getD 0 })).stage f.fr.stream f.fr.frame stInjected
    else d

/-- Every frame emits for tick t, in the order of assignment. -/
def emitAll (t : Nat) (d : Dev) : Dev := (List.range d.jn.active.length).foldl (emitTrain t) d

/-! ## Windows and records (R282-R288) -/

/-- A window add reaches the junction (R282). -/
def windowAdd (d : Dev) : Dev :=
  match d.jn.adds with
  | [] => d
  | a :: as =>
    let k := a.2.1
    let v := d.jn.wctr.get 0 k + a.2.2
    let d := d.setJn { d.jn with adds := as, wctr := d.jn.wctr.set 0 k (min v 0xFFFFFFFF) }
    if v ≤ 0xFFFFFFFF then d
    else (d.setJn { d.jn with wsat := d.jn.wsat.set false k true }).bump Reg.jnWsat

/-- The 64 bytes of a record (R287). -/
def recordBytes (tb72 stream ty epoch frame cls score runner total flags ladder tinj tlast tbc tag seq : Nat) : List Byte :=
  toBytes 9 tb72 ++ toBytes 1 stream ++ toBytes 1 ty ++ toBytes 1 epoch ++ toBytes 4 frame ++ toBytes 1 cls ++ zeroBytes 1 ++
    toBytes 2 score ++ toBytes 2 runner ++ zeroBytes 2 ++ toBytes 4 total ++ toBytes 4 flags ++ toBytes 8 ladder ++
    toBytes 4 tinj ++ toBytes 4 tlast ++ toBytes 8 tbc ++ toBytes 2 tag ++ zeroBytes 2 ++ toBytes 4 seq

/-- A record enters the queue (R287, R289). The junction keeps its type (1 RESULT, 2 MARKER), stream and frame. -/
def putRecord (d : Dev) (bs : List Byte) (kept : Nat × Nat × Nat) : Dev :=
  let i := d.fld Reg.jnRqWr 15 0
  let a := d.rqAddr i
  let d := if d.rqOut a then d.accessErr unitJunction 0 a else (d.touch 4 a 64).putBytes a bs
  let d := d.setJn { d.jn with kept := d.jn.kept.set (0, 0, 0) i kept, seq := (d.jn.seq + 1) % 2 ^ 32 }
  ((d.setReg Reg.jnRqWr ((i + 1) % max 1 d.rqCount)).bump Reg.jnRecords).showJn

/-- CLASS, SCORE, RUNNER and TOTAL of a block's counts (R284). -/
def classify (counts : List Nat) : Nat × Nat × Nat × Nat :=
  let top := counts.foldl max 0
  if top = 0 then (0xFF, 0, 0, 0) else
  let ix := (counts.findIdx? (· == top)).getD 0
  let runner := (counts.eraseIdx ix).foldl max 0
  (ix, min top 0xFFFF, min runner 0xFFFF, min counts.sum 0xFFFFFFFF)

/-- Ladder word (R180). -/
def ladderWord (fr : Frame) : Nat := fr.rungs % 2 ^ 32 + fr.uncal % 65536 * 2 ^ 32 + (fr.passes - 1) % 4 * 2 ^ 48

/-- Integrity flags (R288, R452). -/
def integrity (d : Dev) (f : JFrame) (wsat : Bool) : Nat :=
  f.fr.flags % 16 + b2n (f.fr.uncal != 0) * 2 ^ 4 + bits f.flags 8 5 * 2 ^ 5 + b2n f.clip * 2 ^ 9 + b2n wsat * 2 ^ 10 +
    b2n f.fr.flmErr * 2 ^ 11 + b2n (d.mrErrCount != f.mrErrs) * 2 ^ 12 +
    b2n (f.fr.memErr || d.rqOut (d.rqAddr (d.fld Reg.jnRqWr 15 0))) * 2 ^ 13

/-- A gather decoder writes a frame of its destination stream (R286). -/
def gatherFrame (f : JFrame) (counts : List Nat) (base : Nat) (d : Dev) (g : Nat) : Dev :=
  let m := d.jn.gathers.get {} g
  let n := m.dst
  if !d.strOpen n || !(d.strm n).gather then d else
  let no := d.jn.gatherNo.get 0 g
  let d := d.setJn { d.jn with gatherNo := d.jn.gatherNo.set 0 g (no + 1) }
  let d := d.setReg (Reg.intkStrFrameNo n) (no + 1)
  match d.pickSlot n with
  | none => (d.goneFrame n no false (some (f.fr.tb72 / 256))).showNoSlot n
  | some k =>
    let block := counts.drop (m.cbase - base)
    let pairs := ((block.take m.count).zipIdx.filter (fun p => decide (m.gth ≤ p.1))).map (fun p => (p.2, min p.1 0xFFFF))
    let len := 64 * m.len
    let ovr := decide (len < pairs.length)
    let body := (pairs.take len).flatMap (fun p => toBytes 2 p.1 ++ toBytes 2 p.2) ++
      (List.replicate (len - pairs.length) (toBytes 2 0xFFFF ++ toBytes 2 0)).flatten
    let flags := 2 * b2n ovr
    let a := d.slotAddr n k
    let x := d.strm n
    let d := d.setStrm n { x with busy := x.busy ++ [k], nextSlot := (k + 1) % max 1 (d.fld (Reg.intkStrBufCfg n) 4 0) }
    let d := d.showNoSlot n
    let bad := d.lineBad a
    let d := if bad then d.accessErr unitJunction n a
      else (d.touch 4 a (64 + body.length)).putBytes a (descriptor n ⟨no, k, len, f.fr.tb72, flags, 0, false⟩ flags ++ body)
    let d := if ovr then d.bump Reg.jnGatherTrunc else d
    let d := (d.bump (Reg.intkStrFrames n)).ledgerPut n (no % 2 ^ 32) (fun e =>
      { e with stages := putBits e.stages stIntake stIntake 1, tbc := f.fr.tb72 / 256 })
    d.stageFull { stream := n, frame := no % 2 ^ 32, tb72 := f.fr.tb72, slot := k, addr := a + 64, len := 4 * len,
                  gather := true, fullAt := d.tb.tbc, memErr := bad, flags := flags }

/-- Gather decoders of a source stream that are enabled. -/
def gathersOf (d : Dev) (s : Nat) : List Nat :=
  (List.range 16).filter (fun g => (d.jn.gathers.get {} g).en && (d.jn.gathers.get {} g).src == s)

/-- A block's counters are copied to LAST. -/
def copyLast (d : Dev) (base n : Nat) : Dev :=
  d.setJn { d.jn with wlast := (List.range n).foldl (fun m i => m.set 0 (base + i) (d.jn.wctr.get 0 (base + i))) d.jn.wlast }

/-- A frame's window is final (R283, R284, R286, R287). -/
def finalWindow (d : Dev) (f : JFrame) : Dev :=
  let s := f.fr.stream
  let w := d.jn.wins.get {} s
  let counts := (List.range w.ncls).map (fun i => d.jn.wctr.get 0 (w.cbase + i))
  let wsat := (List.range w.ncls).any (fun i => d.jn.wsat.get false (w.cbase + i))
  let d := (d.copyLast w.cbase w.ncls).stage s f.fr.frame stWindow
  let d := (d.gathersOf s).foldl (fun d g =>
    let m := d.jn.gathers.get {} g
    let own := (List.range m.count).map (fun i => d.jn.wctr.get 0 (m.cbase + i))
    (d.copyLast m.cbase m.count).gatherFrame f own m.cbase g) d
  if !w.hasRec then d else
  let c := classify counts
  let ti := f.tinj.getD 0
  let bs := recordBytes f.fr.tb72 s 1 f.fr.epoch f.fr.frame c.1 c.2.1 c.2.2.1 c.2.2.2 (d.integrity f wsat) (ladderWord f.fr)
    ti (d.lastTick f) f.tbc 0 d.jn.seq
  let d := d.setJn { d.jn with reserved := d.jn.reserved - b2n f.reserved }
  (d.putRecord bs (1, s, f.fr.frame)).stage s f.fr.frame stResult

/-- A window begins: its block's counters, and those of its gather decoders, are set to 0 (R283). -/
def beginWindow (d : Dev) (f : JFrame) : Dev :=
  let w := d.jn.wins.get {} f.fr.stream
  let ks := ((List.range w.ncls).map (· + w.cbase)) ++ (d.gathersOf f.fr.stream).flatMap (fun g =>
    (List.range (d.jn.gathers.get {} g).count).map (· + (d.jn.gathers.get {} g).cbase))
  d.setJn { d.jn with
    wctr := ks.foldl (fun m k => m.set 0 k 0) d.jn.wctr, wsat := ks.foldl (fun m k => m.set false k false) d.jn.wsat }

/-- A counter belongs to the host window (R285). -/
def hostCounter (d : Dev) (k : Nat) : Bool :=
  !((List.range 64).any (fun s =>
      let w := d.jn.wins.get {} s
      w.ncls != 0 && decide (w.cbase ≤ k) && decide (k < w.cbase + w.ncls))) &&
    !((List.range 16).any (fun g =>
      let m := d.jn.gathers.get {} g
      m.en && decide (m.cbase ≤ k) && decide (k < m.cbase + m.count)))

/-- The host window closes (R285). -/
def hostWindow (d : Dev) : Dev :=
  let mine := d.jn.wctr.cells.filter (fun c => d.hostCounter c.1)
  let last := mine.foldl (fun m c => m.set 0 c.1 c.2) ⟨d.jn.wlast.cells.filter (fun c => !d.hostCounter c.1)⟩
  let live := mine.foldl (fun m c => m.set 0 c.1 0) d.jn.wctr
  Dev.bump (d.setJn { d.jn with wlast := last, wctr := live }) Reg.jnHwseq

/-- A frame that has left the junction: no train event and no window to come. -/
def jnOver (d : Dev) (t : Nat) (f : JFrame) : Bool :=
  f.trains.isEmpty && f.sent != 0 && (!d.forms f.fr.stream || decide (1 < tickDiff t (d.lastTick f)))

/-- What the junction does at the close of tick c, which opens tick t = c + 1 at TBC tbc: final windows, beginning windows,
the host window, assignment, emission (log entry 142). -/
def junctionClose (c tbc : Nat) (d : Dev) : Dev :=
  let t := (c + 1) % 2 ^ 32
  let live := d.jn.active.filter (fun f => d.forms f.fr.stream)
  let d := (live.filter (fun f => tickDiff c (d.lastTick f + 1) == 0)).foldl finalWindow d
  let d := (live.filter (fun f => tickDiff c (f.tinj.getD 0 + (d.jn.wins.get {} f.fr.stream).wofs) == 0)).foldl beginWindow d
  let d := if c % max 1 (d.fld Reg.jnCtl 15 0) = 0 then d.hostWindow else d
  let d := d.setJn { d.jn with active := d.jn.active.filter (fun f => !d.jnOver t f) }
  let d := assignFrames t tbc d.jn.eligible.length d
  (emitAll t d).showJn

/-- The encoder of a row-0 router has injected everything: nothing of its J port waits (R235, R278). -/
def encoderDone (d : Dev) (r : Nat) : Bool := !(d.router r).inject.any (fun i => i.port == pJ)

/-! ## The record queue's read side (R289) -/

/-- An entry is passed by JN_RQ_RD: its frame's ledger entry gets RING, or NOTDONE where it was skipped. -/
def passEntry (skip : Bool) (d : Dev) (i : Nat) : Dev :=
  let k := d.jn.kept.get (0, 0, 0) i
  let d := d.setJn { d.jn with kept := d.jn.kept.set (0, 0, 0) i (0, 0, 0) }
  if k.1 = 1 then d.stage k.2.1 k.2.2 (if skip then stNotDone else stRing) else d

/-- A write of JN_RQ_RD: the entries between are in host rings (R289, log entry 142). -/
def rqAdvance (v : Nat) (d : Dev) : Dev :=
  let n := max 1 d.rqCount
  let rd := d.fld Reg.jnRqRd 15 0
  let v := bits v 15 0
  let k := min d.rqUsed ((v + n - rd % n) % n)
  let d := ((List.range k).map (fun i => (rd + i) % n)).foldl (passEntry false) d
  let d := d.setJn { d.jn with retried := false }
  (d.setReg Reg.jnRqRd v).showJn

/-- A write of 1 to JN_RQ_SKIP (R289). -/
def rqSkip (d : Dev) : Dev :=
  let rd := d.fld Reg.jnRqRd 15 0
  if rd = d.fld Reg.jnRqWr 15 0 then d else
  let d := d.setJn { d.jn with retried := false }
  let d := (passEntry true d rd).setReg Reg.jnRqRd ((rd + 1) % max 1 d.rqCount)
  (d.bump Reg.jnRqLost).showJn

/-! ## TRIG_IN (R294) -/

/-- A sampled edge of TRIG_IN: it is stamped, is a wake source, pulses its line and, during a job, injects its event (R294,
R411, log entry 142). -/
def trigIn (i : Nat) (falling : Bool) (fine : Nat) (d : Dev) : Dev :=
  let c := d.rn (Reg.trgiCtl i)
  if bit c 9 != falling then d else
  let d := (d.setReg64 (Reg.trgiCapLo i) (Reg.trgiCapHi i) d.captureTime).setReg (Reg.trgiCapFine i) fine
  let d := (d.bump (Reg.trgiSeq i)).wake [.trigIn (Fin.ofNat 4 i)]
  let d := if d.senOn then { d with sen := { d.sen with edges := putBits d.sen.edges i i 1 } } else d
  let d := if bit c 8 then d.crossbarPulse (2 ^ bits c 19 16) else d
  let enc := bits c 23 20
  -- during a job: a tick has opened, and the fabric runs or is drained
  if bit c 31 && decide (jsRunning ≤ d.jobState) && decide (enc < d.meshCols) then
    let m := d.rn (Reg.trgiMask i)
    let p := mkPacket clsEvt (2 ^ d.ownDev) (bits m 15 0) (bits m 31 16) enc (d.fld (Reg.trgiAxon i) 15 0) (d.openTick + 1) 1 0x100
    (d.toInject enc pJ p).bump Reg.jnEvents
  else d

end Dev

open Dev

/-- WINDOW_ADD (R282). -/
def execWindowAdd (s : State) : Host.Outcome State Fault Refusal := onDev windowAdd s

/-- RECORD_QUEUE_READ_ADVANCE (R289). -/
def execRecordQueueReadAdvance (v : Word) (s : State) : Host.Outcome State Fault Refusal := onReg Reg.jnRqRd (rqAdvance v.toNat) s

/-- RECORD_SKIP (R289). -/
def execRecordSkip (s : State) : Host.Outcome State Fault Refusal := onReg Reg.jnRqSkip rqSkip s

/-- TRIG_IN_EDGE (R294). -/
def execTrigInEdge (i : Fin 4) (falling : Bool) (fine : BitVec 8) (s : State) : Host.Outcome State Fault Refusal :=
  onDev (trigIn i falling fine.toNat) s

end Sys2Proof.Machine
end

