-- ==== Sys2Proof/Machine/Barrier.lean ====
section
/-! DEFINITION. What routers do with packets, and the tick barrier: reports, closes, drains (R226-R244). -/

namespace Sys2Proof.Machine

namespace Dev

/-! ## The report tree (R236) -/

/-- The device root, router (7, 7). -/
def rootRouter : Nat := 119

/-- The router is present (R2). -/
def hasRouter (d : Dev) (r : Nat) : Bool := decide (r % 16 < d.meshCols)

/-- All routers. -/
def allRouters (d : Dev) : List Nat := (List.range 256).filter d.hasRouter

/-- The direction of a router's parent; 9 at the root. -/
def parentDir (r : Nat) : Nat :=
  if r % 16 < 7 then 1 else if 7 < r % 16 then 3 else if r / 16 < 7 then 2 else if 7 < r / 16 then 0 else 9

/-- The directions of its children. -/
def childDirs (d : Dev) (r : Nat) : List Nat :=
  (List.range 4).filter (fun k => match d.neighbour r k with
    | some m => parentDir m == farPort k
    | none => false)

/-- The time master's device, or the only one, holds the system root (R236). -/
def isSystemRoot (d : Dev) : Bool := d.jobDevs ≤ 1 || d.flag Reg.lkTsync 31

/-- Child devices of the time-sync route, by port. -/
def childPorts (d : Dev) : List Nat := if d.jobDevs ≤ 1 then [] else maskBits 4 (d.rn Reg.lkTsync)

/-- BARRIER packets (R220). -/
def kindReport : Nat := 0
def kindClose : Nat := 1
def kindForce : Nat := 2
def bkKind (p : Nat) : Nat := bits p 7 4
def bkTick (p : Nat) : Nat := bits p 43 12
def reportPacket (dev : Nat) (x : Report) : Nat :=
  clsBar + dev % 16 * 2 ^ 8 + x.tick % 2 ^ 32 * 2 ^ 12 + x.sent % 2 ^ 32 * 2 ^ 44 + x.recv % 2 ^ 32 * 2 ^ 76 + b2n x.done * 2 ^ 108
def reportOf (p : Nat) : Report := ⟨bkTick p, bits p 75 44, bits p 107 76, bit p 108, true⟩
def closePacket (c : Close) : Nat :=
  clsBar + (if c.force then kindForce else kindClose) * 2 ^ 4 + c.dev % 16 * 2 ^ 8 + c.tick % 2 ^ 32 * 2 ^ 12 +
    c.at_ % 2 ^ 32 * 2 ^ 44 + c.q % 64 * 2 ^ 76
def drainPkt (tick : Nat) : Nat := clsDrain + tick % 2 ^ 32 * 2 ^ 12

/-- The full TBC whose low word is AT, nearest the present. -/
def nearTbc (now at_ : Nat) : Nat := ((now : Int) + signedOf 32 (at_ + 2 ^ 32 - now % 2 ^ 32)).toNat

/-- A packet of the router itself goes to a neighbour on a channel, or waits in the replication buffer (log entry 141). -/
def sendOrWait (r vc pkt : Nat) (d : Dev) (dir : Nat) : Dev :=
  if d.granted r dir vc 7 then d.sendVia r dir vc 7 pkt
  else d.setRouter r { d.router r with repl := (d.router r).repl ++ [⟨vc, [(dir, pkt)]⟩] }

/-! ## Counts (R235) -/

/-- DONE of a router for its open tick (R235, R282); it stays 0 from the failure of its NC until the MP marks the NC down
(R243, log entry 141). -/
def routerDone (d : Dev) (r : Nat) : Bool :=
  let x := d.router r
  let n := d.nc r
  (!n.inJob || d.flag (Reg.ncStat r) 7 ||
      (!n.failed && decide (0 ≤ tickDiff n.openTick x.openTick) && !d.jn.adds.any (fun a => a.1 == r))) &&
    x.fromNc.isEmpty && !x.inject.any (fun i => i.port == pL) &&
    !x.pond.any (fun p => decide (tickDiff p.tick x.openTick < 0)) &&
    (decide (16 ≤ r) || d.encoderDone r)

/-- Combine a report with a child's latest; one of another tick proves nothing. -/
def joinReport (a b : Report) : Report :=
  { a with sent := (a.sent + b.sent) % 2 ^ 32, recv := (a.recv + b.recv) % 2 ^ 32, done := a.done && b.done && b.tick == a.tick }

/-- A router's combined report of its open tick (R236). -/
def combined (d : Dev) (r : Nat) : Report :=
  let x := d.router r
  let own : Report := ⟨x.openTick, x.sent.get 0 (x.openTick % 2), x.recv.get 0 (x.openTick % 2), d.routerDone r, true⟩
  let a := (d.childDirs r).foldl (fun a k => joinReport a (x.reports.get {} k)) own
  if r = rootRouter then d.childPorts.foldl (fun a p => joinReport a (d.bar.children.get {} p)) a else a

/-! ## Closing (R238-R242) -/

/-- LEN in force. A written value outside 160 to 16,000,000 is stored and used as it stands, and 0 acts as 1: the manual does not
say what such a write does (R22, R248, log entry 120). -/
def tickLen (d : Dev) : Nat := max 1 (d.fld Reg.mrTickLen 23 0)
def barLead (d : Dev) : Nat := d.fld Reg.mrBarLead 15 0
def holdMax (d : Dev) : Nat := d.fld Reg.mrCtl 23 16
def stretched (d : Dev) : Bool := d.flag Reg.mrStat 0

/-- N(t) (R238). -/
def nominal (d : Dev) (t : Nat) : Nat := (((d.bar.tbase : Nat) : Int) + (tickDiff t d.bar.t0 + 1) * (d.tickLen : Nat)).toNat

/-- The nominal end of the open tick t: N(t), and C(t − 1) + LEN where ticks stretch (R238, R241, R248). -/
def nominalEnd (d : Dev) (t : Nat) : Nat := if d.stretched then d.bar.lastClose + d.tickLen else d.nominal t

/-- The open tick is the drain tick T + 1, which the root does not close (R244). -/
def drainTickNow (d : Dev) (t : Nat) : Bool :=
  match d.bar.drainTick with
  | some x => t == (x + 1) % 2 ^ 32
  | none => false

/-- Tick c.tick opens its successor in a router (R230, R235, R239, log entry 141). -/
def closeRouter (c : Close) (d : Dev) (r : Nat) : Dev :=
  let x := d.router r
  if x.openTick ≠ c.tick then d else
  let due := x.pond.filter (fun p => decide (tickDiff p.tick c.tick ≤ 0))
  let d := d.setRouter r { x with
    openTick := (c.tick + 1) % 2 ^ 32, close := none
    sent := x.sent.set 0 (c.tick % 2) 0, recv := x.recv.set 0 (c.tick % 2) 0
    pond := x.pond.filter (fun p => !decide (tickDiff p.tick c.tick ≤ 0)) }
  (due.foldl (fun d p => d.toInject r pL p.pkt) d).showPond r

/-- A tick-log entry (R242): at most 64 are kept, the newest first. -/
def logTick (d : Dev) (tick at_ flags : Nat) : Dev :=
  Dev.bump { d with bar := { d.bar with tlog := (⟨tick, at_, flags⟩ :: d.bar.tlog).take 64 } } Reg.mrTlogCount

/-- The resume close ends the command that waits for it: JOB_RESUME, or a CHECKPOINT that drained the fabric itself (R244,
R268, R392). -/
def resumeDone (next : Nat) (d : Dev) : Dev :=
  let d := { d with vci := { d.vci with resume := none } }
  match d.jobBegun 0x14, d.jobBegun 0x17 with
  | some c, _ => (d.setJob jsRunning c.tag).complete c 0 [next]
  | none, some c => d.complete c 0 [d.rn Reg.lrnCkptSeq]
  | none, none => d

/-- The device closes a tick: time comes to AT, every router that holds the close opens the next tick, and the junction,
timers and registers follow. -/
def closeTick (c : Close) (d : Dev) : Dev :=
  let resume := d.vci.resume == some c.tick
  let again := if d.drainTickNow c.tick then none else d.bar.drainTick
  let d := d.advanceTo c.at_
  let next := (c.tick + 1) % 2 ^ 32
  let late := decide (d.nominalEnd c.tick < c.at_)
  let d := if resume then { d with bar := { d.bar with tbase := c.at_, t0 := next, drainTick := again } } else d
  let slip := if d.stretched || resume then 0 else c.at_ - d.nominal c.tick
  let long := c.q != 0 || slip != 0
  let d := if late && !resume then d.bump Reg.mrOverdueTicks else d
  let d := (d.bump Reg.mrStretchQuanta c.q).setReg Reg.mrSlip slip
  let d := if c.force then (d.bump Reg.mrForced).markFrames 6 c.tick else d
  let d := if long then d.markFrames 7 c.tick else d
  let d := if long || c.force || resume then
      d.logTick c.tick c.at_ (c.q + b2n (slip != 0) * 2 ^ 16 + b2n (c.q != 0) * 2 ^ 17 + b2n c.force * 2 ^ 18 + b2n resume * 2 ^ 19)
    else d
  let d := { d with bar := { d.bar with lastClose := c.at_ } }
  let d := ((d.setReg Reg.mrTick next).setReg64 Reg.mrTstartLo Reg.mrTstartHi c.at_).setFlag Reg.mrStat 5 false
  let d := d.raceTaken
  let d := ((d.allRouters).filter (fun r => match (d.router r).close with
    | some x => x.tick == c.tick
    | none => false)).foldl (closeRouter c) d
  let d := (d.junctionClose c.tick c.at_).gtClockEdge 6
  if resume then d.resumeDone next else d

/-- A router schedules a close of its open tick. One whose AT has passed takes effect on receipt, the device's by its root
router, and a router whose device has already closed the tick follows at once (R239). -/
def schedule (r : Nat) (c : Close) (d : Dev) : Dev :=
  let x := d.router r
  if x.openTick ≠ c.tick then d else
  let own := decide (d.openTick = c.tick)
  let late := decide (c.at_ < d.tb.tbc)
  let d := if late && x.close.isNone then d.bump Reg.mrCloseLate (d.tb.tbc - c.at_) else d
  if own && !late then
    (if c.force then d.setFlag Reg.mrStat 5 true else d).setRouter r { x with close := some c }
  else if own && r == rootRouter then (d.setRouter r { x with close := some c }).closeTick c
  else d.closeRouter c r

/-- A child device's latest report names a tick after that of a close. -/
def childPast (d : Dev) (c : Close) (p : Nat) : Bool :=
  let x := d.bar.children.get {} p
  x.got && decide (0 < tickDiff x.tick c.tick)

/-- A close goes down the report tree from a router, and from the device root to child devices (R238), which hear it until they
have reported past it (R342). -/
def fanDown (r : Nat) (c : Close) (d : Dev) : Dev :=
  let pkt := closePacket c
  let d := (d.childDirs r).foldl (sendOrWait r 2 pkt) d
  if r ≠ rootRouter || d.childPorts.isEmpty then d else
  let open_ := d.bar.unheard.filter (fun k => !d.childPorts.all (d.childPast k))
  d.childPorts.foldl (fun d p => d.egress p 2 pkt) { d with bar := { d.bar with unheard := open_ ++ [c] } }

/-- close(t, at, q, kind) at the system root. -/
def rootClose (c : Close) (d : Dev) : Dev :=
  let c := { c with dev := d.ownDev }
  let d := { d with bar := { d.bar with closed := some c } }
  (d.schedule rootRouter c).fanDown rootRouter c

/-- root_check (R238); a drain's last tick is left open (R244, log entry 141). -/
def rootCheck (x : Report) (d : Dev) : Dev :=
  let t := x.tick
  let now := d.tb.tbc
  let lead := d.barLead
  let len := d.tickLen
  let balanced := x.done && x.sent == x.recv
  let already := match d.bar.closed with
    | some c => c.tick == t
    | none => false
  if already || d.drainTickNow t || !d.flow then d else
  let c1 := d.bar.lastClose
  if !d.stretched then
    let slip := c1 - d.nominal (t + 2 ^ 32 - 1)
    let target := c1 + len - min slip (len / 8)
    if balanced then d.rootClose { tick := t, at_ := max target (now + lead), q := 0, force := false }
    else if d.nominal t + d.holdMax * len ≤ now + lead then d.rootClose { tick := t, at_ := now + lead, q := 0, force := true }
    else d
  else
    let end_ (q : Nat) : Nat := c1 + len + q * len / 8
    match (List.range 57).find? (fun q => decide (now + lead ≤ end_ q)) with
    | some q => if balanced then d.rootClose { tick := t, at_ := end_ q, q := q, force := false }
                else if end_ 56 ≤ now + lead then d.rootClose { tick := t, at_ := end_ 56, q := 56, force := true } else d
    | none => d.rootClose { tick := t, at_ := end_ 56, q := 56, force := true }

/-- A router that drains sends DRAIN on every output once its buffers are empty (R244); not once the fabric resumes, while its
tick T + 1 is still open. -/
def sendDrain (r : Nat) (d : Dev) : Dev :=
  let x := d.router r
  let quiet := x.inbuf.cells.all (fun c => c.2.isEmpty || c.2.all (fun p => pkClass p == clsDrain || pkClass p == clsBar)) &&
    x.repl.isEmpty && x.inject.isEmpty && x.fromNc.isEmpty
  if x.drainOut || d.vci.resume.isSome || !d.drainTickNow x.openTick || !d.routerDone r || !quiet then d else
  let d := d.setRouter r { x with drainOut := true }
  ((List.range 4).filter (fun k => (d.neighbour r k).isSome)).foldl (sendOrWait r 2 (drainPkt x.openTick)) d

/-- BARRIER_REPORT: a router sends its combined report upward; the device root forwards it to its parent device, or, at
the system root, evaluates it (R236). -/
def report (r : Nat) (d : Dev) : Dev :=
  if !d.hasRouter r || !d.flow then d else
  let x := d.combined r
  let d :=
    if r ≠ rootRouter then
      if d.granted r (parentDir r) 2 7 then d.sendVia r (parentDir r) 2 7 (reportPacket d.ownDev x) else d
    else if d.isSystemRoot then d.rootCheck x
    else if d.egressRoom d.syncPort 2 then d.egress d.syncPort 2 (reportPacket d.ownDev x) else d
  d.sendDrain r

/-! ## What a router does with the head of an input buffer (R226, R236, R239, R244) -/

/-- The close that a CLOSE or FORCE announces, with its originating device (R220). -/
def closeOf (d : Dev) (pkt : Nat) : Close :=
  { tick := bkTick pkt, at_ := nearTbc d.tb.tbc (bits pkt 75 44), q := bits pkt 81 76, force := bkKind pkt == kindForce
    dev := bits pkt 11 8 }

/-- A CLOSE or FORCE reaches a router. -/
def takeClose (r pkt : Nat) (d : Dev) : Dev :=
  let c := d.closeOf pkt
  if (d.router r).openTick ≠ c.tick || (d.router r).close.isSome then d
  else (d.schedule r c).fanDown r c

/-- A DRAIN reaches a router by a port (R244). -/
def takeDrain (r port : Nat) (d : Dev) : Dev :=
  let x := d.router r
  (d.setRouter r { x with drainIn := putBits x.drainIn port port 1 }).sendDrain r

/-- A router is drained: every input has delivered a DRAIN, and no branch waits (R244). -/
def routerDrained (d : Dev) (r : Nat) : Bool :=
  ((List.range 4).filter (fun k => (d.neighbour r k).isSome)).all (bit (d.router r).drainIn) && (d.router r).repl.isEmpty

/-- ROUTER_RECEIVE: the head of an input buffer (R219, R226). -/
def routerReceive (r port vc : Nat) (d : Dev) : Dev :=
  match d.inBuf r port vc with
  | [] => d
  | pkt :: _ =>
    let c := pkClass pkt
    let pop (d : Dev) : Dev := d.popBuf r port vc
    if c = 0 ∨ 8 < c then (pop d).bump Reg.mrBadClass
    else if vc = 4 ∨ tagPort pkt ≠ 0 then forward r port vc pkt d
    else if c = clsBar then
      if bkKind pkt = kindReport then
        let d := pop d
        d.setRouter r { d.router r with reports := (d.router r).reports.set {} port (reportOf pkt) }
      else takeClose r pkt (pop d)
    else if c = clsDrain then takeDrain r port (pop d)
    else forward r port vc pkt d

/-- The first input of the completion/barrier channel whose head is a barrier packet of a kind. -/
def barrierHead (d : Dev) (r kind : Nat) : Option (Nat × Nat) :=
  ((List.range 7).map (fun p => (p, d.inBuf r p 2))).findSome? (fun x => match x.2 with
    | pkt :: _ => if pkClass pkt = clsBar ∧ bkKind pkt = kind then some (x.1, pkt) else none
    | [] => none)

/-- BARRIER_CLOSE_RECEIVE and BARRIER_FORCE_RECEIVE. -/
def closeReceive (r kind : Nat) (d : Dev) : Dev :=
  match d.barrierHead r kind with
  | none => d
  | some x => takeClose r x.2 (d.setInBuf r x.1 2 ((d.inBuf r x.1 2).drop 1))

/-- DRAIN_PACKET. -/
def drainReceive (r port : Nat) (d : Dev) : Dev :=
  match d.inBuf r port 2 with
  | [] => d
  | pkt :: rest => if pkClass pkt = clsDrain then takeDrain r port (d.setInBuf r port 2 rest) else d

/-- A parent repeats each CLOSE and FORCE toward a child device whose reports have not passed its tick (R342). -/
def repeatClose (p : Nat) (d : Dev) : Dev :=
  if !d.childPorts.contains p then d else
  (d.bar.unheard.filter (fun c => !d.childPast c p)).foldl (fun d c => d.egress p 2 (closePacket c)) d

/-! ## TICK_CLOSE (R239-R242) -/

/-- TICK_CLOSE: the close that the device root holds. -/
def tickClose (d : Dev) : Dev :=
  match (d.router rootRouter).close with
  | none => d
  | some c => if c.tick = d.openTick && d.flow then d.closeTick c else d

/-! ## The end of a drain (R244, R249) -/

/-- Every window of every router is without outstanding copies, and no landing entry owes a COMPLETION. -/
def windowsEmpty (d : Dev) : Bool :=
  d.allRouters.all (fun r => (List.range 16).all (fun v =>
    v == d.ownDev || (d.router r).nextSeq.get 0 v == (d.router r).acked.get 0 v)) &&
  d.bar.landing.cells.all (fun c => c.2.pend == 0)

/-- No plastic event waits, not even one that its NC has not taken, and every update is written (R249). -/
def learningQuiet (d : Dev) : Bool :=
  d.ncs.cells.all (fun c => !c.2.inJob || c.2.failed ||
    (!c.2.events.any (fun p => hdPlastic (headerOf c.2 (pkAxon p % 65536))) && c.2.peq.isEmpty && c.2.heldUpd.isEmpty && c.2.banks.cells.all (fun b => b.2.isEmpty)))

/-- The fabric is at rest with the drain tick open. -/
def fabricQuiet (d : Dev) : Bool :=
  d.drainTickNow d.openTick && d.allRouters.all d.routerDrained && d.windowsEmpty && d.learningQuiet &&
    d.jn.adds.isEmpty

/-- MR_STAT.DRAINED becomes 1 (R244). -/
def setDrained (d : Dev) : Dev :=
  ((((d.setFlag Reg.mrStat 4 true).setFlag Reg.mrStat 3 false).setFlag Reg.mrStat 1 false).bump Reg.mrDrains)

end Dev

open Dev

/-- ROUTER_RECEIVE (R226). -/
def execRouterReceive (r : Fin 256) (port : Fin 7) (vc : Fin 5) (s : State) : Host.Outcome State Fault Refusal :=
  onDev (routerReceive r port vc) s

/-- REPLICATION_BRANCH_SEND (R228). -/
def execReplicationBranchSend (r : Fin 256) (s : State) : Host.Outcome State Fault Refusal := onDev (branchSend r) s

/-- SEND_COPY (R232). -/
def execSendCopy (r : Fin 256) (s : State) : Host.Outcome State Fault Refusal := onDev (Dev.sendCopy r) s

/-- COMPLETION_RECEIVE (R232). -/
def execCompletionReceive (r : Fin 256) (s : State) : Host.Outcome State Fault Refusal := onDev (takeCompletion r) s

/-- BARRIER_REPORT (R236). -/
def execBarrierReport (r : Fin 256) (s : State) : Host.Outcome State Fault Refusal := onDev (report r) s

/-- BARRIER_CLOSE_RECEIVE (R239). -/
def execBarrierCloseReceive (r : Fin 256) (s : State) : Host.Outcome State Fault Refusal := onDev (closeReceive r kindClose) s

/-- BARRIER_FORCE_RECEIVE (R239). -/
def execBarrierForceReceive (r : Fin 256) (s : State) : Host.Outcome State Fault Refusal := onDev (closeReceive r kindForce) s

/-- CLOSE_REPEAT (R342). -/
def execCloseRepeat (port : Fin 4) (s : State) : Host.Outcome State Fault Refusal := onDev (repeatClose port) s

/-- TICK_CLOSE (R239). -/
def execTickClose (s : State) : Host.Outcome State Fault Refusal := onDev Dev.tickClose s

/-- DRAIN_PACKET (R244). -/
def execDrainPacket (r : Fin 256) (port : Fin 4) (s : State) : Host.Outcome State Fault Refusal := onDev (drainReceive r port) s

end Sys2Proof.Machine
end

