-- ==== Sys2Proof/Machine/Leat.lean ====
section
/-! DEFINITION. Leat ports: codewords, link state, failures and replay, landing, collectives (R325-R347, R461, R462). -/

namespace Sys2Proof.Machine

namespace Dev

/-! ## Codewords (R326-R329) -/

/-- Send while there is something to send. -/
def pump (p : Nat) (d : Dev) : Dev := (List.range 14).foldl (fun d _ => d.transmit p) d

/-- Slot 0 of a received codeword: acknowledgement, resend request and credits (R327, R329). -/
def takeControl (p : Nat) (cw : Codeword) (d : Dev) : Dev :=
  let x := d.port p
  let used := (List.range 8).foldl (fun m v => m.set 0 v (m.get 0 v - bits cw.credit.toNat (6 * v + 5) (6 * v))) x.used
  let x := { x with used := used }
  if !cw.ackValid then d.setPort p x else
  let a := cw.ack.toNat
  let i := x.replay.findIdx? (fun c => c.seq == a)
  let left := match i with
    | some k => x.replay.drop (k + 1)
    | none => x.replay
  if !cw.nak then d.setPort p { x with replay := left } else
  let again := left.map (fun (c : SentCw) => { c with resent := c.resent + 1 })
  (d.setPort p { x with replay := again }).bump (Reg.lkPortReplays p) again.length

/-- CODEWORD_RECEIVE (R329, log entry 144). -/
def codeword (p : Nat) (cw : Codeword) (d : Dev) : Dev :=
  if !d.flag (Reg.lkPortStat p) 1 then d else
  let d := (d.bump64 (Reg.lkPortCwLo p) (Reg.lkPortCwHi p) 1).bump64 (Reg.lkPortCsymLo p) (Reg.lkPortCsymHi p) cw.corrected
  if !cw.ok then (d.bump (Reg.lkPortUncorr p)).setPort p { d.port p with nak := true }
  else if 2 ≤ cw.kind.toNat ∧ cw.kind.toNat = 3 ∨ cw.kind.toNat = 1 then d
  -- R329: a DATA codeword out of order is discarded whole
  else if cw.kind.toNat = 0 ∧ cw.cwseq.toNat ≠ (d.port p).rxNext then d.pump p
  else
    let d := d.takeControl p cw
    let x := d.port p
    let d :=
      if cw.kind.toNat = 2 then d
      else if !d.inUse p then d.setPort p { x with rxNext := (x.rxNext + 1) % 1024, nak := false }
      else
        let put (l : SMap (List Nat)) (q : LeatPacket) : SMap (List Nat) :=
          let n := tagged q.pkt.toNat (b2n q.set) q.src q.dst 7
          let v := vcOf (pkClass n) + 4 * b2n q.set
          l.set [] v (l.get [] v ++ [n])
        let d := d.bump64 (Reg.lkPortRxpktLo p) (Reg.lkPortRxpktHi p) cw.packets.length
        d.setPort p { x with
          rxNext := (x.rxNext + 1) % 1024, nak := false, landing := cw.packets.foldl put x.landing }
    d.pump p

/-! ## Link state (R330, R461) -/

/-- INUSE of a port, in its register and in LK_STAT. -/
def setInUse (d : Dev) (p : Nat) (v : Bool) : Dev := (d.setFlag (Reg.lkPortStat p) 2 v).setFlag Reg.lkStat p v

/-- A port comes into use between jobs, or as a job starts: enabled, UP without MISMATCH, and qualified (R330). After two failed runs in a row it stays out of use until EN is written anew (R461). -/
def refreshUse (d : Dev) (p : Nat) : Dev :=
  let s := d.rn (Reg.lkPortStat p)
  d.setInUse p (d.flag (Reg.lkPortCfg p) 31 && bit s 1 && !bit s 3 && d.flag (Reg.lkPortQual p) 1 &&
    decide ((d.port p).qualFails < 2))

/-- MISMATCH of a trained port that the description enables (R330, R462). -/
def showMismatch (d : Dev) (p : Nat) : Dev :=
  let r := d.rn (Reg.lkPortPartner p)
  let c := d.rn (Reg.lkPortCfg p)
  d.setFlag (Reg.lkPortStat p) 3 (d.flag (Reg.lkPortStat p) 1 && bit c 31 &&
    (!bit r 31 || bits r 19 16 != bits c 19 16 || bits r 13 12 != bits c 13 12))

/-- LK_SYSID has changed: every trained partner is held against it again (R330). -/
def showSysid (d : Dev) : Dev :=
  (List.range 4).foldl (fun (d : Dev) p =>
    if !d.flag (Reg.lkPortStat p) 1 then d else
    let d := (d.setFlag (Reg.lkPortPartner p) 31 ((d.port p).sysid == d.rn Reg.lkSysid)).showMismatch p
    if d.jobOn then d else d.refreshUse p) d

/-- PORT_TRAIN: from step 10 on, every port present trains once it sees a partner, whether or not it is described, and is then
qualified, but after a wake with its former partner (R330, R332, R414, R461, R462). Its lanes are released (R416). -/
def portTrain (p sysid dev pport : Nat) (d : Dev) : Dev :=
  if (d.isC2 && p % 2 == 0) || decide (2 ≤ d.pwrState) || decide (d.fld Reg.secBootStat 3 0 < 10) then d else
  let d := d.setFlag Reg.pwrPadHold 4 false
  let x := d.port p
  let v := b2n (sysid == d.rn Reg.lkSysid) * 2 ^ 31 + dev % 16 * 2 ^ 16 + pport % 4 * 2 ^ 12
  -- R414: a port that was qualified before NAP or SENTINEL stays so with its partner
  let kept := bit d.pwr.portsWere p && d.rn (Reg.lkPortPartner p) == v && x.sysid == sysid
  let d := d.setReg (Reg.lkPortPartner p) v
  let d := d.setPort p { x with
    sysid := sysid, times := [], txSeq := 0, rxNext := 0, nak := false, replay := [], used := ⟨[]⟩, freed := ⟨[]⟩, egress := ⟨[]⟩, reserved := ⟨[]⟩ }
  let d := (d.setFlag (Reg.lkPortStat p) 1 true).showMismatch p
  let d := { d with pwr := { d.pwr with portsWere := putBits d.pwr.portsWere p p 0 } }
  let d := if kept then d else d.setReg (Reg.lkPortQual p) 0
  if d.jobOn && !kept then d else d.refreshUse p

/-- PORT_QUALIFY (R461). -/
def portQualify (p errs : Nat) (bad peer : Bool) (d : Dev) : Dev :=
  if !d.flag (Reg.lkPortStat p) 1 || d.flag (Reg.lkPortQual p) 0 then d else
  let d := d.setReg (Reg.secQualBiterr p) (min errs 0xFFFFFFFF)
  let x := d.port p
  if errs ≤ 2147 ∧ !bad ∧ peer then
    let d := (d.setReg (Reg.lkPortQual p) 3).setPort p { x with qualFails := if x.qualFails < 2 then 0 else x.qualFails }
    if d.jobOn then d else d.refreshUse p
  else
    let d := d.setPort p { x with qualFails := x.qualFails + 1 }
    if x.qualFails + 1 < 2 then d.setFlag (Reg.lkPortStat p) 1 false else d.setReg (Reg.lkPortQual p) 1

/-- A write of LK_PORTp_CFG: EN shows in STAT; EN from 0 to 1 gives a port its qualification runs again (R461). -/
def portCfgWrite (p v : Nat) (d : Dev) : Dev :=
  let was := d.flag (Reg.lkPortCfg p) 31
  let d := ((d.setReg (Reg.lkPortCfg p) v).setFlag (Reg.lkPortStat p) 0 (bit v 31)).showMismatch p
  let d := if bit v 31 && !was then
      let d := d.setPort p { d.port p with qualFails := 0 }
      if d.flag (Reg.lkPortQual p) 1 then d else d.setReg (Reg.lkPortQual p) 0
    else d
  if d.jobOn then d else d.refreshUse p

/-! ## COMPLETIONs (R220, R232) -/

/-- A COMPLETION from a landing-table entry (source device s, NC n); it goes straight to its egress buffer, if there is room
(log entry 9, log entry 144). -/
def sendCompletion (s n count : Nat) (d : Dev) : Dev :=
  let key := s * 256 + n
  let e := d.bar.landing.get {} key
  match d.routeTo s with
  | none => d
  | some (p, rev) =>
    let set := d.setOut p 0
    let v := 2 + 4 * set
    if !d.canReserve p v then d else
    let pkt := clsCpl + 2 ^ s * 2 ^ 4 + 2 ^ (n / 16) * 2 ^ 20 + 2 ^ (n % 16) * 2 ^ 36 + d.ownDev * 2 ^ 52 + e.next % 4096 * 2 ^ 60 +
      min count 255 * 2 ^ 72 + b2n rev * 2 ^ 127
    Dev.egress p v (tagged pkt set d.ownDev s p)
      { d with bar := { d.bar with landing := d.bar.landing.set {} key { e with pend := if count = 0 then e.pend else 0, again := false } } }

/-- COMPLETION_TIMER: every landing entry with packets pending sends, and an ACK that is owed again (R232, R338). -/
def completionTimer (d : Dev) : Dev :=
  d.bar.landing.cells.foldl (fun d c =>
    if c.2.pend = 0 ∧ !c.2.again then d else d.sendCompletion (c.1 / 256) (c.1 % 256) c.2.pend) d

/-- A landing entry's present ACK is to be sent once more, with COUNT 0: at once, or as soon as the timer finds room (R338). -/
def ackAgain (s n : Nat) (d : Dev) : Dev :=
  let key := s * 256 + n
  sendCompletion s n 0
    { d with bar := { d.bar with landing := d.bar.landing.set {} key { d.bar.landing.get {} key with again := true } } }

/-! ## Collectives (R343-R345) -/

def coll (d : Dev) (g : Nat) : Coll := d.colls.get {} g
def setColl (d : Dev) (g : Nat) (x : Coll) : Dev := { d with colls := d.colls.set {} g x }
def collCfg (d : Dev) (g : Nat) : Nat := d.rn (Reg.lkCollCfg g)
def collRoot (d : Dev) (g : Nat) : Nat := bits (d.collCfg g) 19 16
def collMembers (d : Dev) (g : Nat) : Nat := bits (d.collCfg g) 15 0
def collOp (d : Dev) (g : Nat) : Nat := bits (d.collCfg g) 26 24
def collSeq (d : Dev) (g : Nat) : Nat := d.fld (Reg.lkCollStat g) 31 16

/-- Combine two 64-bit values (R343). -/
def combine (op a b : Nat) : Nat :=
  if op = 0 then (a + b) % 2 ^ 64
  else if op = 1 then (if signedOf 64 a < signedOf 64 b then b else a)
  else if op = 2 then (if signedOf 64 b < signedOf 64 a then b else a)
  else if op = 3 then a ||| b
  else if op = 4 then a &&& b
  else a

/-- A COLLECTIVE packet goes to a device by its route (R344, R345, log entry 144). -/
def sendColl (d : Dev) (g dev seq value : Nat) (down : Bool) : Dev :=
  match d.routeTo dev with
  | none => d.bump Reg.lkUnreach
  | some (p, rev) =>
    let set := d.setOut p 0
    let pkt := clsColl + d.collOp g * 2 ^ 4 + g * 2 ^ 8 + d.ownDev * 2 ^ 12 + seq % 65536 * 2 ^ 16 + value % 2 ^ 64 * 2 ^ 48 +
      b2n down * 2 ^ 112 + b2n rev * 2 ^ 127
    d.egress p (3 + 4 * set) (tagged pkt set d.ownDev dev p)

/-- Other members of a group. -/
def otherMembers (d : Dev) (g : Nat) : List Nat := (maskBits 16 (d.collMembers g)).filter (· != d.ownDev)

/-- A collective completes on this device (R345). -/
def collDone (d : Dev) (g value : Nat) : Dev :=
  let x := d.coll g
  let seq := d.collSeq g
  let d := (d.setReg64 (Reg.lkCollResLo g) (Reg.lkCollResHi g) value).setReg (Reg.lkCollStat g) ((seq + 1) % 65536 * 65536)
  let d := d.setColl g { x with pend := false, last := value, began := x.began + 1 }
  match d.activeCmd 0x33 x.tag with
  | some c => d.complete c 0 [value % 2 ^ 32, value / 2 ^ 32, seq]
  | none => d

/-- ROOT has every contribution: it sends DOWN and completes. -/
def rootMay (g : Nat) (d : Dev) : Dev :=
  let x := d.coll g
  if x.pend && (d.collOp g == 5 || x.seen &&& d.collMembers g == d.collMembers g) then
    let d := (d.otherMembers g).foldl (fun d v => d.sendColl g v (d.collSeq g) x.total true) d
    d.collDone g x.total
  else d

/-- This device contributes to a group's next collective (R343, R345). -/
def collStart (g value tag : Nat) (d : Dev) : Dev :=
  let x := d.coll g
  let d := d.setFlag (Reg.lkCollStat g) 0 true
  let d := d.setColl g { x with pend := true, since := d.tb.tbc, tag := tag, value := value, seen := 2 ^ d.ownDev, total := value }
  if d.collRoot g = d.ownDev then d.rootMay g
  else if d.collOp g = 5 then d
  else d.sendColl g (d.collRoot g) (d.collSeq g) value false

/-- COLLECTIVE_UP at ROOT (R345). -/
def collUp (pkt : Nat) (d : Dev) : Dev :=
  let g := bits pkt 11 8
  let src := bits pkt 15 12
  let x := d.coll g
  if !x.pend || d.collRoot g ≠ d.ownDev || bits pkt 31 16 ≠ d.collSeq g || !bit (d.collMembers g) src || bit x.seen src then
    d.bump Reg.lkCollDups
  else
    (d.setColl g { x with seen := putBits x.seen src src 1, total := combine (d.collOp g) x.total (bits pkt 111 48) }).rootMay g

/-- COLLECTIVE_DOWN at a member (R345). -/
def collDown (pkt : Nat) (d : Dev) : Dev :=
  let g := bits pkt 11 8
  let x := d.coll g
  if !x.pend || d.collRoot g = d.ownDev || bits pkt 31 16 ≠ d.collSeq g then d.bump Reg.lkCollDups
  else d.collDone g (bits pkt 111 48)

/-- COLLECTIVE_TIMEOUT: LK_COLL_TMO µs have passed (R345). The command completes, CSEQ stays, and the job is split. -/
def collTimeout (g : Nat) (d : Dev) : Dev :=
  let x := d.coll g
  if !x.pend then d else
  let d := d.advanceTo (x.since + d.fld Reg.lkCollTmo 15 0 * 1600)
  let d := (d.setColl g { x with pend := false }).setFlag (Reg.lkCollStat g) 0 false
  let d := match d.activeCmd 0x33 x.tag with
    | some c => d.complete c 0x43 []
    | none => d
  d.noteSplit 4 g

/-! ## Link failures (R331, R332, R337, R338, R341, R345, R346) -/

/-- LK_LINKS_DOWN names a link of a mask. -/
def inMask (m link : Nat) : Bool := bit m link

/-- Copies kept for a device are sent again by the reverse route (R338). -/
def replayRouter (dev p : Nat) (d : Dev) (r : Nat) : Dev :=
  let x := d.router r
  let a := x.acked.get 0 dev
  let n := (x.nextSeq.get 0 dev + 4096 - a) % 4096
  if n = 0 then d else
  let set := d.setOut p 0
  let again := (List.range n).map (fun i =>
    Inject.mk (tagged (putBits (d.num (d.replayAddr r dev ((a + i) % 4096)) 16) 127 127 1) set d.ownDev dev p) [dev] pL)
  (d.setRouter r { x with inject := again ++ x.inject }).bump Reg.lkReplayed n

/-- A device whose primary route meets a link that has just gone down (R337, R338). -/
def routeLost (link : Nat) (d : Dev) (dev : Nat) : Dev :=
  if !d.flag (Reg.lkRoute dev) 31 || !inMask (d.rn (Reg.lkRoutePmask dev)) link then
    (if d.flag (Reg.lkRoute dev) 31 && (d.routeTo dev).isNone then d.noteSplit 3 link else d)
  else
    match d.routeTo dev with
    | some (p, true) =>
      let d := d.allRouters.foldl (replayRouter dev p) d
      ((d.bar.landing.cells.filter (fun c => c.1 / 256 == dev)).map (·.1 % 256)).foldl (fun d n => d.ackAgain dev n) d
    | some (_, false) => d
    | none => d.noteSplit 3 link

/-- Collectives resend after a link has gone down (R345). -/
def collResend (link : Nat) (d : Dev) (g : Nat) : Dev :=
  if !bit (d.collCfg g) 31 then d else
  let x := d.coll g
  if d.collRoot g ≠ d.ownDev then
    (if x.pend && d.collOp g != 5 then d.sendColl g (d.collRoot g) (d.collSeq g) x.value false else d)
  else if x.began = 0 then d
  else ((d.otherMembers g).filter (fun v => inMask (d.rn (Reg.lkRoutePmask v)) link)).foldl (fun d v =>
    d.sendColl g v (d.collSeq g + 65535) x.last true) d

/-- LK_LINKS_DOWN gains a bit. -/
def gainLink (link : Nat) (d : Dev) : Dev :=
  if d.flag Reg.lkLinksDown link then d else
  let d := (d.setFlag Reg.lkLinksDown link true).showRoutes
  let d := (List.range 16).foldl (routeLost link) d
  (List.range 16).foldl (collResend link) d

/-- A link-down notice goes out through the ports in use, but one. Its layout is internal to firmware (log entry 9). -/
def sendNotices (link skip : Nat) (d : Dev) : Dev :=
  ((List.range 4).filter (fun q => q != skip && d.inUse q)).foldl (fun d q => d.egress q 3 (clsCtrl + link * 2 ^ 4)) d

/-- LINK_DOWN_NOTICE (R332). -/
def linkNotice (p link : Nat) (d : Dev) : Dev :=
  if bit d.noticed link || !d.jobOn then d else
  let d := { d.bump Reg.lkNotices with noticed := putBits d.noticed link link 1 }
  (d.gainLink link).sendNotices link p

/-- A port goes down (R331): the two ends detect each cause on their own (log entry 144). -/
def portDown (p cause : Nat) (d : Dev) : Dev :=
  let up := d.flag (Reg.lkPortStat p) 1
  if !d.inUse p then (if up && (cause ≤ 2 || cause ≥ 5) then (d.setFlag (Reg.lkPortStat p) 1 false).showMismatch p else d) else
  let link := d.fld (Reg.lkPortCfg p) 26 22
  let d := (d.setFlag (Reg.lkPortStat p) 1 false).setInUse p false
  let d := ((d.setFld (Reg.lkPortStat p) 11 8 cause).bump (Reg.lkPortDowns p)).showMismatch p
  let x := d.port p
  let before := d.rn Reg.lkReplayed
  let d := d.setPort p { x with
    downTick := d.openTick, times := [], egress := ⟨[]⟩, replay := [], used := ⟨[]⟩, reserved := ⟨[]⟩ }
  let d := if d.jobOn then
      Dev.gainLink link (Dev.sendNotices link p { d with noticed := putBits d.noticed link link 1 })
    else d
  let d := d.setPort p { d.port p with downReplayed := d.rn Reg.lkReplayed - before }
  let d := d.logError unitLeat clsEvent (0xA0 + cause) p link
  -- R341: with neither the parent nor the alternate left the device enters HOLDOVER and the job is split
  let t := d.rn Reg.lkTsync
  if !bit t 31 && decide (1 < d.jobDevs) && (bits t 29 28 == p || (bit t 30 && bits t 25 24 == p)) && !d.inUse d.syncPort then
    d.syncLost.noteSplit 3 link
  else d

/-- The device leaves RUN: every INUSE port goes down with cause LOCAL and stays trained (R331, R407). -/
def portsLeave (d : Dev) : Dev :=
  (List.range 4).foldl (fun (d : Dev) p =>
    let up := d.flag (Reg.lkPortStat p) 1
    ((d.portDown p 6).setFlag (Reg.lkPortStat p) 1 up).showMismatch p) d

/-- LINK_REPLAY_LIMIT: a codeword has been resent 4 times without acknowledgement (R331). -/
def replayLimit (p : Nat) (d : Dev) : Dev :=
  if (d.port p).replay.any (fun c => decide (4 ≤ c.resent)) then d.portDown p 3 else d

/-- LINK_ACK_TIMEOUT: codewords wait for their acknowledgement (R331). -/
def ackTimeout (p : Nat) (d : Dev) : Dev := if (d.port p).replay.isEmpty then d else d.portDown p 4

/-- LINK_PARTNER_CHANGE: the partner's identity after training (R331). -/
def partnerChange (p sysid dev pport : Nat) (d : Dev) : Dev :=
  let v := b2n (sysid == d.rn Reg.lkSysid) * 2 ^ 31 + dev % 16 * 2 ^ 16 + pport % 4 * 2 ^ 12
  if !d.flag (Reg.lkPortStat p) 1 || d.rn (Reg.lkPortPartner p) = v then d
  else ((d.setPort p { d.port p with sysid := sysid }).setReg (Reg.lkPortPartner p) v).portDown p 5

/-! ## Landing (R232, R234, R339) -/

/-- The landed packet that goes next: the first of a link VC, in the order of vcOrder. -/
def landHead (d : Dev) (p : Nat) (ok : Nat → Nat → Bool) : Option (Nat × Nat) :=
  vcOrder.findSome? (fun v => match (d.port p).landing.get [] v with
    | [] => none
    | q :: _ => if ok v q then some (v, q) else none)

/-- A landed packet leaves its buffer, and its entry is owed to the partner as a credit (R328). -/
def freeLanding (d : Dev) (p v : Nat) : Dev :=
  let x := d.port p
  d.setPort p { x with landing := x.landing.set [] v ((x.landing.get [] v).drop 1), freed := x.freed.set 0 v (x.freed.get 0 v + 1) }

/-- Shift a landing entry past its accepted copies (R232). -/
def shiftLanding : Nat → Landing → Landing
  | 0, e => e
  | k + 1, e =>
    if bit e.seen 0 then shiftLanding k { e with seen := e.seen / 2, next := (e.next + 1) % 4096, pend := e.pend + 1 } else e

/-- Device to which a landed packet goes. -/
def landDst (d : Dev) (q : Nat) : Nat :=
  let c := pkClass q
  if c = clsColl then tagDst q
  else if c = clsEvt ∨ c = clsHint ∨ c = clsCpl then (if bit (pkDev q) d.ownDev then d.ownDev else (maskBits 16 (pkDev q)).headD 0)
  else d.ownDev

/-- A landed copy for another device: its egress port, link VC and tagged form; none where its path is down (R234, R337). -/
def transitOf (d : Dev) (p q : Nat) : Option (Nat × Nat × Nat) :=
  let dst := d.landDst q
  match d.transitPort dst (bit q 127) with
  | none => none
  | some e =>
    let set := d.setOut e (tagSet q) (p % 2 == 1 && e % 2 == 0)
    some (e, vcOf (pkClass q) + 4 * set, tagged q set (tagSrc q) dst e)

/-- A landed packet can go on. -/
def landOk (d : Dev) (p v q : Nat) : Bool :=
  let g := d.gateway p
  let c := pkClass q
  if c = 0 ∨ 8 < c then true
  else if d.landDst q ≠ d.ownDev then
    match d.transitOf p q with
    | none => true
    | some t => d.bufRoom g pG 4 && d.canReserve t.1 t.2.1
  else if c = clsEvt then
    let e := d.bar.landing.get {} (tagSrc q * 256 + pkSrc q)
    let off := (pkSeq q + 4096 - e.next) % 4096
    decide (256 ≤ off) || bit e.seen off || d.bufRoom g pG 0
  else if c = clsHint then decide (landSize v < 2 * ((d.port p).landing.get [] v).length) || d.bufRoom g pG 1
  else if c = clsCpl then d.bufRoom g pG 2
  else true

/-- An EVENT copy from another device (R232, log entry 140). -/
def landEvent (p q : Nat) (d : Dev) : Dev :=
  let s := tagSrc q
  let n := pkSrc q
  let key := s * 256 + n
  let e := d.bar.landing.get {} key
  let off := (pkSeq q + 4096 - e.next) % 4096
  if 2048 ≤ off || bit e.seen off then d.bump Reg.mrDups
  else if 256 ≤ off then d.bump Reg.mrLandErr
  else
    let g := d.gateway p
    let r := d.plainGroup g (q % 2 ^ 128)
    let d := r.1.pushBuf g pG 0 r.2
    let e := shiftLanding 256 { e with seen := putBits e.seen off off 1 }
    let d := { d with bar := { d.bar with landing := d.bar.landing.set {} key e } }
    if d.fld Reg.mrCplBatch 7 0 ≤ e.pend then d.sendCompletion s n e.pend else d

/-- A BARRIER packet from a neighbour device: a child's report, or a close from the parent (R236, R239). -/
def landBarrier (p q : Nat) (d : Dev) : Dev :=
  if bkKind q = kindReport then
    { d with bar := { d.bar with children := d.bar.children.set {} p (reportOf q) } }
  else
    let c := d.closeOf q
    if (d.router rootRouter).openTick ≠ c.tick || (d.router rootRouter).close.isSome then d
    else
      let d := { d with bar := { d.bar with closed := some c } }
      (d.schedule rootRouter c).fanDown rootRouter c

/-- LAND: the landing stage of a port takes its next packet. -/
def landPacket (p : Nat) (d : Dev) : Dev :=
  match d.landHead p (d.landOk p) with
  | none => d
  | some (v, q) =>
    let half := decide (landSize v < 2 * ((d.port p).landing.get [] v).length)
    let d := d.freeLanding p v
    let g := d.gateway p
    let c := pkClass q
    if c = 0 ∨ 8 < c then d.bump Reg.mrBadClass
    else if d.landDst q ≠ d.ownDev then
      match d.transitOf p q with
      | none => d.bump Reg.lkTransitDrops
      | some t => ((d.reserve t.1 t.2.1).pushBuf g pG 4 t.2.2).bump64 Reg.lkTransitLo Reg.lkTransitHi 1
    else if c = clsEvt then d.landEvent p q
    else if c = clsHint then
      if half then d.bump Reg.mrHintLandDrops
      else
        let r := d.plainGroup g (q % 2 ^ 128)
        r.1.pushBuf g pG 1 r.2
    else if c = clsCpl then d.pushBuf g pG 2 (q % 2 ^ 128)
    else if c = clsBar then d.landBarrier p q
    else if c = clsColl then (if bit q 112 then d.collDown q else d.collUp q)
    else d

end Dev

open Dev

/-- CODEWORD_RECEIVE (R329). -/
def execCodewordReceive (port : Fin 4) (cw : Codeword) (s : State) : Host.Outcome State Fault Refusal := onDev (whileClocked (codeword port cw)) s

/-- PORT_TRAIN (R330). -/
def execPortTrain (port : Fin 4) (sysid : Word) (dev : Fin 16) (pport : Fin 4) (s : State) : Host.Outcome State Fault Refusal :=
  onDev (portTrain port sysid.toNat dev pport) s

/-- PORT_QUALIFY (R461). -/
def execPortQualify (port : Fin 4) (errs : Nat) (bad peer : Bool) (s : State) : Host.Outcome State Fault Refusal :=
  onDev (portQualify port errs bad peer) s

/-- LINK_LOS (R331). -/
def execLinkLos (port : Fin 4) (s : State) : Host.Outcome State Fault Refusal := onDev (portDown port 1) s

/-- LINK_ALIGN_LOSS (R331). -/
def execLinkAlignLoss (port : Fin 4) (s : State) : Host.Outcome State Fault Refusal := onDev (portDown port 2) s

/-- LINK_REPLAY_LIMIT (R331). -/
def execLinkReplayLimit (port : Fin 4) (s : State) : Host.Outcome State Fault Refusal := onDev (whileClocked (replayLimit port)) s

/-- LINK_ACK_TIMEOUT (R331). -/
def execLinkAckTimeout (port : Fin 4) (s : State) : Host.Outcome State Fault Refusal := onDev (whileClocked (ackTimeout port)) s

/-- LINK_PARTNER_CHANGE (R331). -/
def execLinkPartnerChange (port : Fin 4) (sysid : Word) (dev : Fin 16) (pport : Fin 4) (s : State) :
    Host.Outcome State Fault Refusal := onDev (partnerChange port sysid.toNat dev pport) s

/-- LINK_DOWN_NOTICE (R332). -/
def execLinkDownNotice (port : Fin 4) (link : Fin 32) (s : State) : Host.Outcome State Fault Refusal := onDev (whileClocked (linkNotice port link)) s

/-- LAND (R232). -/
def execLand (port : Fin 4) (s : State) : Host.Outcome State Fault Refusal := onDev (whileClocked (landPacket port)) s

/-- COMPLETION_TIMER (R232). -/
def execCompletionTimer (s : State) : Host.Outcome State Fault Refusal := onDev (whileClocked Dev.completionTimer) s

/-- COLLECTIVE_UP (R345). -/
def execCollectiveUp (pkt : QWord) (s : State) : Host.Outcome State Fault Refusal := onDev (collUp pkt.toNat) s

/-- COLLECTIVE_DOWN (R345). -/
def execCollectiveDown (pkt : QWord) (s : State) : Host.Outcome State Fault Refusal := onDev (collDown pkt.toNat) s

/-- COLLECTIVE_TIMEOUT (R345). -/
def execCollectiveTimeout (g : Fin 16) (s : State) : Host.Outcome State Fault Refusal := onDev (collTimeout g) s

end Sys2Proof.Machine
end

