-- ==== Sys2Proof/Machine/Memory.lean ====
section
/-! DEFINITION. Who may reach which register block, Pond memory, DDR5 reads, and the end of the service program
(R300-R324, R353). -/

namespace Sys2Proof.Machine

namespace Dev

/-! ## Absent units (R2) -/

/-- The unit of a window is absent in the variant (R1, R2): NC windows, DDR5 channels, leat ports L0 and L2. The fabric
registers do not show through the window of an absent NC (log entry 107). -/
def absentReg (d : Dev) (a : Nat) : Bool :=
  (decide (0x200000 ≤ a) && decide (a < 0x300000) && decide (d.meshCols ≤ (a - 0x200000) / 0x1000 % 16)) ||
    (d.isC2 && ((decide (0x401200 ≤ a) && decide (a < 0x401400)) ||
      (decide (Reg.lkPortCfg 0 ≤ a) && decide (a < Reg.lkPortCfg 4) && (a - Reg.lkPortCfg 0) / 0x80 % 2 == 0)))

/-! ## Accesses to device addresses (R307) -/

/-- A read of host memory can be made; otherwise one waiting request stands for it. -/
def hostReady (d : Dev) (sender : HostSender) : Bool × Dev :=
  if d.bme then (true, d)
  else if d.hostWait.any (fun r => r.sender == sender && r.data.isEmpty) then (false, d)
  else (false, d.hostWrite sender 0 [])

/-- The MP's read of a command's argument can be made: at once, or for host memory once Bus Master Enable is 1 (R356). -/
def srcReady (d : Dev) (a : Nat) : Bool × Dev :=
  if !isHost a || d.bme then (true, d)
  else if d.hostWait.any (fun r => r.sender == .fetch && r.addr == a - hostBase) then (false, d)
  else (false, d.hostWrite .fetch a [])

/-! ## Traps of the application cores (R299, R304, R305) -/

/-- The exception code that RISC-V gives a trap. -/
def trapCode : CoreTrap → Nat
  | .absent _ => 2
  | .illegal => 2
  | .fetchAccess => 1
  | .loadAccess => 5
  | .storeAccess => 7
  | .fetchPage => 12
  | .loadPage => 13
  | .storePage => 15
  | .other c => c.toNat

/-- A core takes a trap: mepc, mcause, M mode, and the handler of mtvec (log entry 126). -/
def coreTrap (k cause pc : Nat) (d : Dev) : Dev :=
  let d := (d.setCsr k 0x341 (BitVec.ofNat 64 pc)).setCsr k 0x342 (BitVec.ofNat 64 cause)
  d.setHart k { d.hart k with mode := .m, pc := (d.csr k 0x305).toNat / 4 * 4 }

/-- The service program runs; on a core of its mask. -/
def serviceOn (d : Dev) : Bool := d.flag Reg.vciStat 8
def serves (d : Dev) (k : Nat) : Bool := d.serviceOn && bit d.vci.svcMask k && d.coreRuns k

/-- The service program stops: the runtime has its cores back in M mode (log entry 126). -/
def serviceStop (d : Dev) : Dev :=
  let back (x : Hart) : Hart := if x.mode = .u then { x with mode := .m } else x
  ((List.range 16).foldl (fun (d : Dev) k => d.setHart k (back (d.hart k))) d).setFlag Reg.vciStat 8 false

/-- The service program ends, and the host is told (R305). -/
def serviceEnd (d : Dev) (core cause pc : Nat) : Dev :=
  if !d.serviceOn then d else
  d.serviceStop.postEvent 4 [core, cause, pc % 2 ^ 32, pc / 2 ^ 32]

/-- A trap that the runtime does not handle, on a core of the service mask (R305). -/
def serviceTrap (k cause pc : Nat) (d : Dev) : Dev := if d.serves k then (d.coreTrap k cause pc).serviceEnd k cause pc else d

/-- A program's access faults at an address that no command names: a free value stands for the PC. The runtime handles its own
faults; one of the service program ends it (R305, R307). -/
def accessTrap (m : Master) (t : CoreTrap) (d : Dev) : Dev :=
  match m with
  | .core k => if d.coreRuns k then d.drew.coreTrap k (trapCode t) d.freeVal.toNat else d
  | .service k => if d.serves k then d.drew.serviceTrap k (trapCode t) d.freeVal.toNat else d
  | _ => d

/-- A master's program can act: a core runs, and for the service program it serves. -/
def acts (d : Dev) (m : Master) : Bool :=
  match m with
  | .core k => d.coreRuns k
  | .service k => d.serves k
  | _ => true

/-- The master reaches BAR0: the host while the function decodes it and its link carries requests, the sideband in the states
in which it acknowledges (R358, R380, R406), firmware while its domain runs, the runtime on a core that runs (R303). -/
def reaches (d : Dev) (m : Master) : Bool :=
  match m with
  | .host => !d.pwr.d3hot && d.pwrState != psSentinel && (d.pwr.link == .l0 || d.pwr.link == .l1)
  | .sideband => d.pwrState != psNap && d.pwrState != psSentinel
  | .core k => d.coreRuns k
  | .service _ => false
  | _ => d.pwrState != psSentinel

/-- A master's access to a register that the runtime does not map for the service program (R304). -/
def byMaster (m : Master) (write : Bool) (f : Dev → Dev) (d : Dev) : Dev :=
  match m with
  | .service _ => d.accessTrap m (if write then .storePage else .loadPage)
  | _ => if d.reaches m then f d else d

/-- A master's write to a register with a behaviour of its own: an activity, ignored and counted in a fenced block (R353, R408). -/
def busRequest (m : Master) (a : Nat) (f : Dev → Dev) (d : Dev) : Dev :=
  d.byMaster m true (fun d => if d.fenced a then d.activity.bump Reg.glbFencedAcc else (f d).activity)

/-- The window counters' select is mapped for the service program (R304, log entry 126). -/
def windowSelect (d : Dev) (m : Master) (a : Nat) : Bool :=
  match m with
  | .service k => a == Reg.jnWsel && d.serves k
  | _ => false

/-- Device memory that the runtime maps for the service program: the package's regions, and the record queue to read (R304). -/
def serviceMaps (d : Dev) (write : Bool) (a n : Nat) : Bool :=
  let inside (r : Nat × Nat) : Bool := decide (r.1 ≤ a) && decide (a + n ≤ r.1 + r.2)
  d.vci.regions.any inside || (!write && inside (d.rn64 Reg.jnRqBaseLo Reg.jnRqBaseHi, d.fld Reg.jnRqCfg 15 0 * 64))

/-! ## Pond accesses and bank power (R312-R315) -/

/-- An access reads the word; it changes it. -/
def pondReads (op : PondOp) : Bool := op != .write
def pondWrites (op : PondOp) : Bool := op != .read && op != .lr

/-- An access to a bank: its effect on the device, and the words that it returns. before is the device whose word a plain read
sees. An error response is an access fault of a core (R307, R313, R315, R443); the service program faults on a page that is
not mapped for it (R304). -/
def pondOne (before : Dev) (q : PondReq) (d : Dev) : Dev × List Word :=
  let a := q.addr.toNat
  let n := if q.wide then 8 else 4
  let wr := pondWrites q.op
  let out (v : Nat) : List Word := if q.wide then [loWord v, hiWord v] else [loWord v]
  let atomic := q.op == .add || q.op == .swap
  let fault (d : Dev) : Dev × List Word := (d.accessTrap q.who (if wr then .storeAccess else .loadAccess), [])
  if !d.acts q.who then (d, [])
  else if (match q.who with | .service _ => !d.serviceMaps wr a n | _ => false) then
    (d.accessTrap q.who (if wr then .storePage else .loadPage), [])
  else if q.op == .amo || q.op == .lr || q.op == .sc then fault d
  else
    let mis := atomic && a % n != 0
    let off := d.placeOf a n != .pond
    let d := if mis then d.bump Reg.pondMisalign else d
    let d := d.countOff a n
    if mis || off then fault d
    else if pondReads q.op && d.readBad a n then fault (d.readChecks a n)
    else if q.op == .read then (d, out (before.num a n))
    else if q.op == .write then (d.putNum a n q.value.toNat, [])
    else
      let old := d.num a n
      ((d.putNum a n (if q.op == .swap then q.value.toNat else old + q.value.toNat)).bump Reg.pondAtomics, out old)

/-- Two accesses meet at a dual-port bank in one cycle (R312, R314). -/
def pondMeet (p q : PondReq) : Bool := decide (p.addr.toNat / 0x80000 < 4) && p.addr.toNat / 0x80000 == q.addr.toNat / 0x80000

/-- The one-port bank of an access. -/
def oneBank (q : PondReq) : Option Nat :=
  let b := q.addr.toNat / 0x80000
  if 4 ≤ b ∧ b < 64 then some b else none

/-- A requester's number in the rotation of a one-port bank: the manual gives the order none (R312, log entry 138). -/
def turnNo (m : Master) : Nat :=
  match m with
  | .core k => k
  | .service k => k
  | .mp => 16
  | .sentinel => 17
  | .host => 18
  | .sideband => 19

/-- Places until a requester's turn at a bank. -/
def pondTurn (d : Dev) (b : Nat) (q : PondReq) : Nat := (turnNo q.who + 20 - d.pondLast.get 0 b) % 20

/-- An access, after which a one-port bank has served its requester. -/
def pondServe (before : Dev) (q : PondReq) (d : Dev) : Dev × List Word :=
  let r := pondOne before q d
  match oneBank q with
  | none => r
  | some b => ({ r.1 with pondLast := r.1.pondLast.set 0 b (turnNo q.who + 1) }, r.2)

/-- One access, or two of one cycle: at a dual-port bank P0 is applied, then P1, and a plain read sees the word as it was before
the cycle (R314); two that meet at a one-port bank take turns in rotation (R312). -/
def pondCycle (p0 : PondReq) (p1 : Option PondReq) (d : Dev) : Dev :=
  match p1 with
  | none =>
    let r := pondServe d p0 d
    { r.1 with lastRead := r.2 }
  | some q =>
    let swap := match oneBank p0, oneBank q with
      | some a, some b => a == b && decide (d.pondTurn b q < d.pondTurn b p0)
      | _, _ => false
    if swap then
      let r1 := pondServe d q d
      let r0 := pondServe r1.1 p0 r1.1
      { r0.1 with lastRead := r0.2 ++ r1.2 }
    else
      let r0 := pondServe d p0 d
      let r1 := pondServe (if pondMeet p0 q then d else r0.1) q r0.1
      { r1.1 with lastRead := r0.2 ++ r1.2 }

/-- Device regions of the running job that may lie in Pond memory (R315): intake slots, record queue, delta store,
service-program regions, package region. -/
def jobRegions (d : Dev) : List (Nat × Nat) :=
  ((List.range 64).filter (fun n => d.flag (Reg.intkStrStat n) 0)).map (fun n =>
      (d.slotAddr n 0, d.fld (Reg.intkStrBufCfg n) 4 0 * d.slotSize n)) ++
    (if d.flag Reg.jnRqCfg 16 then [] else [(d.rn64 Reg.jnRqBaseLo Reg.jnRqBaseHi, d.fld Reg.jnRqCfg 15 0 * 64)]) ++
    [(d.jn.deltaBase, 2 * (64 * d.deltaSpan))] ++
    d.vci.regions ++ [(d.vci.pkg.addr, d.vci.pkg.len)]

/-- A bank holds part of a region of the running job. -/
def bankHeld (d : Dev) (b : Nat) : Bool :=
  d.jobOn && d.jobRegions.any (fun r => decide (r.2 ≠ 0) && decide (r.1 < (b + 1) * 0x80000) && decide (b * 0x80000 < r.1 + r.2))

/-- A bank is off by its fuses or the journal (R463). -/
def bankOff (d : Dev) (b : Nat) : Bool := d.fuses.bad.contains (3, b) || d.sec.off.contains (3, b)

/-- POND_STATE and POND_PWR fields of a bank. -/
def pondState (d : Dev) (b : Nat) : Nat := d.fld (Reg.pondState (b / 16)) (2 * (b % 16) + 1) (2 * (b % 16))
def setPondState (d : Dev) (b v : Nat) : Dev := d.setFld (Reg.pondState (b / 16)) (2 * (b % 16) + 1) (2 * (b % 16)) v
def pondPwr (d : Dev) (b : Nat) : Nat := d.fld (Reg.pondPwr (b / 16)) (2 * (b % 16) + 1) (2 * (b % 16))
def setPondPwr (d : Dev) (b v : Nat) : Dev := d.setFld (Reg.pondPwr (b / 16)) (2 * (b % 16) + 1) (2 * (b % 16)) v

/-- A bank starts toward a state; the table of R315 has no way from OFF to RETENTION, so an OFF bank goes there by ON (log
entry 17). A bank in transition completes it first and then goes on. -/
def pondGo (d : Dev) (b v : Nat) : Dev :=
  let s := d.pondState b
  if s = v ∨ d.pondTo.get 0 b ≠ 0 then d else
  let d := { d with pondTo := d.pondTo.set 0 b ((if s = 0 then 3 else v) + 1) }
  d.setPondState b 2

/-- One bank of a POND_PWR write. -/
def pondField (j v : Nat) (d : Dev) (i : Nat) : Dev :=
  let b := 16 * j + i
  let f := bits v (2 * i + 1) (2 * i)
  if f = 2 || d.bankOff b then d
  else if f ≠ 3 && d.bankHeld b && d.pondPwr b == 3 then d.bump Reg.pondRefused
  else (d.setPondPwr b f).pondGo b f

/-- A write of POND_PWRj (R315, R324). -/
def pondPwrWrite (j v : Nat) (d : Dev) : Dev := (List.range 16).foldl (pondField j v) d

/-- Bytes of a bank become 0, with good checks (R315). -/
def zeroBank (d : Dev) (b : Nat) : Dev := d.zeroMem (b * 0x80000) 0x80000

/-- A bank's transition is complete: an OFF bank has lost its contents, and one that comes from OFF is filled with zeros. -/
def pondDone (b : Nat) (d : Dev) : Dev :=
  match d.pondTo.get 0 b with
  | 0 => d
  | v + 1 =>
    let d := { d with pondTo := d.pondTo.set 0 b 0 }
    let d := d.setPondState b v
    let d := if v = 0 then d.zeroBank b else d
    if d.pondPwr b = 2 || d.bankOff b then d else d.pondGo b (d.pondPwr b)

/-! ## DDR5 reads (R318-R320) -/

/-- The check bits of beat b of a line (R319): parity of the beat's four bytes, and a nibble of the address word. -/
def checkBits (o : Nat) (beat : List Byte) (b : Nat) : Nat :=
  let par := (beat.zipIdx.map (fun x => (popcount 8 x.1.toNat % 2) * 2 ^ x.2)).sum
  let c := bits o 38 6 + bits o 36 6 * 2 ^ 33
  par + bits c (4 * b + 3) (4 * b) * 16

/-- A read of one DDR5 line (R320). -/
def ddrRead (o : Nat) (p1 a1 p2 a2 : Bool) (d : Dev) : Dev :=
  let a := ddrBase + o / 64 * 64
  if !d.isDdr a then { d with lastRead := [] } else
  let line := (List.range 16).map (fun i => w32 (d.num (a + 4 * i) 4))
  let c := d.ddrChannel o
  if !(p1 || a1) then { d.setBadLine a false with lastRead := line } else
  let d := d.countCheck c p1 a1
  if !(p2 || a2) then { (d.bump (Reg.ddrRetries c)).setBadLine a false with lastRead := line } else
  { (d.countCheck c p2 a2).ddrFailed c o with lastRead := [] }

/-! ## Record forwarding and core loss (R303, R306) -/

/-- Cores that forward records: they run, outside the service mask (R304, R306). -/
def forwarders (d : Dev) : List Nat := (List.range 16).filter (fun k => !bit d.vci.svcMask k && d.coreRuns k)

/-- The time CSR of the application cores reads TBC[63:4] (R300). -/
def coreTime (d : Dev) : Nat := bits d.tb.tbc 63 4

/-- The machine timer compare of core k: the time has reached its mtimecmp (R300). -/
def coreTimerDue (d : Dev) (k : Nat) : Bool := decide ((d.hart k).mtimecmp ≤ d.coreTime)

/-- A core is marked down: forwarding moves, and takes a core from the service mask when none is left (R303, R306). -/
def coreDown (d : Dev) (k : Nat) : Dev :=
  if bit d.vci.coresDown k then d else
  let d := { d with vci := { d.vci with coresDown := putBits d.vci.coresDown k k 1 } }
  let d := d.postEvent 5 [k]
  if !d.forwarders.isEmpty then d else
  match (List.range 16).find? (fun c => bit d.vci.svcMask c && d.coreRuns c) with
  | none => d
  | some c =>
    -- R306 names no trap: its cause and PC are free values
    let cause := d.freeVal.toNat % 2 ^ 32
    let d := d.drew
    let pc := d.freeVal.toNat
    ({ d.drew with vci := { d.vci with svcMask := putBits d.vci.svcMask c c 0 } }).serviceEnd c cause pc

end Dev

open Dev

/-- POND_ATOMIC: an access by the first port, alone or with one by the other port in the same cycle (R312, R313, R314). -/
def execPondAtomic (who : Master) (op : PondOp) (word : PondWord) (other : Option PondReq) (s : State) :
    Host.Outcome State Fault Refusal :=
  onDev (Dev.pondCycle { word with who := who, op := op } other) s

/-- POND_POWER_WRITE (R315). -/
def execPondPowerWrite (j : Fin 4) (v : Word) (s : State) : Host.Outcome State Fault Refusal :=
  onReg (Reg.pondPwr j) (pondPwrWrite j v.toNat) s

/-- POND_TRANSITION_DONE (R315). -/
def execPondTransitionDone (bank : Fin 64) (s : State) : Host.Outcome State Fault Refusal := onDev (pondDone bank) s

/-- DDR_READ (R320). -/
def execDdrRead (o : BitVec 39) (p1 a1 p2 a2 : Bool) (s : State) : Host.Outcome State Fault Refusal :=
  onDev (Dev.ddrRead o.toNat p1 a1 p2 a2) s

/-- SERVICE_TRAP (R305). -/
def execServiceTrap (core : Fin 16) (cause : CoreTrap) (pc : DWord) (s : State) : Host.Outcome State Fault Refusal :=
  onDev (Dev.serviceTrap core (trapCode cause) pc.toNat) s

/-- SHADOW_WRITE_RELEASE (R178): the first held shadow write is made once SHADOW_BUSY is 0, and its SCALE_WRITE completes. -/
def execShadowWriteRelease (s : State) : Host.Outcome State Fault Refusal :=
  onDev (fun d =>
    if d.flume.shadow.isEmpty || d.shadowBusy then d else
    let t := (d.flume.shadow.map (·.tag)).headD 0
    let d := d.releaseShadow
    match d.activeCmd 0x30 t with
    | some c => (d.complete c 0 []).swapWaiting
    | none => d.swapWaiting) s

end Sys2Proof.Machine
end

