-- ==== Sys2Proof/Machine/Package.lean ====
section
/-! DEFINITION. Model packages: the container, and the checks that JOB_LOAD makes of every section (R131-R137, R172, R182,
R183, R202, R203, R210, R213, R215, R271, R276, R283, R297, R400). -/

namespace Sys2Proof.Machine

/-- n bytes of a block at an offset, as a number (R9). -/
def fldAt (p : List Byte) (o n : Nat) : Nat := ofBytes ((p.drop o).take n)

/-- Part of a block. -/
def part (p : List Byte) (o n : Nat) : List Byte := (p.drop o).take n

/-- A run of n numbers of w bytes. -/
def table (p : List Byte) (o w n : Nat) : List Nat := (List.range n).map (fun i => fldAt p (o + i * w) w)

/-! ## The container (R400) -/

def pkgHeaderOk (p : List Byte) (len : Nat) : Bool :=
  p.length == len && decide (64 ≤ len) && fldAt p 0 4 == 0x4B504457 && fldAt p 4 2 == 1 && decide (1 ≤ fldAt p 6 2) &&
    decide (fldAt p 6 2 ≤ 4096) && fldAt p 8 8 == len

def pkgHashOk (p : List Byte) : Bool := sha256 (p.drop 48) == part p 16 32

def pkgSections (p : List Byte) : List Section :=
  (List.range (fldAt p 6 2)).map (fun i =>
    let o := 64 + 16 * i
    ⟨fldAt p o 2, fldAt p (o + 2) 2, fldAt p (o + 8) 4, fldAt p (o + 12) 4⟩)

/-- Two ranges share a byte. -/
def overlap (a n b m : Nat) : Bool := decide (0 < n) && decide (0 < m) && decide (a < b + m) && decide (b < a + n)

/-- No two of a list are related. -/
def pairwise {α : Type} (bad : α → α → Bool) : List α → Bool
  | [] => true
  | x :: xs => !xs.any (bad x) && pairwise bad xs

def pkgTableOk (p : List Byte) : Bool :=
  let n := fldAt p 6 2
  let ss := pkgSections p
  (part p 48 16).all (· == 0) && decide (64 + 16 * n ≤ p.length) &&
    (List.range n).all (fun i => fldAt p (64 + 16 * i + 4) 4 == 0) &&
    ss.all (fun s => decide (1 ≤ s.kind) && decide (s.kind ≤ 8) && s.off % 8 == 0 && decide (64 + 16 * n ≤ s.off) &&
      decide (s.off + s.len ≤ p.length)) &&
    pairwise (fun a b => overlap a.off a.len b.off b.len) ss &&
    pairwise (fun a b => a.kind == b.kind && a.kind != 3 && a.kind != 6) ss

/-- Bytes of a section, and of every section of a type. -/
def secBytes (p : List Byte) (s : Section) : List Byte := part p s.off s.len
def secsOf (p : List Byte) (kind : Nat) : List (List Byte) := ((pkgSections p).filter (fun s => s.kind == kind)).map (secBytes p)
def secOf (p : List Byte) (kind : Nat) : List Byte := (secsOf p kind).headD []

/-! ## Schedule images (R116-R137) -/

/-- A cell record (R133). -/
structure CellRec where
  row : Nat
  col : Nat
  bodyStart : Nat
  bodyLen : Nat
  binds : List Nat
  slots : List Nat
  data : List Nat
  /-- Reserved fields are 0, and the record lies within the image. -/
  ok : Bool
deriving DecidableEq, Repr

/-- Bytes of a cell record. -/
def cellRecLen (p : List Byte) (o : Nat) : Nat := 32 + 8 * fldAt p (o + 2) 2 + ceilDiv (fldAt p (o + 24) 4) 8 * 8

/-- n cell records from an offset. -/
def cellRecs (p : List Byte) : Nat → Nat → List CellRec
  | 0, _ => []
  | n + 1, o =>
    let ns := fldAt p (o + 2) 2
    let nd := fldAt p (o + 24) 4
    let ok := decide (o + cellRecLen p o ≤ p.length) && decide (1 ≤ ns) && decide (ns ≤ 512) && decide (nd ≤ 24576) &&
      nd % 8 == 0 && fldAt p (o + 28) 4 == 0 && (table p (o + 8) 2 8).all (fun b => bits b 14 9 == 0)
    ⟨fldAt p o 1, fldAt p (o + 1) 1, fldAt p (o + 4) 2, fldAt p (o + 6) 2, table p (o + 8) 2 8, table p (o + 32) 8 ns,
      table p (o + 32 + 8 * ns) 8 (nd / 8), ok⟩ :: cellRecs p n (o + cellRecLen p o)

/-- Header fields of an image (R131). -/
def imgQmask (p : List Byte) : Nat := fldAt p 6 1
def imgD (p : List Byte) : Nat := fldAt p 7 1
def imgL (p : List Byte) : Nat := fldAt p 8 4
def imgII (p : List Byte) : Nat := fldAt p 12 4
def imgCells (p : List Byte) : List CellRec := cellRecs p (fldAt p 16 4) (fldAt p 36 4)
def imgTg (p : List Byte) : List Nat := table p 64 2 96

/-- A headgate entry with its STAGE and P (R134). -/
def imgHead (p : List Byte) : List (HeadEntry × Nat × Nat) :=
  (List.range (fldAt p 20 4)).map (fun i =>
    let o := fldAt p 40 4 + 12 * i
    (⟨fldAt p o 1, fldAt p (o + 1) 1 * imgII p + fldAt p (o + 2) 3, fldAt p (o + 6) 2, fldAt p (o + 8) 4⟩,
      fldAt p (o + 1) 1, fldAt p (o + 2) 3))

/-- Tailgate entries (R134). -/
def imgTail (p : List Byte) : List TailEntry :=
  (List.range (fldAt p 24 4)).map (fun i =>
    let o := fldAt p 44 4 + 8 * i
    ⟨fldAt p o 1, fldAt p (o + 1) 1, fldAt p (o + 2) 3, fldAt p (o + 5) 1⟩)

/-- Offset, length and reserved bytes of the staging table's entries (R132). -/
def imgStage (p : List Byte) : List (Nat × Nat × Nat) :=
  (List.range 96).map (fun c =>
    let o := fldAt p 32 4 + 8 * c
    (fldAt p o 4, fldAt p (o + 4) 2, fldAt p (o + 6) 2))

/-- Fields of a slot word (R116). -/
def swOp (w : Nat) : Nat := bits w 63 59
def swStage (w : Nat) : Nat := bits w 58 55
def swSa (w : Nat) : Nat := bits w 54 48
def swSb (w : Nat) : Nat := bits w 47 41
def swFunc (w : Nat) : Nat := bits w 19 0

/-- A selector is well formed and its kind is permitted (R91, R118). -/
def selOk (kinds : List Nat) (s : Nat) : Bool :=
  let k := s / 16
  let i := s % 16
  kinds.contains k && (k == 1 || k == 7 || (k == 2 && decide (i < 8)) || i == 0)

/-- Kinds permitted on the ports (R91): zero, register, channel and immediate on all but MA. -/
def kMb : List Nat := [0, 1, 2, 7, 3, 6]
def kMs : List Nat := [0, 1, 2, 7, 3]
def kMsq : List Nat := [0, 1, 2, 7]
def kSail : List Nat := [0, 1, 2, 7, 3, 4]
def kX : List Nat := [0, 1, 2, 7, 3, 4, 5]
def kLs : List Nat := [0, 1, 2, 7, 4, 5, 6]
def kTx : List Nat := [0, 1, 2, 7, 3, 4, 5, 6]

/-- What an operation uses of a slot: kinds permitted in SA and SB (none: the field is 0), RD, bits of FUNC, and whether it
addresses data SRAM whatever its selectors. -/
structure OpForm where
  sa   : Option (List Nat)
  sb   : Option (List Nat)
  rd   : Bool
  func : Nat
  mem  : Bool

/-- The form of each operation code (R91, R122-R127). -/
def opForm (w : Nat) : OpForm :=
  let op := swOp w
  let f := swFunc w
  if op = 0 ∨ op = 3 ∨ op = 4 ∨ op = 0x1E then ⟨none, none, false, 0, false⟩
  else if op = 1 ∨ op = 2 ∨ op = 0x1C then ⟨none, none, false, 0xFFFFF, false⟩
  else if op = 5 then ⟨some kX, none, true, 0, false⟩
  else if op = 6 then ⟨none, none, true, 0xFFFFF, false⟩
  else if op = 7 ∨ op = 8 then ⟨some kX, some kX, true, 0, false⟩
  else if op = 9 ∨ op = 0xA then ⟨some kX, some kX, true, 3, false⟩
  else if op ≤ 0xE ∨ op = 0x13 then ⟨some kX, some kX, false, 0xF0000, false⟩
  else if op = 0xF then ⟨some kX, some kX, false, 0xFC000, false⟩
  else if op = 0x10 then if bit f 15 then ⟨some kX, none, false, 0xBC00, false⟩ else ⟨some kX, some kX, false, 0, false⟩
  else if op = 0x11 then ⟨some kX, none, false, 0xF0000, false⟩
  else if op = 0x12 then ⟨some kX, none, false, 0, false⟩
  else if op = 0x14 then ⟨some kX, some kX, false, 0xFFFFF, false⟩
  else if op = 0x15 then ⟨none, none, true, 0, true⟩
  else if op = 0x16 then ⟨some kLs, none, false, 0, true⟩
  else if op = 0x17 then ⟨none, some kMb, false, 0xFF800 + (if swSb w / 16 = 3 then 0x18 else 0), true⟩
  else if op = 0x18 then ⟨some kMsq, some kMb, false, 0xFFBE0 + (if swSb w / 16 = 3 then 0x18 else 0), true⟩
  else if op = 0x19 then ⟨some kMs, none, false, 0xF800, false⟩
  else if op = 0x1A then ⟨none, none, false, 0xCF800, false⟩
  else if op = 0x1B then ⟨none, none, false, 0xFFC0, false⟩
  else if op = 0x1D then ⟨some kSail, none, false, 0, false⟩
  else ⟨some kTx, none, false, 0xFFFFF, false⟩

/-- Lane formats (R123). -/
def laneFormats : List Nat := [6, 5, 0xA, 1, 2, 0]

/-- No reserved format or mode code (R122-R127, R137). -/
def codesOk (w : Nat) : Bool :=
  let op := swOp w
  let f := swFunc w
  let hi := bits f 19 16
  if (decide (0xB ≤ op) && decide (op ≤ 0xE)) || op == 0x13 then laneFormats.contains hi
  else if op = 0xF then laneFormats.contains hi && bits f 15 14 != 3
  else if op = 0x11 then hi == 5 || hi == 1
  else if op = 0x14 then decide (hi ≤ 0xA) && decide (bits f 15 12 ≤ 0xA)
  else if op = 0x17 ∨ op = 0x18 then decide (hi ≤ 0xB)
  else if op = 0x1A then bits f 19 18 != 3
  else if op = 0x1C then bits f 19 18 != 3 && bits f 17 16 != 3
  else true

/-- A slot meets R116, R118, R122 and R137. The 5-bit OP field is fully used. -/
def slotOk (d : Nat) (w : Nat) : Bool :=
  let x := opForm w
  let sel (k : Option (List Nat)) (s : Nat) : Bool := match k with
    | none => s == 0
    | some ks => selOk ks s
  let mem := x.mem || (x.sa.isSome && swSa w / 16 == 3) || (x.sb.isSome && swSb w / 16 == 3)
  let am := bits w 36 35
  decide (swStage w < d) && sel x.sa (swSa w) && sel x.sb (swSb w) && (x.rd || bits w 40 37 == 0) &&
    swFunc w &&& x.func == swFunc w && codesOk w && am != 3 &&
    (if mem then am != 0 || bits w 34 32 == 0 else bits w 36 20 == 0)

/-- Executed cycles of a run of slots, where its loops are well formed: at most two deep, within their run, and without HALT
(R119, R121). The fuel bounds the slots visited. -/
def bodyCycles : Nat → Nat → List Nat → Option Nat
  | 0, _, _ => none
  | _, _, [] => some 0
  | fuel + 1, depth, w :: rest =>
    let f := swFunc w
    if swOp w = 2 then
      let n := bits f 7 0
      if n = 0 ∨ rest.length < n ∨ 2 ≤ depth ∨ (rest.take n).any (fun x => swOp x == 3) then none else
      match bodyCycles fuel (depth + 1) (rest.take n), bodyCycles fuel depth (rest.drop n) with
      | some a, some b => some (1 + (bits f 19 8 + 1) * a + b)
      | _, _ => none
    else
      match bodyCycles fuel depth rest with
      | some b => some ((if swOp w = 1 then f + 1 else 1) + b)
      | none => none

def body (c : CellRec) : List Nat := (c.slots.drop c.bodyStart).take c.bodyLen

/-- Slots of the handler that starts at a slot, its END included; none without an END among its first 64 (R130). -/
def handlerSlots (c : CellRec) (i : Nat) : Option (List Nat) :=
  let l := (c.slots.drop i).take 64
  (l.findIdx? (fun w => swOp w == 4)).map (fun n => l.take (n + 1))

/-- First slots of a record's bound handlers. -/
def handlers (c : CellRec) : List Nat := (c.binds.filter (fun b => bit b 15)).map (fun b => bits b 8 0)

def cellRecOk (p : List Byte) (c : CellRec) : Bool :=
  c.ok && decide (c.row < 96) && decide (c.col < 96) && c.slots.all (slotOk (imgD p)) &&
    decide (c.bodyStart + c.bodyLen ≤ c.slots.length) && bodyCycles (c.bodyLen + 1) 0 (body c) == some (imgII p) &&
    (handlers c).all (fun i => decide (i < c.slots.length) && (match handlerSlots c i with
      | none => false
      | some l => l.all (fun w => swOp w != 2 && swOp w != 3 && swStage w == 0)))

/-- Ascending by a key; strictly where strict is true. -/
def ascending (strict : Bool) : List Nat → Bool
  | a :: b :: l => (if strict then decide (a < b) else decide (a ≤ b)) && ascending strict (b :: l)
  | _ => true

/-- QMASK covers a cell (R89). -/
def covers (p : List Byte) (r c : Nat) : Bool := bit (imgQmask p) ((if 48 ≤ r then 2 else 0) + (if 48 ≤ c then 1 else 0))

def headOk (p : List Byte) : Bool :=
  let h := imgHead p
  let raw := fldAt p 40 4
  h.all (fun e => covers p 0 e.1.col && decide (e.1.col < 96) && decide (e.2.1 < imgD p) && decide (e.2.2 < imgII p) &&
      decide (e.1.k < imgL p) && decide (e.1.word < 512) && decide (e.1.hdr < 0x100000)) &&
    (List.range h.length).all (fun i => fldAt p (raw + 12 * i + 5) 1 == 0) &&
    ascending true (h.map (fun e => e.1.col * 2 ^ 32 + e.1.k)) &&
    h.any (fun e => e.1.col == 0 && e.1.k == 0 && e.1.word == 0)

def tailOk (p : List Byte) : Bool :=
  let t := imgTail p
  let k (e : TailEntry) : Nat := e.stage * imgII p + e.p
  let raw := fldAt p 44 4
  t.all (fun e => covers p 95 e.col && decide (e.col < 96) && decide (e.stage < imgD p) && decide (e.p < imgII p) && decide (e.lane < 4)) &&
    (List.range t.length).all (fun i => fldAt p (raw + 8 * i + 6) 2 == 0) &&
    ascending false (t.map (fun e => e.col * 2 ^ 32 + k e)) && (t.map k).foldl max 0 + 1 == imgL p && !t.isEmpty &&
    (imgTg p).zipIdx.all (fun x => decide (x.1 ≤ 8192) && 8 * (t.filter (fun e => e.col == x.2)).length == x.1)

def capacityOk (p : List Byte) : Bool :=
  (List.range (fldAt p 28 4)).all (fun i =>
    let o := fldAt p 48 4 + 32 * i
    decide (fldAt p o 1 < 96) && decide (fldAt p (o + 1) 1 < 96) && covers p (fldAt p o 1) (fldAt p (o + 1) 1) &&
      (List.range 8).all (fun k => decide (bits (fldAt p (o + 2) 4) (4 * k + 3) (4 * k) ≤ 4)) && decide (fldAt p (o + 6) 1 ≤ 32) &&
      (table p (o + 8) 4 4).all (fun n => decide (n ≤ imgII p)) && decide (fldAt p (o + 28) 1 < 4) && fldAt p (o + 29) 3 == 0)

/-- Every offset and count lies within the image: a cell record holds one slot at least (R133). -/
def imgBounds (p : List Byte) : Bool :=
  let n := p.length
  [32, 36, 40, 44, 48].all (fun o => fldAt p o 4 % 8 == 0 && decide (256 ≤ fldAt p o 4)) &&
    decide (fldAt p 32 4 + 768 ≤ n) && decide (fldAt p 40 4 + 12 * fldAt p 20 4 ≤ n) &&
    decide (fldAt p 44 4 + 8 * fldAt p 24 4 ≤ n) && decide (fldAt p 48 4 + 32 * fldAt p 28 4 ≤ n) &&
    decide (fldAt p 36 4 + 40 * fldAt p 16 4 ≤ n)

/-- The CRC-32C of an image holds: the check that the load path keeps for an image that JOB_LOAD has verified (R138). -/
def imageCrcOk (p : List Byte) : Bool :=
  decide (260 ≤ p.length) && crc32c (p.take (p.length - 4)) == fldAt p (p.length - 4) 4

/-- An image passes R137. quads is the mask of quadrants present in the variant. -/
def imageOk (quads : Nat) (p : List Byte) : Bool :=
  imageCrcOk p && fldAt p 0 4 == 0x53464457 && fldAt p 4 2 == 1 && fldAt p 52 4 == p.length && p.length % 8 == 0 && imgBounds p && fldAt p 56 8 == 0 &&
    decide (64 ≤ imgL p) && decide (imgL p < 0x1000000) && decide (64 ≤ imgII p) && decide (imgII p ≤ imgL p) &&
    imgD p == ceilDiv (imgL p) (imgII p) && decide (imgD p ≤ 16) && imgQmask p &&& quads == imgQmask p &&
    (imgCells p).all (fun c => cellRecOk p c && covers p c.row c.col) && headOk p && tailOk p &&
    (imgStage p).all (fun s => decide (s.2.1 ≤ 4088) && s.2.2 == 0) && capacityOk p

/-! ## The ladder section (R171, R172, R182, R183) -/

def ladNwin (p : List Byte) : Nat := fldAt p 0 4
def ladNmap (p : List Byte) : Nat := fldAt p 4 4
def ladEpoch (p : List Byte) : Nat := fldAt p 8 1
/-- DECLARED, BASE, TOP, LIMIT of a layer group. -/
def ladGroup (p : List Byte) (g : Nat) : Bool × Nat × Nat × Nat :=
  let o := 16 + 8 * g
  (bit (fldAt p o 1) 7, fldAt p o 1 % 4, fldAt p (o + 1) 1 % 4, fldAt p (o + 2) 2)
def ladSat (p : List Byte) : List Nat := table p 144 2 4096
/-- BOUND and group, A, LO, HI of a gauge. -/
def ladGauge (p : List Byte) (n : Nat) : Nat × Nat × Nat × Nat :=
  let o := 8336 + 8 * n
  (fldAt p o 2, fldAt p (o + 2) 1, fldAt p (o + 4) 2, fldAt p (o + 6) 2)
def ladSmooth (p : List Byte) (c : Nat) : Smooth :=
  let o := 8848 + 264 * c
  ⟨fldAt p o 1, fldAt p (o + 2) 2, table p (o + 8) 2 64, table p (o + 136) 2 64⟩

/-- Rung-window records from an offset: cell and windows; and the offset after them. -/
def winRecs (p : List Byte) : Nat → Nat → List (Nat × Nat × List Window) × Nat
  | 0, o => ([], o)
  | n + 1, o =>
    let k := fldAt p (o + 2) 1
    let ws := (List.range k).map (fun i =>
      let q := o + 8 + 8 * i
      (⟨fldAt p q 2, fldAt p (q + 2) 2, fldAt p (q + 4) 2, fldAt p (q + 6) 1, fldAt p (q + 7) 1⟩ : Window))
    let r := winRecs p n (o + 8 + 8 * k)
    ((fldAt p o 1, fldAt p (o + 1) 1, ws) :: r.1, r.2)

def ladWins (p : List Byte) : List (Nat × Nat × List Window) × Nat := winRecs p (ladNwin p) 34192

/-- Every window of a cell: its table has 8 entries (R171). -/
def cellWins (p : List Byte) (row col : Nat) : List Window :=
  ((ladWins p).1.filter (fun r => r.1 == row && r.2.1 == col)).flatMap (fun r => r.2.2)

/-- Scale-map records: row, column, the two pages, length in words, free cycles. -/
def ladMaps (p : List Byte) : List (List Nat) :=
  (List.range (ladNmap p)).map (fun i =>
    let o := (ladWins p).2 + 16 * i
    [fldAt p o 1, fldAt p (o + 1) 1, fldAt p (o + 2) 2, fldAt p (o + 4) 2, fldAt p (o + 6) 2, fldAt p (o + 8) 4])

/-- Slots of a run with the cycle, counted from its start, in which each issues. -/
def issued : Nat → Nat → List Nat → List (Nat × Nat)
  | 0, _, _ => []
  | _, _, [] => []
  | fuel + 1, t, w :: rest =>
    let f := swFunc w
    if swOp w = 2 then
      let n := bits f 7 0
      let inner := issued fuel 0 (rest.take n)
      let len := (bodyCycles (n + 1) 0 (rest.take n)).getD 0
      let reps := (List.range (bits f 19 8 + 1)).flatMap (fun i => inner.map (fun x => (t + 1 + i * len + x.1, x.2)))
      (t, w) :: reps ++ issued fuel (t + 1 + (bits f 19 8 + 1) * len) (rest.drop n)
    else (t, w) :: issued fuel (t + (if swOp w = 1 then f + 1 else 1)) rest

/-- What of a run is traffic: for each slot that sends or names a channel, its cycle, route header and channels. A channel named
in SA and SB is popped once, like one named once (R118). -/
def traffic (l : List Nat) : List (Nat × Nat × Nat × Nat) :=
  (issued (l.length + 1) 0 l).filterMap (fun x =>
    let ch (s : Nat) : Nat := if s / 16 = 2 then s % 16 + 1 else 0
    let hdr := if swOp x.2 = 0x1F then swFunc x.2 + 1 else 0
    let a := ch (swSa x.2)
    let b := if ch (swSb x.2) = a then 0 else ch (swSb x.2)
    if hdr = 0 ∧ a = 0 ∧ b = 0 then none else some (x.1, hdr, max a b, min a b))

/-- Slot indices of a body at top level: its start, the slot after each top-level slot or loop, its end. -/
def topLevel : Nat → Nat → List Nat → List Nat
  | 0, i, _ => [i]
  | _, i, [] => [i]
  | fuel + 1, i, w :: rest =>
    let n := if swOp w = 2 then bits (swFunc w) 7 0 else 0
    i :: topLevel fuel (i + 1 + n) (rest.drop n)

/-- A window meets R172 in its cell. -/
def windowOk (groups : Nat → Bool × Nat × Nat × Nat) (c : CellRec) (w : Window) : Bool :=
  let tops := topLevel (c.bodyLen + 1) c.bodyStart (body c)
  let base := (c.slots.drop w.pos).take w.len
  let alt := (c.slots.drop w.alt).take w.len
  let st := swStage (base.headD 0)
  let clear (a n : Nat) : Bool := !overlap w.alt w.len a n
  decide (w.lg < 16) && w.rung != (groups w.lg).2.1 && decide (1 ≤ w.len) && tops.contains w.pos && tops.contains (w.pos + w.len) &&
    decide (w.alt + w.len ≤ c.slots.length) && clear c.bodyStart c.bodyLen &&
    (handlers c).all (fun i => clear i ((handlerSlots c i).getD []).length) &&
    (base ++ alt).all (fun x => swOp x != 3 && swOp x != 4 && swStage x == st) &&
    (bodyCycles (w.len + 1) 0 base).isSome && bodyCycles (w.len + 1) 0 alt == bodyCycles (w.len + 1) 0 base &&
    traffic alt == traffic base

/-- Two windows of a cell neither agree in POS, LEN and LG nor lie apart (R172). -/
def windowClash (a b : Window) : Bool :=
  overlap a.pos a.len b.pos b.len && !(a.pos == b.pos && a.len == b.len && a.lg == b.lg)

/-- The ladder section passes R183 beside the package's image. -/
def ladderOk (p img : List Byte) : Bool :=
  let cells := imgCells img
  let find (r c : Nat) : Option CellRec := cells.find? (fun x => x.row == r && x.col == c)
  let sat := ladSat p
  let tested (k : Nat) : Bool := bit (sat.getD k 0) 4
  let gauged (k : Nat) : Bool := (List.range 64).any (fun n => bit (ladGauge p n).1 15 && bits (ladGauge p n).1 11 0 == k)
  decide (34192 + 16 * ladNwin p ≤ p.length) && decide ((ladWins p).2 + 16 * ladNmap p ≤ p.length) &&
    (List.range 16).all (fun g => let x := ladGroup p g
      !x.1 || (decide (x.2.1 ≤ x.2.2.1) && decide (x.2.2.1 ≤ min (x.2.1 + 2) 3))) &&
    (ladWins p).1.all (fun r => decide (1 ≤ r.2.2.length) && decide ((cellWins p r.1 r.2.1).length ≤ 8) &&
      pairwise windowClash (cellWins p r.1 r.2.1) &&
      (match find r.1 r.2.1 with
        | none => false
        | some c => r.2.2.all (windowOk (ladGroup p) c))) &&
    (ladMaps p).all (fun m =>
      let a := m.getD 2 0
      let b := m.getD 3 0
      let n := m.getD 4 0
      !overlap a n b n && (n == 0 || (a / 1024 == (a + n - 1) / 1024 && b / 1024 == (b + n - 1) / 1024)) &&
        decide (a + n ≤ 3072) && decide (b + n ≤ 3072) && decide (8 ≤ m.getD 5 0)) &&
    (List.range 64).all (fun n => let g := (ladGauge p n).1
      !bit g 15 || tested (bits g 11 0)) &&
    (List.range 96).all (fun c => decide ((ladSmooth p c).p ≤ 64)) &&
    cells.all (fun c => (handlers c).all (fun i => ((handlerSlots c i).getD []).all (fun w =>
      swOp w != 0x14 || !(tested (bits w 11 0) || gauged (bits w 11 0)))))

/-! ## NC records (R191-R203, R210, R213, R215, R227, R251, R253) -/

/-- An NC record: the block from its header, and its sizes. -/
structure NcRec where
  row : Nat
  col : Nat
  h : Nat
  k : Nat
  synLen : Nat
  axLen : Nat
  stLen : Nat
  at_ : Nat
deriving DecidableEq, Repr

def ncRecAt (p : List Byte) (o : Nat) : NcRec :=
  ⟨fldAt p o 1, fldAt p (o + 1) 1, (fldAt p (o + 2) 1 + 1) * 256, fldAt p (o + 3) 1 * 32768, fldAt p (o + 4) 4, fldAt p (o + 8) 4,
    fldAt p (o + 12) 4, o⟩

def NcRec.len (r : NcRec) : Nat := 34848 + r.synLen + r.axLen + r.stLen
def NcRec.nc (r : NcRec) : Nat := r.row * 16 + r.col

/-- NC records of a section, one after the other; the fuel bounds their number. -/
def ncRecs (p : List Byte) : Nat → Nat → List NcRec
  | 0, _ => []
  | fuel + 1, o => if p.length ≤ o then [] else ncRecAt p o :: ncRecs p fuel (o + (ncRecAt p o).len)

def coreRecs (p : List Byte) : List NcRec := ncRecs p (p.length / 34848 + 1) 0

/-- Parts of a record. -/
def recPset (p : List Byte) (r : NcRec) (i w : Nat) : Nat := fldAt p (r.at_ + 32 + 32 * i + 4 * w) 4
def recDecay (p : List Byte) (r : NcRec) : List Nat := table p (r.at_ + 2080) 2 16384
def recSyn (p : List Byte) (r : NcRec) : List Nat := table p (r.at_ + 34848) 2 (r.synLen / 2)
def recAxon (p : List Byte) (r : NcRec) : List Nat := table p (r.at_ + 34848 + r.synLen) 16 (r.axLen / 16)
def recState (p : List Byte) (r : NcRec) : List Nat := table p (r.at_ + 34848 + r.synLen + r.axLen) 16 (r.stLen / 16)
def recHeader (p : List Byte) (r : NcRec) (i : Nat) : Nat :=
  if 8 * i + 8 ≤ r.synLen then fldAt p (r.at_ + 34848 + 8 * i) 8 else 0

/-- Words of a row: on die from the record, in the Cistern from the package's sections of type 6. -/
def pkgRowWords (pkg p : List Byte) (r : NcRec) (h : Nat) : List Nat :=
  let n := bits h 47 36
  if bit h 62 then
    let o := bits h 28 0 * 64
    match (pkgSections pkg).find? (fun s => s.kind == 6 && s.index == o / 2 ^ 30) with
    | some s => if o % 2 ^ 30 + 2 * n ≤ s.len then table pkg (s.off + o % 2 ^ 30) 2 n else []
    | none => []
  else (List.range n).map (fun i =>
    let a := 2 * (bits h 18 0 + i)
    if a + 2 ≤ r.synLen then fldAt p (r.at_ + 34848 + a) 2 else 0)

/-- Words in synapse-word format: block markers carry a block; free words may stand in any row (R203, R252). -/
def wordsOk (ws : List Nat) : Bool :=
  ws.all (fun w => w / 256 != 0x80 || w % 256 < 64 || w == 0x80FF)

/-- A row lies where R202 wants it. -/
def rowPlaced (cistBytes : Nat) (r : NcRec) (h : Nat) : Bool :=
  let n := bits h 47 36
  let a := bits h 35 0
  if bit h 62 then
    decide (a < 2 ^ 29) && decide (a * 64 + 2 * n ≤ cistBytes) && r.k != 0 && decide (ceilDiv n 32 ≤ r.k / 32)
  else decide (a < 2 ^ 19) && decide (4 * r.h ≤ a) && decide (a + n ≤ 524288 - r.k)

def headerOk (pkg p : List Byte) (cistBytes : Nat) (r : NcRec) (i : Nat) : Bool :=
  let h := recHeader p r i
  let plastic := bit h 60
  bits h 50 48 == 0 && (!bit h 63 || (decide (1 ≤ bits h 47 36) && rowPlaced cistBytes r h &&
    wordsOk ((pkgRowWords pkg p r h).drop (if plastic then 4 else 0))))

/-- An NC record passes the loader (R215). cols: mesh columns present. -/
def ncRecOk (pkg p : List Byte) (cols cistBytes : Nat) (r : NcRec) : Bool :=
  decide (r.at_ + r.len ≤ p.length) && decide (r.row < 16) && decide (r.col < cols) && decide (r.k ≤ 262144) &&
    fldAt p (r.at_ + 16) 16 == 0 && r.synLen % 8 == 0 && r.axLen % 16 == 0 && r.stLen % 16 == 0 &&
    decide (4 * r.h < 524288 - r.k) && decide (r.synLen ≤ 2 * (524288 - r.k)) && decide (r.axLen ≤ 262144) && decide (r.stLen ≤ 262144) &&
    (List.range 64).all (fun i => !bit (recPset p r i 1) 31 && bits (recPset p r i 2) 23 22 == 0 &&
      [3, 4, 5, 6, 7].all (fun w => recPset p r i w == 0)) &&
    (List.range r.h).all (headerOk pkg p cistBytes r) &&
    (recAxon p r).all (fun a => bits a 127 88 == 0 && decide (bits a 47 32 < 2 ^ cols)) &&
    decide (((recAxon p r).filter (fun a => bit a 69)).length ≤ 64) && (recState p r).all (fun s => bits s 119 114 == 0)

/-- A learning record passes the loader (R271), with the plastic rows of its NC (R251, R253). -/
def slotRecOk (p : List Byte) (o : Nat) : Bool :=
  let ctl := fldAt p o 4
  let str := fldAt p (o + 4) 4
  let rwd := fldAt p (o + 8) 4
  let wmin := signedOf 8 (bits ctl 7 0)
  let wmax := signedOf 8 (bits ctl 15 8)
  decide (-127 ≤ wmin) && decide (wmin ≤ 0) && decide (0 ≤ wmax) && decide (wmin ≤ wmax) && bits ctl 25 20 == 0 &&
    str &&& 0xFF7F00 == str && !(bit ctl 26 && bits str 23 16 == 0) && decide (rwd < 2 ^ 30) &&
    !(bits rwd 29 28 == 2 && decide (3 < bits rwd 27 16)) && decide (fldAt p (o + 12) 4 < 256)

def learnRecOk (p : List Byte) (o : Nat) : Bool :=
  decide (o + 4232 ≤ p.length) && decide (fldAt p o 1 < 16) && decide (fldAt p (o + 1) 1 < 16) && fldAt p (o + 2) 6 == 0 &&
    (List.range 8).all (fun k => slotRecOk p (o + 8 + 16 * k))

/-- A plastic row meets R251 and its CAND names a candidate list (R253). -/
def plasticOk (pkg p : List Byte) (r : NcRec) (h : Nat) : Bool :=
  let pre := (pkgRowWords pkg p r h).take 4
  let cand := (pre.getD 3 0) / 16
  let c := recHeader p r cand
  decide (5 ≤ bits h 47 36) && (bit h 62 || bits h 35 0 % 4 == 0) && !bit (pre.getD 3 0) 3 &&
    (cand == 0 || (decide (cand < r.h) && !bit c 63 && !bit c 62 && decide (1 ≤ bits c 47 36) && decide (bits c 47 36 ≤ 64) &&
      rowPlaced 0 r c && wordsOk (pkgRowWords pkg p r c)))

/-- Every plastic row of a core map is right, whether or not the map has a learning section (R251, R253, R271). -/
def plasticRowsOk (pkg p : List Byte) : Bool :=
  (coreRecs p).all (fun r => (List.range r.h).all (fun i =>
    let h := recHeader p r i
    !(bit h 63 && bit h 60) || plasticOk pkg p r h))

/-- The learning records pass R271. -/
def learningOk (p : List Byte) : Bool :=
  p.length % 4232 == 0 && (List.range (p.length / 4232)).all (fun i => learnRecOk p (4232 * i))

/-! ## The junction section (R276, R283, R297) -/

def laneAt (p : List Byte) (ix : Nat) : LaneMap :=
  let o := 16 * ix
  ⟨fldAt p o 1 % 4, bit (fldAt p o 1) 2, bits (fldAt p o 1) 7 4, fldAt p (o + 1) 1, fldAt p (o + 2) 2, fldAt p (o + 4) 2,
    fldAt p (o + 6) 2, fldAt p (o + 8) 2, fldAt p (o + 10) 2, fldAt p (o + 12) 2⟩
def winAt (p : List Byte) (s : Nat) : WinMap :=
  let o := 6144 + 16 * s
  ⟨fldAt p o 2, fldAt p (o + 2) 1, bit (fldAt p (o + 3) 1) 0, fldAt p (o + 4) 1, fldAt p (o + 5) 1⟩
def gatherAt (p : List Byte) (g : Nat) : GatherMap :=
  let o := 7168 + 16 * g
  ⟨fldAt p o 2, fldAt p (o + 2) 2, fldAt p (o + 4) 1, fldAt p (o + 5) 1, fldAt p (o + 6) 2, fldAt p (o + 8) 2, bit (fldAt p (o + 10) 1) 0⟩
def deltaAt (p : List Byte) : Nat := fldAt p 7424 8

/-- A lane map in force is within its bounds, and every AXON that its elements can produce is below 65,536 (R276, R297). A
mask never names a column that the variant lacks (R227). -/
def laneOk (cols : Nat) (img : List Byte) (p : List Byte) (ix : Nat) : Bool :=
  let l := laneAt p ix
  let words := ((imgTail img).filter (fun e => 4 * e.col + e.lane == ix)).length
  let elems := words * fmtLanes l.fmt
  let top := if l.mode = Dev.lmDelta then l.axbase + 2 * (elems - 1) + 1 else l.axbase + (elems - 1)
  fldAt p (16 * ix + 14) 2 == 0 && !bit (fldAt p (16 * ix) 1) 3 && decide (l.cols < 2 ^ cols) && (l.mode == 0 ||
    ([6, 5, 1, 0].contains l.fmt && decide (1 ≤ l.nt) && decide (l.nt ≤ 16) && (l.mode != Dev.lmDelta || l.dth != 0) &&
      (elems == 0 || decide (top < 65536))))

def junctionOk (cols : Nat) (img p : List Byte) : Bool :=
  let gs := (List.range 16).filter (fun g => (gatherAt p g).en)
  let ss := (List.range 64).filter (fun s => (winAt p s).ncls != 0)
  let blocks := ss.map (fun s => ((winAt p s).cbase, (winAt p s).ncls))
  p.length == 7432 && (List.range 384).all (laneOk cols img p) &&
    (List.range 64).all (fun s => let w := winAt p s
      fldAt p (6144 + 16 * s + 6) 10 == 0 && decide (fldAt p (6144 + 16 * s + 3) 1 < 2) &&
        (w.ncls == 0 || (decide (w.ncls ≤ 64) && decide (w.cbase + w.ncls ≤ 4096) && decide (1 ≤ w.wlen)))) &&
    (List.range 16).all (fun g => let m := gatherAt p g
      fldAt p (7168 + 16 * g + 11) 5 == 0 && decide (fldAt p (7168 + 16 * g + 10) 1 < 2) &&
        (!m.en || (decide (1 ≤ m.count) && decide (m.cbase + m.count ≤ 4096) && decide (m.src < 64) && decide (m.dst < 64) &&
          decide (4 ≤ m.len) && decide (m.len ≤ 64)))) &&
    pairwise (fun a b => overlap a.1 a.2 b.1 b.2) blocks &&
    gs.all (fun g => blocks.all (fun b => !overlap (gatherAt p g).cbase (gatherAt p g).count b.1 b.2))

namespace Dev

/-- A physical column is bad by the fuse map or the defect journal, or fused off in the WD4-C2 (R87, R88). -/
def colOff (d : Dev) (c : Nat) : Bool :=
  d.fuses.bad.contains (1, c) || d.sec.off.contains (1, c) || (d.isC2 && decide (50 ≤ c))

/-- Columns of a half that are off (R87, R88). -/
def badCols (d : Dev) (east : Bool) : Nat :=
  ((List.range 50).filter (fun i => d.colOff ((if east then 50 else 0) + i))).length

/-- A half cannot map its columns. In the WD4-C2 the east half does not exist. -/
def colsShort (d : Dev) : Bool := decide (2 < d.badCols false) || (!d.isC2 && decide (2 < d.badCols true))

/-- A physical NC is off by fuse or journal. -/
def ncOff (d : Dev) (row pos : Nat) : Bool := let i := row * 17 + pos
  d.fuses.bad.contains (2, i) || d.sec.off.contains (2, i)

/-- A mesh row has more than one bad NC (R189). -/
def rowsShort (d : Dev) : Bool :=
  (List.range 16).any (fun r => decide (1 < ((List.range (d.meshCols + 1)).filter (d.ncOff r)).length))

/-- Quadrants present (R2, R89). -/
def quadsPresent (d : Dev) : Nat := if d.isC2 then 5 else 15

def cistBase (d : Dev) : Nat := d.rn64 Reg.memCistBaseLo Reg.memCistBaseHi
def cistBytes (d : Dev) : Nat := d.fld Reg.memCistSize 5 0 * 2 ^ 30

/-- A range in installed DDR5, above the firmware's 1 GiB (R323). -/
def ddrRegion (d : Dev) (a n : Nat) : Bool := n == 0 || (d.placeOf a n == .ddr && decide (ddrBase + 0x40000000 ≤ a))

/-- Bytes of the checkpoint region (R269). -/
def ckptBytes : Nat := 512 * 1314816

/-- Regions that the board description lays out: Cistern, checkpoint, package, golden image, service (R269, R323). One whose
base is 0 has not been laid out. -/
def boardRegions (d : Dev) : List (Nat × Nat) :=
  [(d.cistBase, d.cistBytes), (d.rn64 Reg.lrnCkptBaseLo Reg.lrnCkptBaseHi, ckptBytes), (d.board.pkgBase, d.board.pkgLen),
    (d.board.goldBase, d.board.goldLen), (d.board.svcBase, d.board.svcLen)].filter (fun r => r.1 != 0)

/-- A stream's slots as one range. -/
def slotRange (d : Dev) (n : Nat) : Nat × Nat := (d.slotAddr n 0, d.fld (Reg.intkStrBufCfg n) 4 0 * d.slotSize n)

/-- Open streams other than n whose slots lie in DDR5. -/
def pinnedStreams (d : Dev) (n : Nat) : List Nat :=
  (List.range 64).filter (fun k => k != n && d.strOpen k && d.flag (Reg.intkStrBufCfg k) 8)

/-- The record queue as a region of DDR5, where PLACE says so (R289, R323). -/
def queueRegion (d : Dev) : List (Nat × Nat) :=
  if d.flag Reg.jnRqCfg 16 then [(d.rn64 Reg.jnRqBaseLo Reg.jnRqBaseHi, d.fld Reg.jnRqCfg 15 0 * 64)] else []

/-- Every region of a job in DDR5 (R323). -/
def ddrRegions (d : Dev) : List (Nat × Nat) := d.boardRegions ++ d.queueRegion ++ (d.pinnedStreams 64).map d.slotRange

/-- Service regions lie in the board's service region or in Pond memory, and apart, and the mask leaves a core (R304, R323). -/
def serviceOk (d : Dev) (p : List Byte) : Bool :=
  let rs := Config.serviceRegions p
  (Config.serviceMask p) != 0xFFFF && pairwise (fun a b => overlap a.1 a.2 b.1 b.2) rs &&
    rs.all (fun r => (isPond r.1 && isPond (r.1 + (r.2 - 1))) ||
      (decide (d.board.svcBase ≤ r.1) && decide (r.1 + r.2 ≤ d.board.svcBase + d.board.svcLen)))

/-- No stated figure exceeds its capacity at a tick length: 32 packets per period across a mid-cut, 3,125 per 1,600 periods
through a leat port in one direction (R30). -/
def trafficOk (p : List Byte) (len : Nat) : Bool :=
  (List.range 10).all (fun k =>
    decide ((Config.trafficFigure p k).toNat * 1600 ≤ (if k < 2 then 51200 else 3125) * len))

/-- The code of one section of a package: 0 when it passes (R394, R396). -/
def sectionCode (d : Dev) (pkg : List Byte) (s : Section) : Nat :=
  let p := secBytes pkg s
  let img := secOf pkg 1
  if s.kind = 1 then if d.colsShort then 0x27 else if imageOk d.quadsPresent p then 0 else 0x21
  else if s.kind = 2 then if ladderOk p img then 0 else 0x22
  else if s.kind = 3 then
    if d.rowsShort then 0x27
    else if !(coreRecs p).all (ncRecOk pkg p d.meshCols d.cistBytes) then 0x23
    else if plasticRowsOk pkg p then 0 else 0x24
  else if s.kind = 4 then if learningOk p then 0 else 0x24
  else if s.kind = 5 then if junctionOk d.meshCols img p then 0 else 0x25
  else if s.kind = 6 then if s.len ≤ 2 ^ 30 ∧ s.index * 2 ^ 30 + s.len ≤ d.cistBytes then 0 else 7
  else if s.kind = 7 then if trafficOk p (d.rn Reg.mrTickLen) then 0 else 0x26
  else if d.serviceOk p then 0 else 0x28

/-- The code of a whole package: that of the first check that fails (R396). -/
def packageCode (d : Dev) (p : List Byte) (len : Nat) : Nat :=
  if !pkgHeaderOk p len then 0x20
  else if !pkgHashOk p then 8
  else if !pkgTableOk p then 0x20
  else ((pkgSections p).map (d.sectionCode p)).find? (· != 0) |>.getD 0

end Dev

end Sys2Proof.Machine
end

