-- ==== Sys2Proof/Machine/Board.lean ====
section
/-! DEFINITION. Board descriptions: DESCRIBE and the routes of a multi-device job (R3, R4, R41, R323, R325, R333, R336, R343,
R399, R401). Log entry 15 fixes what the manual leaves open of their layout. -/

namespace Sys2Proof.Machine

/-- A section of a board description: type, entries, words. -/
structure BoardSec where
  kind  : Nat
  count : Nat
  words : List Nat
  /-- The section lies within the description, in whole words. -/
  ok    : Bool
deriving DecidableEq, Repr

/-- The sections of a description, in order; the fuel bounds their number. -/
def boardSecs (p : List Byte) : Nat → Nat → List BoardSec
  | 0, _ => []
  | fuel + 1, o =>
    if p.length ≤ o then [] else
    let n := fldAt p (o + 4) 4
    let ok := decide (o + 8 + n ≤ p.length) && n % 4 == 0
    let s : BoardSec := ⟨fldAt p o 2, fldAt p (o + 2) 2, table p (o + 8) 4 (n / 4), ok⟩
    if ok then s :: boardSecs p fuel (o + 8 + n) else [s]

/-- Words that a section of a type holds (R401). -/
def boardLen (kind count : Nat) : Nat :=
  if kind = 1 then 7 else if kind = 2 then 8 else if kind = 3 then 48 * count else if kind = 4 then 16
  else if kind = 5 then 5 * count + 24 else 18

/-- Word k of a section, and the pair of words from k. -/
def BoardSec.w (s : BoardSec) (k : Nat) : Nat := s.words.getD k 0
def BoardSec.w64 (s : BoardSec) (k : Nat) : Nat := s.w k + s.w (k + 1) * 2 ^ 32

/-- Bits that a register's description lets software write. -/
def writable (a : Nat) : Nat :=
  match findReg a with
  | some r => r.rw ||| r.rwl
  | none => 0

/-- A word fits a register's format: its reserved bits are 0. -/
def fitsReg (a w : Nat) : Bool := w &&& writable a == w

/-- Members of a shape: 0 and 1 one device, 2-8 a ring, 9 torus 2 × 2, 10 torus 2 × 4, 11 torus 4 × 4. -/
def shapeSize (shape : Nat) : Nat :=
  if shape ≤ 1 then 1 else if shape ≤ 8 then shape else if shape = 9 then 4 else if shape = 10 then 8 else if shape = 11 then 16 else 0

/-- The device that a port of device i leads to (R333): L1 and L2 to the next, L3 and L0 to the one before. -/
def stepDev (shape i port : Nat) : Nat :=
  let n := shapeSize shape
  if shape ≤ 8 then (if port = 1 ∨ port = 2 then (i + 1) % max 1 n else (i + n - 1) % max 1 n)
  else
    let cols := if shape = 9 then 2 else 4
    let rows := n / cols
    let r := i / cols
    let c := i % cols
    if port = 1 then r * cols + (c + 1) % cols
    else if port = 3 then r * cols + (c + cols - 1) % cols
    else if port = 2 then (r + 1) % rows * cols + c
    else (r + rows - 1) % rows * cols + c

/-- The link of a device's port closes its ring: from its last member in device order to its first (R333, DEDUCED, log entry
15). -/
def closes (shape i port : Nat) : Bool :=
  let n := shapeSize shape
  let cols := if shape = 9 then 2 else 4
  let at_ := if shape ≤ 8 then i else if port % 2 = 1 then i % cols else i / cols
  let len := if shape ≤ 8 then n else if port % 2 = 1 then cols else n / cols
  if port = 1 ∨ port = 2 then at_ + 1 == len else at_ == 0

namespace Dev

/-! ## Checks of the sections -/

/-- Regions that a description lays out, with the checkpoint region (R269, R323). -/
def secRegions (s : BoardSec) : List (Nat × Nat) :=
  [(s.w64 0, s.w 2 * 0x40000000), (s.w64 3, if s.w64 3 = 0 then 0 else ckptBytes), (s.w64 6, s.w64 8), (s.w64 10, s.w64 12),
    (s.w64 14, s.w64 16)]

/-- Ranges apart, each in installed DDR5 above the firmware's 1 GiB; a region of no bytes is absent (R323). -/
def regionsOk (d : Dev) (l : List (Nat × Nat)) : Bool :=
  l.all (fun r => d.ddrRegion r.1 r.2) && pairwise (fun a b => overlap a.1 a.2 b.1 b.2) l

/-- The own index that a description gives, else the present one. -/
def describedDev (d : Dev) (ss : List BoardSec) : Nat :=
  match ss.find? (fun s => s.kind == 1) with
  | some s => s.w 1 % 16
  | none => d.ownDev

/-- The shape that a description gives, else the present one. -/
def describedShape (d : Dev) (ss : List BoardSec) : Nat :=
  match ss.find? (fun s => s.kind == 1) with
  | some s => s.w 2
  | none => d.board.shape

/-- The code of one section of a description for a device of a shape: 0 when it passes (R333, R394, R401). -/
def boardCode (d : Dev) (shape own : Nat) (s : BoardSec) : Nat :=
  let formed := s.ok && decide (1 ≤ s.kind) && decide (s.kind ≤ 6) && s.words.length == boardLen s.kind s.count
  let bad (b : Bool) : Nat := if b then 0 else 0x48
  if !formed then 0x48
  else if s.kind = 1 then
    let own := s.w 1 % 16
    let n := bits (s.w 1) 12 8
    let master := s.w 3
    bad (s.w 1 &&& 0x1F0F == s.w 1 && decide (1 ≤ n) && decide (own < n) && shapeSize (s.w 2) == n && decide (master < n) &&
      !(d.isC2 && decide (9 ≤ s.w 2)) && fitsReg Reg.tbCtl (s.w 4) && decide (160 ≤ s.w 5) && decide (s.w 5 ≤ 16000000) &&
      fitsReg Reg.lkTsync (s.w 6) && (n == 1 || ((s.w 4 % 4 == 3) == (own != master) && bit (s.w 6) 31 == (own == master))))
  else if s.kind = 2 then
    bad ((List.range 4).all (fun p =>
      let v := s.w (2 * p)
      let x := d.rn (Reg.lkPortPartner p)
      -- R333: the wiring of the shape, with the WRAP link where a ring closes
      fitsReg (Reg.lkPortCfg p) v && fitsReg (Reg.tbAsym p) (s.w (2 * p + 1)) && (!bit v 31 || (bits v 13 12 == (p + 2) % 4 && !(d.isC2 && p % 2 == 0) &&
        decide (2 ≤ shape) && bits v 19 16 == stepDev shape own p && bit v 21 == closes shape own p &&
        !(d.flag (Reg.lkPortStat p) 1 && (bits x 19 16 != bits v 19 16 || bits x 13 12 != bits v 13 12))))))
  else if s.kind = 3 then
    bad (decide (1 ≤ s.count) && decide (s.count ≤ 16) &&
      (List.range (16 * s.count)).all (fun i => fitsReg (Reg.lkRoute 0) (s.w (3 * i))))
  else if s.kind = 4 then bad ((List.range 16).all (fun g => fitsReg (Reg.lkCollCfg g) (s.w g)))
  else if s.kind = 5 then
    bad (decide (s.count ≤ 6) &&
      (List.range s.count).all (fun n => fitsReg (Reg.intkLinkCfg n) (s.w (5 * n)) && fitsReg (Reg.intkLinkCtl n) (s.w (5 * n + 1)) &&
        fitsReg (Reg.intkLinkLatExp n) (s.w (5 * n + 2)) && fitsReg (Reg.intkLinkAdcLat n) (s.w (5 * n + 3)) &&
        fitsReg (Reg.intkLinkSper n) (s.w (5 * n + 4))) &&
      (List.range 24).all (fun m => fitsReg (Reg.intkLaneCfg m) (s.w (5 * s.count + m))))
  else if s.w64 0 % 0x40000000 = 0 ∧ s.w 2 ≤ 32 ∧ s.w64 3 % 4096 = 0 ∧ fitsReg Reg.lkReplayBase (s.w 5) ∧ d.regionsOk (secRegions s) then 0
  else 7

/-! ## Writing -/

/-- A write of LK_PORTp_CFG: EN written 0 takes the port down with cause LOCAL (R330, R331). -/
def portCfgSet (p v : Nat) (d : Dev) : Dev :=
  let d := if d.flag (Reg.lkPortCfg p) 31 && !bit v 31 then (d.portDown p 6).setFlag (Reg.lkPortStat p) 1 false else d
  d.portCfgWrite p v

/-- MR_STAT.MODE from the device count (R237). -/
def showMode (d : Dev) : Dev := d.setFlag Reg.mrStat 0 (decide (5 ≤ d.jobDevs))

/-- A link's registers; an enabled link whose locked words change is disabled first. -/
def linkSet (n : Nat) (s : BoardSec) (d : Dev) : Dev :=
  let k := 5 * n
  let same := d.rn (Reg.intkLinkCfg n) == s.w k && d.rn (Reg.intkLinkCtl n) == s.w (k + 1) && d.rn (Reg.intkLinkLatExp n) == s.w (k + 2) &&
    d.rn (Reg.intkLinkAdcLat n) == s.w (k + 3) && d.rn (Reg.intkLinkSper n) == s.w (k + 4) &&
    (List.range 24).all (fun m => d.rn (Reg.intkLaneCfg m) == s.w (5 * s.count + m))
  let d := if d.linkEn n && !same then d.linkCtlWrite n (putBits (d.rn (Reg.intkLinkCtl n)) 0 0 0) else d
  ((((d.setReg (Reg.intkLinkCfg n) (s.w k)).setReg (Reg.intkLinkLatExp n) (s.w (k + 2))).setReg (Reg.intkLinkAdcLat n) (s.w (k + 3))).setReg
    (Reg.intkLinkSper n) (s.w (k + 4)))

/-- One section is written. -/
def boardWrite (own : Nat) (d : Dev) (s : BoardSec) : Dev :=
  if s.kind = 1 then
    let d := ((d.setReg Reg.lkSysid (s.w 0)).setReg Reg.mrDevid (s.w 1)).setReg Reg.mrTickLen (s.w 5)
    let d := (d.setReg Reg.lkTsync (s.w 6)).tbCtlWrite (s.w 4)
    { d with board := { d.board with shape := s.w 2, master := s.w 3 } }.showMode.showSysid
  else if s.kind = 2 then
    (List.range 4).foldl (fun d p => (d.portCfgSet p (s.w (2 * p))).setReg (Reg.tbAsym p) (s.w (2 * p + 1))) d
  else if s.kind = 3 then
    let d := (List.range 16).foldl (fun (d : Dev) v =>
      let k := (own * 16 + v) * 3
      ((d.setReg (Reg.lkRoute v) (s.w k)).setReg (Reg.lkRoutePmask v) (s.w (k + 1))).setReg (Reg.lkRouteRmask v) (s.w (k + 2))) d
    { d with board := { d.board with routes := s.words } }.showRoutes
  else if s.kind = 4 then (List.range 16).foldl (fun (d : Dev) g => d.setReg (Reg.lkCollCfg g) (s.w g)) d
  else if s.kind = 5 then
    let d := (List.range s.count).foldl (fun d n => d.linkSet n s) d
    -- a lane of an enabled link is locked (R81)
    let d := (List.range 24).foldl (fun (d : Dev) m =>
      if d.linkEn (d.fld (Reg.intkLaneCfg m) 6 4) then d else d.setReg (Reg.intkLaneCfg m) (s.w (5 * s.count + m))) d
    (List.range s.count).foldl (fun d n => d.linkCtlWrite n (s.w (5 * n + 1))) d
  else
    let d := (d.setReg64 Reg.memCistBaseLo Reg.memCistBaseHi (s.w64 0)).setReg Reg.memCistSize (s.w 2)
    let d := (d.setReg64 Reg.lrnCkptBaseLo Reg.lrnCkptBaseHi (s.w64 3)).setReg Reg.lkReplayBase (s.w 5)
    { d with board := { d.board with
      pkgBase := s.w64 6, pkgLen := s.w64 8, goldBase := s.w64 10, goldLen := s.w64 12, svcBase := s.w64 14, svcLen := s.w64 16 } }

/-! ## Routes at job start (R336) -/

/-- A member's route entry: itself, PMASK and RMASK. -/
def routeEntry (d : Dev) (s v : Nat) : Nat × Nat × Nat :=
  let k := (s * 16 + v) * 3
  (d.board.routes.getD k 0, d.board.routes.getD (k + 1) 0, d.board.routes.getD (k + 2) 0)

/-- A hop of a path: its device, the port by which it leaves, the mask of the path there. -/
structure Hop where
  dev  : Nat
  port : Nat
  mask : Nat

/-- The hops of a path from s to v; none for a path that loops, exceeds the hops, or meets a device without a route. -/
def walkRoute (d : Dev) (rev : Bool) (v : Nat) : Nat → Nat → Option (List Hop)
  | 0, s => if s = v then some [] else none
  | k + 1, s =>
    if s = v then some [] else
    let e := d.routeEntry s v
    if !bit e.1 31 then none else
    let port := if rev then bits e.1 5 4 else bits e.1 1 0
    (walkRoute d rev v k (stepDev d.board.shape s port)).map (fun l => ⟨s, port, if rev then e.2.2 else e.2.1⟩ :: l)

/-- Along a path each device's mask is the mask of the next one and one link more, and the last has one link. -/
def masksOk : List Hop → Bool
  | [] => true
  | h :: rest =>
    let next := (rest.map (·.mask)).headD 0
    popcount 32 h.mask == popcount 32 next + 1 && h.mask &&& next == next && masksOk rest

/-- In a torus every X hop (L1, L3) comes before every Y hop. -/
def xFirst : List Hop → Bool
  | [] => true
  | h :: rest => (h.port % 2 == 1 || rest.all (fun q => q.port % 2 == 0)) && xFirst rest

/-- A link by its eastern or southern end: the device and port from which L1 or L2 leaves. -/
def linkEnd (shape dev port : Nat) : Nat :=
  if port = 1 ∨ port = 2 then dev * 4 + port else stepDev shape dev port * 4 + (port + 2) % 4

/-- The links of a path that passes masksOk, each with its bit of the mask. -/
def hopLinks (shape : Nat) : List Hop → List (Nat × Nat)
  | [] => []
  | h :: rest => (linkEnd shape h.dev h.port, h.mask ^^^ (rest.map (·.mask)).headD 0) :: hopLinks shape rest

/-- One pair of members passes R336 on its own. -/
def pairOk (d : Dev) (s v : Nat) : Bool :=
  if s = v then true else
  let e := d.routeEntry s v
  match d.walkRoute false v 7 s, d.walkRoute true v 7 s with
  | some p, some r => e.2.1 &&& e.2.2 == 0 && masksOk p && masksOk r && (!d.isTorus || (xFirst p && xFirst r))
  | _, _ => false

/-- Every link that the masks of the members' paths name, and the own ports' links, each with its bit. -/
def namedLinks (d : Dev) (n : Nat) : List (Nat × Nat) :=
  let own := ((List.range 4).filter (fun p => d.flag (Reg.lkPortCfg p) 31)).map (fun p =>
    (linkEnd d.board.shape d.ownDev p, 2 ^ d.fld (Reg.lkPortCfg p) 26 22))
  let path (rev : Bool) (s v : Nat) : List (Nat × Nat) := hopLinks d.board.shape ((d.walkRoute rev v 7 s).getD [])
  (own ++ (List.range n).flatMap (fun s => (List.range n).flatMap (fun v => path false s v ++ path true s v))).eraseDups

/-- The routes of a job pass R336: every pair, one bit to every link and one link to every bit, one WRAP link where each ring
closes, and no trained partner that disagrees with the description. -/
def routesOk (d : Dev) : Bool :=
  let n := d.jobDevs
  n ≤ 1 || ((List.range n).all (fun s => (List.range n).all (d.pairOk s)) &&
    pairwise (fun a b => a.1 == b.1 || a.2 == b.2) (d.namedLinks n) &&
    (List.range 4).all (fun p => !d.flag (Reg.lkPortCfg p) 31 ||
      (!d.flag (Reg.lkPortStat p) 3 && d.flag (Reg.lkPortCfg p) 21 == closes d.board.shape d.ownDev p)))

/-- Collective entries are not refused: no reserved OP, and ROOT is a member (R343). -/
def collsOk (d : Dev) : Bool :=
  (List.range 16).all (fun g => !bit (d.collCfg g) 31 || (decide (d.collOp g < 6) && bit (d.collMembers g) (d.collRoot g)))

/-! ## DESCRIBE -/

/-- DESCRIBE: the whole description is checked, and then written (R401). -/
def describe (d : Dev) : Dev :=
  match d.jobCmd 1 with
  | none => d
  | some c =>
    let a := cmdArg64 c 0
    let n := cmdArg c 2
    if d.jobState ≠ jsNone ∧ d.jobState ≠ jsLoaded then d.complete c 5 []
    else if n = 0 || !d.readable a n then (d.readRefused a (max 1 n)).complete c 7 [0xFFFF]
    else
      let r := d.srcReady a
      if !r.1 then r.2.beginJob else
      let p := d.bytes a n
      let d := d.touch 0 a n
      let ss := boardSecs p (n / 8 + 1) 0
      let own := d.describedDev ss
      let code := d.boardCode (d.describedShape ss) own
      match ss.findIdx? (fun s => code s != 0) with
      | some i => d.complete c (code (ss.getD i ⟨0, 0, [], false⟩)) [i]
      | none =>
        let d := ss.foldl (boardWrite own) d
        { d with sec := { d.sec with board := sha256 p } }.complete c 0 [0xFFFF]

end Dev

open Dev

/-- DESCRIBE (R401). -/
def execDescribe (s : State) : Host.Outcome State Fault Refusal := onDev Dev.describe s

end Sys2Proof.Machine
end

