-- ==== Sys2Proof/Machine/Journal.lean ====
section
/-! DEFINITION. The defect journal: its block, its write-back, and field failures (R463-R465). -/

namespace Sys2Proof.Machine

namespace Dev

/-- Kinds of units (R463) and sources of entries (R464). -/
def kindColumn : Nat := 1
def kindNc : Nat := 2
def kindPond : Nat := 3
def kindWay : Nat := 4
def kindCore : Nat := 5
def srcField : Nat := 4

/-- The 16 bytes of an entry. -/
def entryBytes (e : JEntry) : List Byte := toBytes 1 e.kind ++ toBytes 1 e.source ++ toBytes 2 e.index ++ toBytes 4 e.run ++ toBytes 8 e.mem

/-- Bytes 0-31 of the journal. -/
def journalHead (d : Dev) : List Byte :=
  toBytes 4 0x4A444457 ++ toBytes 2 1 ++ toBytes 2 d.sec.journal.length ++ toBytes 8 d.fuses.serial ++ toBytes 4 d.sec.fullRun ++
    toBytes 4 (d.rn Reg.secRun) ++ toBytes 4 (d.rn Reg.secWarmCount) ++ zeroBytes 4

/-- The journal's block of 32,832 bytes. -/
def journalBytes (d : Dev) : List Byte :=
  let es := d.sec.journal.flatMap entryBytes
  d.journalHead ++ hmac d.macKey (d.journalHead ++ es) ++ es ++ zeroBytes (32768 - es.length)

/-- SEC_JRNL_STAT shows the number of entries. -/
def showJournal (d : Dev) : Dev := d.setFld Reg.secJrnlStat 11 0 d.sec.journal.length

/-- The MP writes the whole journal to host memory, and leaves its digest in AON retention (R460, R465). -/
def journalWrite (d : Dev) : Dev :=
  let short := decide (d.rn Reg.secJrnlCap < 32832)
  let d := d.setFlag Reg.secBootStat 27 short
  if short then d
  else if d.flag Reg.secJrnlStat 16 then { d with sec := { d.sec with jrnlDue := true } }
  else
    let b := d.journalBytes
    let d := { d with sec := { d.sec with jrnlDue := false, ret := { d.sec.ret with digest := sha256 b, lc := d.fuses.lc } } }
    let now := d.bme
    let d := d.hostWrite .journal (d.rn64 Reg.secJrnlBaseLo Reg.secJrnlBaseHi) b
    if now then d.bump Reg.secJrnlSeq else d.setFlag Reg.secJrnlStat 16 true

/-- Entries of a unit. -/
def journalOf (d : Dev) (kind index : Nat) : List JEntry := d.sec.journal.filter (fun e => e.kind == kind && e.index == index)

/-- An entry is appended, unless the unit has two (R464). -/
def journalAdd (d : Dev) (kind source index mem : Nat) : Dev :=
  if 2 ≤ (d.journalOf kind index).length then d
  else
    let e : JEntry := ⟨kind, source, index, d.rn Reg.secRun, mem⟩
    Dev.showJournal { d with sec := { d.sec with journal := d.sec.journal ++ [e] } }

/-- A unit fails while the device runs: it is off for the next job, and the journal goes out where an entry was appended (R464,
R465). -/
def fieldFailure (d : Dev) (kind index mem : Nat) : Dev :=
  let e := { d with sec := { d.sec with off := if d.sec.off.contains (kind, index) then d.sec.off else d.sec.off ++ [(kind, index)] } }
  if 2 ≤ (d.journalOf kind index).length then e else (e.journalAdd kind srcField index mem).journalWrite

end Dev

end Sys2Proof.Machine
end

