-- ==== Sys2Proof/Machine/Arm.lean ====
section
/-! DEFINITION. JOB_LOAD and JOB_ARM: storing a package, and writing every unit from it (R87-R89, R132-R138, R177, R182, R188,
R201, R215, R250, R251, R269-R271, R297, R396). -/

namespace Sys2Proof.Machine

/-- A list as a map from 0 upward. -/
def mapOf (l : List Nat) : SMap Nat := SMap.setMany 0 ⟨[]⟩ 0 l

namespace Dev

/-! ## Checkpoint copies (R268-R270) -/

/-- Device address of copy c of NC n. -/
def ckptAddr (d : Dev) (n c : Nat) : Nat := d.rn64 Reg.lrnCkptBaseLo Reg.lrnCkptBaseHi + (2 * n + c) * 1314816

/-- Sequence number, length, and contents of a copy in DDR5 whose CRC matches; nothing beyond its first line and what the CRC
covers is read. -/
def ckptCopy (d : Dev) (n c : Nat) : Option (Nat × Nat × Nat) :=
  let a := d.ckptAddr n c
  if d.placeOf a 1314816 ≠ .ddr ∨ d.readBad a 64 then none else
  let len := d.num (a + 12) 4
  let seq := d.num a 4
  if seq = 0 ∨ 1048576 < len ∨ d.readBad (a + 4096) (262144 + len) then none
  else if crc32c (d.bytes (a + 4096) (262144 + len)) = d.num (a + 16) 4 then some (seq, a, len) else none

/-- What the reading of an NC's copies does beside: lines of the system cache, failed checks, or an error response (R307, R309,
R435). -/
def copyReads (d : Dev) (n : Nat) : Dev :=
  (List.range 2).foldl (fun d c =>
    let a := d.ckptAddr n c
    if d.placeOf a 1314816 ≠ .ddr then d.accessErr n 0 a
    else
      let n := 262144 + min 1048576 (d.num (a + 12) 4)
      (((d.readChecks a 64).readChecks (a + 4096) n).touch 3 a 64).touch 3 (a + 4096) n) d

/-- The copy with the highest sequence number (R270). -/
def bestCopy (d : Dev) (n : Nat) : Option (Nat × Nat × Nat) :=
  match d.ckptCopy n 0, d.ckptCopy n 1 with
  | some x, some y => some (if x.1 < y.1 then y else x)
  | some x, none => some x
  | none, y => y

/-- A state word of a core map at rest: PSET and ELIG stay (R441). -/
def restWord (tlast w : Nat) : Nat :=
  neuWord { neuOf w with v := 0, ath := 0, mlast := 0, head := false, tlast := tlast }

/-- An NC's neuron state and synapse memory from its best copy, else from the package with the neuron state at rest (R270,
R441); the sequence number loaded, 0 for none. -/
def fromCopy (d : Dev) (n : Nat) (state syn : SMap Nat) : Nat × SMap Nat × SMap Nat :=
  match d.bestCopy n with
  | some (seq, a, len) => (seq, mapOf ((List.range 16384).map (fun i => d.num (a + 4096 + 16 * i) 16)),
      mapOf ((List.range (len / 2)).map (fun i => d.num (a + 266240 + 2 * i) 2)))
  | none => (0, mapOf ((List.range 16384).map (fun i => restWord (d.rn (Reg.ncTick n)) (state.get 0 i))), syn)

/-! ## JOB_LOAD (R396) -/

/-- The package's Cistern rows go to the Cistern region (R202, R400). -/
def writeCistern (p : List Byte) (d : Dev) : Dev :=
  ((pkgSections p).filter (fun s => s.kind == 6)).foldl (fun (d : Dev) s =>
    d.putBytes (d.cistBase + s.index * 0x40000000) (secBytes p s)) d

/-- The column mapping of a job, from the fuse map and the journal (R87). FLM_COLMAP and COLS_SHORT read the bad columns as
they stand. -/
def showColumns (d : Dev) : Dev :=
  (List.range 100).foldl (fun (d : Dev) c => d.setFlag (Reg.flmColmap (c / 32)) (c % 32) (d.colOff c)) d

/-- Stream window maps with NCLS ≠ 0. -/
def windowMaps (p : List Byte) : Nat :=
  let j := secOf p 5
  ((List.range 64).filter (fun s => !j.isEmpty && (winAt j s).ncls != 0)).length

/-- JOB_LOAD: copy, check, store. -/
def jobLoad (d : Dev) : Dev :=
  match d.jobCmd 0x10 with
  | none => d
  | some c =>
    let a := cmdArg64 c 0
    let n := cmdArg c 2
    let base := d.board.pkgBase
    if d.jobState ≠ jsNone then d.complete c 5 []
    else if n ≠ 0 && !d.readable a n then (d.readRefused a n).complete c 7 []
    else if d.board.pkgLen < n || !d.reachable base n || !d.regionsOk d.ddrRegions then d.complete c 7 []
    else
      let r := d.srcReady a
      if !r.1 then r.2.beginJob else
      let d := ((d.touch 0 a n).touch 0 base n).putBytes base (d.bytes a n)
      let p := d.bytes base n
      let d := d.showColumns
      let code := d.packageCode p n
      if code ≠ 0 then d.complete c code [] else
      let d := writeCistern p d
      let svc := secOf p 8
      let d := { d with
        vci := { d.vci with
          pkg := ⟨base, n⟩
          svcMask := if svc.isEmpty then 0 else (Config.serviceMask svc).toNat
          regions := if svc.isEmpty then [] else Config.serviceRegions svc }
        sec := { d.sec with pkg := sha256 p } }
      (d.setJob jsLoaded c.tag).complete c 0 [fldAt p 4 2, windowMaps p]

/-! ## JOB_ARM (R396) -/

/-- Counters and records of a job restart at 0 (R12). -/
def jobCounters (d : Dev) : Dev :=
  let d := [Reg.flmWaitLo, Reg.flmWaitHi, Reg.flmFaultCell, Reg.flmFaultCause, Reg.flmFaultEccLo, Reg.flmFaultEccHi].foldl
    (fun (d : Dev) a => d.setReg a 0) d
  let d := [3, 4, 7].foldl (fun (d : Dev) b => d.setFlag Reg.flmStat b false) d
  (List.range 256).foldl (fun (d : Dev) n =>
    ((d.setReg (Reg.ncCistLatMax n) 0).setReg (Reg.rtPondMax n) 0).setReg (Reg.rtReplMax n) 0) d

/-- The (c + 1)-th good NC of a row, counting from the west (R188). -/
def goodNc (d : Dev) (r c : Nat) : Nat := (((List.range (d.meshCols + 1)).filter (fun p => !d.ncOff r p)).drop c).headD c

/-- NC_MAP of every router. -/
def mapNcs (d : Dev) : Dev :=
  (List.range 256).foldl (fun (d : Dev) n =>
    if d.meshCols ≤ n % 16 then d
    else ((d.setReg (Reg.ncMap n) (d.goodNc (n / 16) (n % 16) * 65536 + n)).setFlag (Reg.ncStat n) 7 false).setFlag (Reg.rtStat n) 0 false) d

/-- One cell from its record, its rung windows and its scale pages (R133, R171, R176). -/
def armCell (wins : List (Nat × Nat × List Window)) (maps : List (List Nat)) (d : Dev) (c : CellRec) : Dev :=
  let ws := ((wins.filter (fun w => w.1 == c.row && w.2.1 == c.col)).map (·.2.2)).flatten
  let m := (maps.find? (fun m => m.getD 0 0 == c.row && m.getD 1 0 == c.col)).getD []
  let x : Cell := {
    bodyStart := c.bodyStart, bodyLen := c.bodyLen, slot := c.bodyStart, binds := mapOf c.binds, sched := mapOf c.slots
    sram := mapOf c.data, windows := ws, page0 := m.getD 2 0, page1 := m.getD 3 0, pageLen := m.getD 4 0 }
  d.setCell c.row c.col x

/-- A cell without a record: a single HALT slot (R133). -/
def haltCell (d : Dev) (rc : Nat × Nat) : Dev := d.setCell rc.1 rc.2 { bodyLen := 1, sched := mapOf [3 * 2 ^ 59] }

/-- The cells of the quadrants that an image names. -/
def imageCells (img : List Byte) : List (Nat × Nat) :=
  ((List.range 96).flatMap (fun r => (List.range 96).map (fun c => (r, c)))).filter (fun (x : Nat × Nat) => covers img x.1 x.2)

/-- Quadrants are powered, and the schedule image and the ladder section are written (R89, R138, R177, R182). -/
def armFlume (img lad : List Byte) (d : Dev) : Dev :=
  let d := { d with flume := { d.flumeKept with ecc := 0 } }
  let d := (((d.setFld Reg.flmStat 15 12 0).setFld Reg.flmStat 11 8 0).setFlag Reg.flmStat 0 false).setFld Reg.flmStat 2 1 0
  let d := if lad.isEmpty then
      (List.range 16).foldl (fun (d : Dev) g => d.setReg (Reg.lgCfg g) 0)
        ((List.range 64).foldl (fun (d : Dev) n => d.setReg (Reg.gaugeCfg n) 0) (d.setFld Reg.flmEpoch 7 0 0))
    else
      let d := (List.range 16).foldl (fun (d : Dev) g =>
        let x := ladGroup lad g
        d.setReg (Reg.lgCfg g) (b2n x.1 * 2 ^ 31 + x.2.2.1 * 256 + x.2.1)) d
      let d := (List.range 64).foldl (fun (d : Dev) n =>
        let x := ladGauge lad n
        (d.setReg (Reg.gaugeCfg n) (b2n (bit x.1 15) * 2 ^ 31 + x.2.1 % 16 * 65536 + bits x.1 11 0)).setReg (Reg.gaugeBounds n)
          (x.2.2.2 * 65536 + x.2.2.1)) d
      { d.setFld Reg.flmEpoch 7 0 (ladEpoch lad) with flume := { d.flume with
        satGroups := mapOf (ladSat lad)
        lgLimit := mapOf ((List.range 16).map (fun g => (ladGroup lad g).2.2.2))
        smooth := SMap.setMany {} ⟨[]⟩ 0 ((List.range 96).map (ladSmooth lad)) } }
  if img.isEmpty then (d.setReg Reg.flmL 0).setReg Reg.flmII 0 else
  let q := imgQmask img
  let d := (((d.setFld Reg.flmStat 15 12 q).setFld Reg.flmStat 11 8 q).setReg Reg.flmL (imgL img)).setReg Reg.flmII (imgII img)
  let cs := imgCells img
  let d := ((imageCells img).filter (fun (x : Nat × Nat) => !cs.any (fun (c : CellRec) => c.row == x.1 && c.col == x.2))).foldl haltCell d
  let wins := if lad.isEmpty then [] else (ladWins lad).1
  let maps := if lad.isEmpty then [] else ladMaps lad
  let d := cs.foldl (armCell wins maps) d
  let hd : List HeadEntry := (imgHead img).map (fun (x : HeadEntry × Nat × Nat) => x.1)
  let stg : List (Nat × Nat) := (imgStage img).map (fun (s : Nat × Nat × Nat) => (s.1, s.2.1))
  Dev.setFlag { d with flume := { d.flume with
      d := imgD img
      recs := List.replicate (imgD img) {}
      head := hd
      tail := imgTail img
      staging := SMap.setMany (0, 0) ⟨[]⟩ 0 stg
      tgBytes := mapOf (imgTg img) } } Reg.flmStat 0 true

/-- An NC's memories and window registers from its record, or from its checkpoint copy (R215, R270). -/
def armNc (p : List Byte) (ckpt : Bool) (d : Dev) (r : NcRec) : Dev :=
  let n := r.nc
  let d := d.setReg (Reg.ncMemCfg n) ((r.h / 256 - 1) * 65536 + r.k / 32768)
  let d := (List.range 64).foldl (fun (d : Dev) i =>
    ((d.setReg (Reg.ncPset0 n i) (recPset p r i 0)).setReg (Reg.ncPset1 n i) (recPset p r i 1)).setReg (Reg.ncPset2 n i) (recPset p r i 2)) d
  let syn := mapOf (recSyn p r)
  let state := mapOf (recState p r)
  let img := if ckpt then d.fromCopy n state syn else (0, state, syn)
  let d := if ckpt then d.copyReads n else d
  let x : Nc := { state := img.2.1, syn := img.2.2, axon := mapOf (recAxon p r), decay := mapOf (recDecay p r), inJob := true, snap := (d.nc n).snap }
  d.setNc n x

/-- MPRE becomes 0 in the prefix of an on-die plastic row (R251). -/
def clearOnDie (n : Nat) (d : Dev) (i : Nat) : Dev :=
  let h := headerOf (d.nc n) i
  if !hdValid h || !hdPlastic h || hdCist h then d else
  let x := d.nc n
  let a := hdAddr h + 3
  d.setNc n { x with syn := x.syn.set 0 a (x.syn.get 0 a / 8 * 8) }

/-- MPRE becomes 0 in the prefix of every plastic row; Cistern rows keep their weights (R251, R396). -/
def clearPrefix (n : Nat) (d : Dev) (i : Nat) : Dev :=
  let h := headerOf (d.nc n) i
  if hdValid h && hdPlastic h && hdCist h then
    let a := d.cistAddr h + 6
    d.putNum a 2 (d.num a 2 / 8 * 8)
  else d.clearOnDie n i

/-- What of the NCs outlasts a job: a snapshot that has not been taken (R217). -/
def ncsKept (d : Dev) : SMap Nc :=
  d.ncs.cells.foldl (fun (m : SMap Nc) c => m.set {} c.1 { snap := c.2.snap }) ⟨[]⟩

/-- Learning settings of an NC: none, then those of its record (R271). -/
def clearLearning (d : Dev) (n : Nat) : Dev :=
  let d := (List.range 8).foldl (fun (d : Dev) k =>
    (((d.setReg (Reg.lrnCtl n k) 0).setReg (Reg.lrnStruct n k) 0).setReg (Reg.lrnRwdCfg n k) 0).setReg (Reg.lrnReward n k) 0) d
  (d.setReg (Reg.lrnStat n) 0).setReg (Reg.lrnEtickHi n) 0

def armLearning (p : List Byte) (d : Dev) (i : Nat) : Dev :=
  let o := 4232 * i
  let n := fldAt p o 1 * 16 + fldAt p (o + 1) 1
  let d := (List.range 8).foldl (fun (d : Dev) k =>
    let q := o + 8 + 16 * k
    (((d.setReg (Reg.lrnCtl n k) (fldAt p q 4)).setReg (Reg.lrnStruct n k) (fldAt p (q + 4) 4)).setReg (Reg.lrnRwdCfg n k)
      (fldAt p (q + 8) 4)).setReg (Reg.lrnReward n k) (fldAt p (q + 12) 4)) d
  -- LRN_TSEL: [11] DEP, [10:8] slot, [7:0] index (R272)
  let tab (dep : Nat) : List Nat := (List.range 8).flatMap (fun k => table p (o + 136 + 512 * k + 256 * dep) 1 256)
  d.setNc n { d.nc n with dt := mapOf (tab 0 ++ tab 1) }

/-- The junction section (R297). -/
def armJunction (p : List Byte) (d : Dev) : Dev :=
  let j := d.jn
  let d := { d with jn := { seq := j.seq, kept := j.kept } }
  if p.isEmpty then (d.setFlag Reg.jnStat 0 false).showJn else
  let d := { d with jn := { d.jn with
    lanes := SMap.setMany {} ⟨[]⟩ 0 ((List.range 384).map (laneAt p))
    wins := SMap.setMany {} ⟨[]⟩ 0 ((List.range 64).map (winAt p))
    gathers := SMap.setMany {} ⟨[]⟩ 0 ((List.range 16).map (gatherAt p))
    deltaBase := deltaAt p } }
  (d.setFlag Reg.jnStat 0 true).showJn

/-- Every unit is written from the package. -/
def armAll (p : List Byte) (ckpt : Bool) (d : Dev) : Dev :=
  let d := d.jobCounters.showColumns.mapNcs
  let d := armFlume (secOf p 1) (secOf p 2) d
  let d := { d with ncs := d.ncsKept, routers := ⟨[]⟩ }
  let d := (List.range 256).foldl clearLearning d
  let d := (secsOf p 3).foldl (fun (d : Dev) q => (coreRecs q).foldl (armNc q ckpt) d) d
  let l := secOf p 4
  let d := (List.range (l.length / 4232)).foldl (armLearning l) d
  let d := (List.range 256).foldl (fun (d : Dev) n => if (d.nc n).inJob then (List.range (d.ncH n)).foldl (clearPrefix n) d else d) d
  armJunction (secOf p 5) d

/-- JOB_ARM. ms is the time that it took. -/
def jobArm (ms : Nat) (d : Dev) : Dev :=
  match d.jobCmd 0x11 with
  | none => d
  | some c =>
    if d.jobState ≠ jsLoaded then d.complete c 5 [] else
    let n := max 1 d.vci.pkg.len
    if !d.readable d.vci.pkg.addr n || !d.regionsOk d.ddrRegions then (d.readRefused d.vci.pkg.addr n).complete c 7 [] else
    let p := d.bytes d.vci.pkg.addr d.vci.pkg.len
    let d := d.showColumns
    -- the load path checks the CRC of the image that JOB_LOAD verified, and the mappings need their spares (R88, R138, R189)
    if !(secOf p 1).isEmpty && d.colsShort || !(secsOf p 3).isEmpty && d.rowsShort then d.complete c 0x27 []
    else if !(secOf p 1).isEmpty && !imageCrcOk (secOf p 1) then d.complete c 0x21 []
    else
      let d := if d.flag Reg.tbStat 7 || d.tb.loadPend.isSome then d.loadCancel else d
      let d := armAll p (bit c.imm 0) d
      (d.setJob jsArmed c.tag).complete c 0 [min ms 400]

end Dev

open Dev

/-- JOB_LOAD (R396). -/
def execJobLoad (s : State) : Host.Outcome State Fault Refusal := onDev Dev.jobLoad s

/-- JOB_ARM (R396). -/
def execJobArm (ms : Word) (s : State) : Host.Outcome State Fault Refusal := onDev (Dev.jobArm ms.toNat) s

end Sys2Proof.Machine
end

