-- ==== Sys2Proof/Machine/Rings.lean ====
section
/-! DEFINITION. Host-bound requests, MSI-X, host rings, record forwarding, Conduit DMA and BAR2 (R355-R362, R371-R378,
R504). -/

namespace Sys2Proof.Machine

namespace Dev

/-! ## Requests that wait for Bus Master Enable (R356) -/

/-- What follows a waiting request that is performed: the journal write-back and the attestation report end (R465, R474). -/
def requestDone (d : Dev) (s : HostSender) : Dev :=
  match s with
  | .journal =>
    let d := (d.bump Reg.secJrnlSeq).setFlag Reg.secJrnlStat 16 false
    if d.sec.jrnlDue then d.journalWrite else d
  | .report => (d.bump Reg.secAttSeq).setFlag Reg.secAttStat 31 false
  | _ => d

/-! ## Interrupts (R362) -/

/-- A write of INT_VECv_SEEN. -/
def seenWrite (v seen : Nat) (d : Dev) : Dev :=
  let d := d.setReg (Reg.intVecSeen v) seen
  if d.vectorPending v then d.sendVector v else d

/-- The message that a set PBA bit holds is sent, if neither the vector nor the function is masked. -/
def sendHeld (d : Dev) (v : Nat) : Dev :=
  if d.flag (Reg.msixPba (v / 32)) (v % 32) && !d.masked v then
    (d.setFlag (Reg.msixPba (v / 32)) (v % 32) false).sendVector v
  else d

/-- Unmasking a vector. -/
def unmask (v : Nat) (d : Dev) : Dev := (d.setFlag (Reg.msixCtl v) 0 false).sendHeld v

/-- The host enables MSI-X with a Function Mask of 0 or 1 (log entry 128). -/
def maskFunction (on : Bool) (d : Dev) : Dev :=
  let d := ({ d with fnMask := on }.setFlag Reg.hifStat 2 on).setFlag Reg.hifStat 3 true
  if on then d else (List.range 64).foldl sendHeld d

/-! ## Host rings (R376-R378) -/

/-- TYPE and length in units of a record (R377). -/
def recType (bs : List Byte) : Nat := (bs.getD 10 0).toNat
def recUnits (bs : List Byte) : Nat := max 1 (ofBytes ((bs.drop 58).take 2))

/-- A record of the record queue: RESULT or MARKER. -/
def fromQueue (bs : List Byte) : Bool := recType bs == 1 || recType bs == 2

/-- Source of a record: its stream, 64 SERVICE, 65 MARKER (R504). -/
def recSource (bs : List Byte) : Nat :=
  if recType bs = 1 then (bs.getD 9 0).toNat % 64 else if recType bs = 2 then 65 else 64

/-- A record that the runtime's own programs produce: TYPE 0x10, 0x11 or 0x20-0x7F, in whole units (R377, log entry 144). -/
def serviceRecord (bs : List Byte) : Bool :=
  let t := recType bs
  (t == 0x10 || t == 0x11 || (decide (0x20 ≤ t) && decide (t < 0x80))) && bs.length == 64 * recUnits bs

def ring (d : Dev) (r : Nat) : Ring := d.rings.get {} r
def setRing (d : Dev) (r : Nat) (x : Ring) : Dev := { d with rings := d.rings.set {} r x }
def ringOn (d : Dev) (r : Nat) : Bool := d.flag (Reg.hrCtl r) 0
def ringUsed (d : Dev) (r : Nat) : Nat := (d.rn (Reg.hrWr r) + 2 ^ 32 - d.rn (Reg.hrRd r)) % 2 ^ 32
def ringBase (d : Dev) (r : Nat) : Nat := d.rn64 (Reg.hrBaseLo r) (Reg.hrBaseHi r)

/-- WR advances: the register, the write-back location, the event (R378). -/
def ringAdvance (d : Dev) (r n : Nat) : Dev :=
  let wr := (d.rn (Reg.hrWr r) + n) % 2 ^ 32
  let d := (d.setReg (Reg.hrWr r) wr).hostWrite (.ring r) (d.rn64 (Reg.hrWrbackLo r) (Reg.hrWrbackHi r)) (toBytes 4 wr)
  if d.flag (Reg.hrCtl r) 1 then d.raiseVector (32 + r) else d

/-- A PAD of n units: TYPE 0, UNITS n; no other byte has meaning, so each is a free value (R377, log entry 2). -/
def padBytes (d : Dev) (n : Nat) : Dev × List Byte :=
  let f := d.freeBytes 64
  (f.1, f.2.take 10 ++ toBytes 1 0 ++ (f.2.drop 11).take 47 ++ toBytes 2 n ++ f.2.drop 60)

/-- A queue record is in its host ring: JN_RQ_RD advances past it (R289). -/
def recordPlaced (d : Dev) : Dev := rqAdvance ((d.fld Reg.jnRqRd 15 0 + 1) % max 1 d.rqCount) d

/-- The oldest waiting record of a ring is placed at unit p where the ring has room (R378). While its writes wait for Bus
Master Enable it counts as sent (R356). -/
def ringPlace (d : Dev) (r : Nat) (bs : List Byte) (rest : List (List Byte)) : Dev :=
  let n := recUnits bs
  let size := d.rn (Reg.hrSize r)
  if size - d.ringUsed r < n then d else
  let p := d.rn (Reg.hrWr r) % size
  let d := d.hostWrite (.ring r) (d.ringBase r + 64 * p) bs
  let d := d.ringAdvance r n
  let x := d.ring r
  if d.bme then
    let d := d.setRing r { x with put := rest, padded := false }
    if fromQueue bs then d.recordPlaced else d
  else d.setRing r { x with put := rest, padded := false, sent := x.sent ++ [bs] }

/-- put_record for the oldest waiting record of a ring (R378). EN = 0 holds a record back unless it has had its PAD (R376). -/
def ringPut (r : Nat) (d : Dev) : Dev :=
  match (d.ring r).put with
  | [] => d
  | bs :: rest =>
    let n := recUnits bs
    let size := d.rn (Reg.hrSize r)
    if !d.ringOn r && !(d.ring r).padded then d
    else if size < n then (d.setRing r { d.ring r with put := rest, padded := false }).bump (Reg.hrRefused r)
    else
      let p := d.rn (Reg.hrWr r) % size
      if size - p < n then
        if size - d.ringUsed r < size - p then d else
        let f := d.padBytes (size - p)
        let d := f.1.hostWrite (.ring r) (f.1.ringBase r + 64 * p) f.2
        let d := d.ringAdvance r (size - p)
        (d.setRing r { d.ring r with padded := true }).ringPlace r bs rest
      else d.ringPlace r bs rest

/-- A record is produced now: during a job, a service-program record while that program runs on a core, one of the runtime's
`kr.*` programs while a core runs the runtime (R304, R305, R377). -/
def producesRecord (d : Dev) (bs : List Byte) : Bool :=
  serviceRecord bs && d.jobOn &&
    (if recType bs < 0x20 then !d.forwarders.isEmpty else (List.range 16).any (fun k => d.serves k))

/-- HOST_RING_PUT: a service record joins the ring bound to SERVICE, and the producer places what it can. -/
def ringProduce (r : Nat) (service : List Byte) (d : Dev) : Dev :=
  let mine := d.producesRecord service && d.vci.binds.get 0 64 == r
  let d := if mine then d.setRing r { d.ring r with put := (d.ring r).put ++ [service] } else d
  ringPut r d

/-- A write of HR_r_CTL (R376). -/
def ringCtlWrite (r v : Nat) (d : Dev) : Dev :=
  let was := d.ringOn r
  let d := d.setReg (Reg.hrCtl r) (v % 4)
  if bit v 0 && !was then d.setReg (Reg.hrWr r) (d.rn (Reg.hrRd r)) else d

/-- A queue record is on its way to a ring. -/
def forwarding (d : Dev) : Bool :=
  (List.range 32).any (fun r => (d.ring r).put.any fromQueue || (d.ring r).sent.any fromQueue)

/-- The runtime forwards the next record of the record queue to the ring bound to its source; an entry that it cannot read
twice is skipped (R289, R304, R504). -/
def recordForward (d : Dev) : Dev :=
  if d.forwarders.isEmpty || d.rqUsed == 0 || d.forwarding then d else
  let a := d.rqAddr (d.fld Reg.jnRqRd 15 0)
  if d.rqOut a || d.readBad a 64 then
    let d := d.readRefused a 64
    if d.jn.retried then d.rqSkip else d.setJn { d.jn with retried := true }
  else
    let bs := d.bytes a 64
    let d := d.touch 0 a 64
    let r := d.vci.binds.get 0 (recSource bs)
    d.setRing r { d.ring r with put := (d.ring r).put ++ [bs] }

/-- Bus Master Enable becomes 1: the waiting requests are performed in order, and the records they carried are in their
rings (R356). -/
def bmeOn (d : Dev) : Dev :=
  let wait := d.hostWait
  let d := ({ d with bme := true, hostWait := [] }).setFlag Reg.hifStat 4 true
  let d := wait.foldl (fun d q => (d.putBytes (hostBase + q.addr) q.data).requestDone q.sender) d
  (List.range 32).foldl (fun d r =>
    let x := d.ring r
    let d := d.setRing r { x with sent := [] }
    (x.sent.filter fromQueue).foldl (fun d _ => d.recordPlaced) d) d

/-! ## Conduit DMA (R371-R375) -/

def conduit (d : Dev) (c : Nat) : Conduit := d.conduits.get {} c
def setConduit (d : Dev) (c : Nat) (x : Conduit) : Dev :=
  Dev.setFld { d with conduits := d.conduits.set {} c x } (Reg.cdStat c) 6 4 x.active.length
def cdRun (d : Dev) (c : Nat) : Bool := d.flag (Reg.cdStat c) 0
def cdSize (d : Dev) (c : Nat) : Nat := 2 ^ d.fld (Reg.cdSize c) 4 0

/-- Bytes of an abandoned transfer may have been written: a free choice for each (R375, log entry 2). -/
def abandon (d : Dev) (x : Desc) : Dev :=
  if x.bad || !d.reachable x.src x.len || !d.reachable x.dst x.len then d else
  let from_ := d.free
  let new := (List.range x.len).map (fun i =>
    if (Config.freeValue (from_ + i / 64)).getLsbD (i % 64) then d.byte (x.src + i) else d.byte (x.dst + i))
  { d.putBytes x.dst new with free := d.free + ceilDiv x.len 64 }

/-- A channel stops: its active descriptors are abandoned, and its vector is raised unless a host-side reset stops it. -/
def cdStop (d : Dev) (c cause : Nat) : Dev :=
  if !d.cdRun c then d else
  let x := d.conduit c
  let d := x.active.foldl abandon d
  let d := (d.setConduit c { x with active := [] }).setFlag (Reg.cdStat c) 0 false
  let d := d.setFld (Reg.cdStat c) 10 8 cause
  if cause = 3 then d.setFlag (Reg.cdCtl c) 0 false else d.raiseVector (16 + c)

/-- A write of CD_c_CTL (R371, R375). In D3hot an enabled channel stops at once (R358). -/
def cdCtlWrite (c v : Nat) (d : Dev) : Dev :=
  let was := d.flag (Reg.cdCtl c) 0
  let d := d.setReg (Reg.cdCtl c) (v % 2)
  if bit v 0 && !was then
    let d := (((d.setReg (Reg.cdHead c) 0).setReg (Reg.cdCplrd c) 0).setReg (Reg.cdTail c) 0).setReg (Reg.cdCplwr c) 0
    let d := (d.setConduit c {}).setReg (Reg.cdStat c) 1
    if d.pwr.d3hot then d.cdStop c 4 else d
  else if !bit v 0 && was then d.cdStop c 2 else d

/-- A write of HEAD (R373). -/
def cdHeadWrite (c v : Nat) (d : Dev) : Dev :=
  let d := d.setReg (Reg.cdHead c) v
  if d.cdSize c < (v + 2 ^ 32 - d.rn (Reg.cdTail c)) % 2 ^ 32 then d.cdStop c 1 else d

/-- The target a device address lies in: 1 Pond, 2 DDR5, 3 host; 0 anything else (R374). -/
def cdTarget (a : Nat) : Nat :=
  if isPond a then 1 else if ddrBase ≤ a ∧ a < ddrBase + 0x8000000000 then 2 else if isHost a then 3 else 0

/-- A range that a descriptor may not name. -/
def cdBadRange (a n : Nat) : Bool :=
  cdTarget a == 0 || cdTarget a != cdTarget (a + (n - 1)) || (cdTarget a == 2 && decide (a < ddrBase + 0x40000000))

/-- The descriptor in an entry of the ring (R372), and its FENCE (log entry 144). -/
def cdFetch (d : Dev) (c i : Nat) : Desc × Bool :=
  let a := hostBase + (d.rn64 (Reg.cdRingLo c) (Reg.cdRingHi c) + i % d.cdSize c * 32) % 2 ^ 47
  let src := d.num a 8
  let dst := d.num (a + 8) 8
  let len := d.num (a + 16) 4
  let ctl := d.num (a + 22) 1
  let n := len % 2 ^ 24 + 1
  let bad := src / 2 ^ 48 != 0 || dst / 2 ^ 48 != 0 || len / 2 ^ 24 != 0 || ctl / 4 != 0 || d.num (a + 23) 9 != 0 ||
    cdBadRange src n || cdBadRange dst n
  (⟨i, src, dst, n, d.num (a + 20) 2, bit ctl 0, bad⟩, bit ctl 1)

/-- The next descriptor starts if every condition of R373 holds. -/
def cdStart (c : Nat) (d : Dev) : Dev :=
  let x := d.conduit c
  let before (i : Nat) : Nat := (i + 2 ^ 32 - d.rn (Reg.cdTail c)) % 2 ^ 32
  let due := d.cdRun c && decide (before x.next < before (d.rn (Reg.cdHead c))) &&
    decide ((x.next + 2 ^ 32 - d.rn (Reg.cdCplrd c)) % 2 ^ 32 < d.cdSize c) && decide (x.active.length < 4)
  if !due then d else
  let r := d.hostReady (.conduit c)
  if !r.1 then r.2 else
  let f := d.cdFetch c x.next
  if f.2 && !x.active.isEmpty then d else
  (d.setConduit c { x with next := (x.next + 1) % 2 ^ 32, active := x.active ++ [f.1] }).activity

/-- Bytes from an address up to the first line that cannot be reached or, of a source, fails its check. -/
def goodRun (d : Dev) (src : Bool) (a n : Nat) : Nat :=
  let lines := (List.range (n / 64 + 2)).map (fun k => if k = 0 then a else (a / 64 + k) * 64)
  match lines.find? (fun l => decide (l < a + n) && (!d.reachable l 1 || (src && d.readBad l (64 - l % 64)))) with
  | some l => l - a
  | none => n

/-- A transfer: STATUS, bytes moved, and the device after it (R374, R443). -/
def cdMove (d : Dev) (c : Nat) (x : Desc) : Nat × Nat × Dev :=
  if x.bad then (3, 0, d) else
  let gs := d.goodRun true x.src x.len
  let gd := d.goodRun false x.dst x.len
  let n := min gs gd
  let fail (a : Nat) (d : Dev) : Dev := d.accessErr unitHost c (a + n)
  let d := ((d.readChecks x.src x.len).touch 5 x.src n).touch 5 x.dst n
  let d := d.putBytes x.dst (d.bytes x.src n)
  if n = x.len then (0, n, d) else if gs ≤ gd then (1, n, fail x.src d) else (2, n, fail x.dst d)

/-- A descriptor completes: its transfer, its completion entry, then its vector event (R374). -/
def cdComplete (c index : Nat) (d : Dev) : Dev :=
  match (d.conduit c).active.find? (fun x => x.index == index) with
  | none => d
  | some x =>
    let r := d.hostReady (.conduit c)
    if !r.1 then r.2 else
    let m := d.cdMove c x
    let d := m.2.2
    let q := d.conduit c
    let left := q.active.filter (fun y => y.index != index)
    let n := d.rn (Reg.cdCplwr c)
    let size := d.cdSize c
    let entry := toBytes 2 x.tag ++ toBytes 2 m.1 ++ toBytes 4 index ++ toBytes 4 m.2.1 ++ zeroBytes 3 ++
      toBytes 1 (1 - n / size % 2)
    let d := d.setConduit c { q with active := left }
    let d := d.hostWrite (.conduit c) (d.rn64 (Reg.cdCplLo c) (Reg.cdCplHi c) + n % size * 16) entry
    let d := (d.setReg (Reg.cdCplwr c) (n + 1)).bump (Reg.cdDone c)
    let d := if m.1 = 0 then d else d.bump (Reg.cdErrs c)
    let d := d.setReg (Reg.cdTail c) (match left with
      | y :: _ => y.index
      | [] => q.next)
    if x.int then d.raiseVector (16 + c) else d

/-! ## BAR2 (R355) -/

/-- A run of bytes as 32-bit words. -/
def asWords (bs : List Byte) : List Word := (List.range (ceilDiv bs.length 4)).map (fun i => w32 (ofBytes ((bs.drop (4 * i)).take 4)))

/-- A BAR2 request of the host. In D3hot the BAR is not decoded (R358). -/
def bar2 (isWrite : Bool) (off len : Nat) (data : List Byte) (d : Dev) : Dev :=
  if !d.reaches .host || len = 0 then d else
  let d := d.activity
  let a := d.rn64 Reg.hifBar2BaseLo Reg.hifBar2BaseHi + off
  let p := d.placeOf a len
  let ok := !(!isWrite && d.readBad a len) && (p == .pond || (p == .ddr && decide (ddrBase + 0x40000000 ≤ a)))
  if !ok then
    let d := (if isWrite then d.countOff a len else d.readRefused a len).bump Reg.hifBar2Ca
    if isWrite then d else { d with lastRead := List.replicate (ceilDiv len 4) 0xFFFFFFFF }
  else
    let d := d.touch 5 a len
    if isWrite then d.putBytes a (data.take len) else { d with lastRead := asWords (d.bytes a len) }

/-- The function enters D3hot: BARs are not decoded, Conduit channels stop (R358, R375). -/
def d3hotIn (d : Dev) : Dev :=
  let d := { d with pwr := { d.pwr with d3hot := true } }.setFld Reg.hifStat 9 8 3
  (List.range 16).foldl (fun d c => d.cdStop c 4) d

/-- The function returns to D0. -/
def d3hotOut (d : Dev) : Dev := { d with pwr := { d.pwr with d3hot := false } }.setFld Reg.hifStat 9 8 0

end Dev

open Dev

/-- RECORD_FORWARD (R304). -/
def execRecordForward (s : State) : Host.Outcome State Fault Refusal := onDev Dev.recordForward s

/-- HOST_RING_PUT (R378). -/
def execHostRingPut (r : Fin 32) (service : List Byte) (s : State) : Host.Outcome State Fault Refusal :=
  onDev (ringProduce r service) s

/-- HOST_RING_ENABLE (R376). -/
def execHostRingEnable (r : Fin 32) (v : Word) (s : State) : Host.Outcome State Fault Refusal := onReg (Reg.hrCtl r) (ringCtlWrite r v.toNat) s

/-- HOST_RING_RD_WRITE (R378). -/
def execHostRingRdWrite (r : Fin 32) (v : Word) (s : State) : Host.Outcome State Fault Refusal :=
  onDev (busRequest .host (Reg.hrRd r) (fun d => d.setReg (Reg.hrRd r) v.toNat)) s

/-- VECTOR_SEEN_WRITE (R362). -/
def execVectorSeenWrite (v : Fin 64) (seen : Word) (s : State) : Host.Outcome State Fault Refusal :=
  onDev (busRequest .host (Reg.intVecSeen v) (seenWrite v seen.toNat)) s

/-- MSIX_UNMASK (R362): a vector by the host's write of its entry, the function by its configuration. -/
def execMsixUnmask (v : MsixMask) (s : State) : Host.Outcome State Fault Refusal :=
  match v with
  | .vector v => onDev (busRequest .host (Reg.msixCtl v) (unmask v)) s
  | .function masked => onDev (maskFunction masked) s

/-- CONDUIT_ENABLE (R371). -/
def execConduitEnable (c : Fin 16) (v : Word) (s : State) : Host.Outcome State Fault Refusal := onReg (Reg.cdCtl c) (cdCtlWrite c v.toNat) s

/-- CONDUIT_HEAD_WRITE (R373). -/
def execConduitHeadWrite (c : Fin 16) (v : Word) (s : State) : Host.Outcome State Fault Refusal := onReg (Reg.cdHead c) (cdHeadWrite c v.toNat) s

/-- DESCRIPTOR_START (R373). -/
def execDescriptorStart (c : Fin 16) (s : State) : Host.Outcome State Fault Refusal := onDev (cdStart c) s

/-- DESCRIPTOR_COMPLETE (R374). -/
def execDescriptorComplete (c : Fin 16) (index : Word) (s : State) : Host.Outcome State Fault Refusal :=
  onDev (cdComplete c index.toNat) s

/-- BAR2_ACCESS (R355). -/
def execBar2Access (isWrite : Bool) (off : BitVec 34) (len : Nat) (data : List Byte) (s : State) :
    Host.Outcome State Fault Refusal := onDev (bar2 isWrite off.toNat len data) s

/-- POISONED_WRITE: it is not written, it is counted, and AER records it (R357). -/
def execPoisonedWrite (s : State) : Host.Outcome State Fault Refusal :=
  onDev (fun d => { d.bump Reg.hifPoisonRx with pcie := { d.pcie with poisoned := true } }) s

/-- D3HOT_ENTRY (R358). -/
def execD3hotEntry (s : State) : Host.Outcome State Fault Refusal := onDev d3hotIn s

/-- D3HOT_EXIT (R358). -/
def execD3hotExit (s : State) : Host.Outcome State Fault Refusal := onDev d3hotOut s

end Sys2Proof.Machine
end

