-- ==== Sys2Proof/Machine/Mailbox.lean ====
section
/-! DEFINITION. Mailboxes and locks, delivery of completions, receiver resets, and the host-side reset (R360, R364-R370,
R385, R388, R389). -/

namespace Sys2Proof.Machine

/-- Owner number of a master (R365). -/
def ownerOf : Master → Nat
  | .host => 1
  | .sideband => 2
  | .mp => 3
  | .core c => 4 + c
  | .service c => 4 + c
  | .sentinel => 20

/-- Place of a master in the order of R363, the first served first. -/
def rankOf : Master → Nat
  | .sideband => 0
  | .host => 1
  | .mp => 2
  | .core c => 3 + c
  | .service c => 3 + c
  | .sentinel => 19

namespace Dev

def setOwner (d : Dev) (n o : Nat) : Dev := d.setFld (Reg.mbxLock n) 4 0 o

/-- Completions queued on a pair for commands of other owners than o are discarded and counted (R389). -/
def dropReplies (d : Dev) (n : Nat) (keep : Reply → Bool) : Dev :=
  let l := d.vci.replies.get [] n
  let gone := l.filter (fun r => !r.event && !keep r)
  let d := { d with vci := { d.vci with replies := d.vci.replies.set [] n (l.filter (fun r => r.event || keep r)) } }
  (d.bump Reg.vciOrphanCpl gone.length).showVci

/-- The first served of a list of readers (R364). -/
def firstReader : List Master → Option Master
  | [] => none
  | m :: ms =>
    match firstReader ms with
    | none => some m
    | some x => some (if rankOf x < rankOf m then x else m)

/-- Reads of one lock in one cycle, each with its result (R364, R366). -/
def lockRead (n : Nat) (readers : List Master) (d : Dev) : Dev :=
  let d := if d.pairOwner n ≠ 0 then d else
    match firstReader readers with
    | none => d
    | some m => (d.setOwner n (ownerOf m)).dropReplies n (fun r => r.owner == ownerOf m)
  let o := d.pairOwner n
  { d with lastRead := readers.map (fun m => if ownerOf m = o then 0 else w32 o) }

/-- The reads of the masters that can act; the service program faults (R304). In a fenced block every read counts and returns 0
(R353). -/
def lockReads (n : Nat) (readers : List Master) (d : Dev) : Dev :=
  let d' := (readers.filter (fun m => !d.reaches m)).foldl (fun d m => d.byMaster m false id) d
  let rs := readers.filter d.reaches
  if rs.isEmpty then d'
  else if d.fenced (Reg.mbxLock n) then
    { d'.activity.bump Reg.glbFencedAcc rs.length with lastRead := rs.map (fun _ => 0) }
  else (d'.lockRead n rs).activity

/-- A write of a lock (R366). -/
def lockRelease (n : Nat) (m : Master) (v : Nat) (d : Dev) : Dev :=
  if v = 0 ∧ d.pairOwner n = ownerOf m then d.setOwner n 0 else d.bump Reg.mbxBadrel

def h2mFull (d : Dev) (n : Nat) : Bool := d.flag (Reg.h2mStatus n) 0
def m2hFull (d : Dev) (n : Nat) : Bool := d.flag (Reg.m2hStatus n) 0

/-- A write of H2M_n_DATA (R367). -/
def h2mWrite (n : Nat) (m : Master) (v : Nat) (d : Dev) : Dev :=
  if d.pairOwner n ≠ ownerOf m then d.bump Reg.mbxDenied
  else if d.h2mFull n then d.bump Reg.mbxOverwrite
  else
    let d := ((d.setReg (Reg.h2mData n) v).setReg (Reg.h2mStatus n) 1).setFlag (Reg.h2mAck n) 31 false
    { d.activity with vci := { d.vci with scanDue := true, issuers := d.vci.issuers.set 0 n (ownerOf m) } }

/-- A write of VCI_ARGn_k (R385). -/
def argWrite (n k : Nat) (m : Master) (v : Nat) (d : Dev) : Dev :=
  if d.pairOwner n ≠ ownerOf m then d.bump Reg.mbxDenied
  else if d.h2mFull n then d.bump Reg.mbxOverwrite
  else d.setReg (Reg.vciArgs (16 * n + k)) v

/-- The owner of a pair is told of an event in its mailboxes: the host by a vector, a core, the Sentinel or the MP by its internal
interrupt; the sideband owner polls (R361, R368). -/
def tellOwner (n vector : Nat) (d : Dev) : Dev :=
  let o := d.pairOwner n
  if o = 1 then d.raiseVector vector
  else if o = 3 then { d with mp := { d.mp with mbxInts := d.mp.mbxInts + 1 } }
  else if 4 ≤ o ∧ o < 20 then d.setHart (o - 4) { d.hart (o - 4) with mbxInts := (d.hart (o - 4)).mbxInts + 1 }
  else if o = 20 then { d with sen := { d.sen with mbxInts := d.sen.mbxInts + 1 } }
  else d

/-- The MP acknowledges the word of an H2M mailbox (R361, R367, R386). -/
def mpAck (n code : Nat) (d : Dev) : Dev := tellOwner n 2 (d.setReg (Reg.h2mAck n) (0x80000000 + code % 65536))

/-- The MP writes a word into an M2H mailbox (R361, R368). While FULL = 1 the write is not accepted (log entry 129). -/
def mpWord (n w : Nat) (d : Dev) : Dev :=
  if d.m2hFull n then d else
  tellOwner n 3 ((d.setReg (Reg.m2hData n) w).setReg (Reg.m2hStatus n) 1)

/-- A read of M2H_n_DATA (R368). -/
def m2hRead (n : Nat) (m : Master) (d : Dev) : Dev :=
  if d.pairOwner n ≠ ownerOf m then { d with lastRead := [0] }
  else { d.setFlag (Reg.m2hStatus n) 0 false with lastRead := [d.reg (Reg.m2hData n)] }

/-- One master's read of M2H_n_DATA; 0, and counted, in a fenced block (R353, R368). -/
def m2hReadBy (n : Nat) (m : Master) (d : Dev) : Dev :=
  d.byMaster m false (fun d =>
    if d.fenced (Reg.m2hData n) then { d.activity.bump Reg.glbFencedAcc with lastRead := [0] } else (m2hRead n m d).activity)

/-- A write of M2H_n_ACK (R368, R388). -/
def m2hAckWrite (n : Nat) (m : Master) (v : Nat) (d : Dev) : Dev :=
  if d.pairOwner n ≠ ownerOf m then d.bump Reg.mbxDenied
  else
    let d := d.setReg (Reg.m2hAck n) (putBits v 30 16 0)
    if v % 65536 = 0 then d else d.bump Reg.vciNaks

/-- The completion word (R388). -/
def replyWord (r : Reply) : Nat := r.tag % 512 * 2 ^ 23 + r.op % 128 * 2 ^ 16 + r.code % 65536

/-- The MP writes word `k` of VCI_RESn (R388): the word the completion gives, or a free value where it gives none (log
entry 62). -/
def resWrite (n : Nat) (ws : List Nat) (d : Dev) (k : Nat) : Dev :=
  match ws[k]? with
  | some w => d.setReg (Reg.vciRess (16 * n + k)) w
  | none => (d.setReg (Reg.vciRess (16 * n + k)) d.freeVal.toNat).drew

/-- The MP writes the next completion or event of a pair once FULL = 0 (R388). -/
def deliverReply (n : Nat) (d : Dev) : Dev :=
  match d.vci.replies.get [] n with
  | [] => d
  | r :: rest =>
    if d.m2hFull n then d else
    let d := { d with vci := { d.vci with replies := d.vci.replies.set [] n rest } }
    mpWord n (replyWord r) ((List.range 16).foldl (resWrite n (replyWord r :: r.res)) d).showVci

/-- The receiver reset of an owner (R370, R389). -/
def receiverReset (o : Nat) (d : Dev) : Dev :=
  (List.range 32).foldl (fun d n =>
    if d.pairOwner n ≠ o then d else
    let d := if !d.m2hFull n then d else
      let d := (d.setReg (Reg.m2hStatus n) 2).bump Reg.mbxAborts
      let d := { d with mp := { d.mp with mbxInts := d.mp.mbxInts + 1 } }
      if d.fld (Reg.m2hData n) 22 16 = 0x7F then d else d.bump Reg.vciOrphanCpl
    let d := d.setFlag (Reg.h2mStatus n) 0 false
    (d.setOwner n 0).dropReplies n (fun r => r.owner != o)) d

/-- The MP's command service restarts: words not yet taken are aborted, and what it held of commands is gone (R370, log
entry 18). -/
def serviceRestart (d : Dev) : Dev :=
  let d := (List.range 32).foldl (fun d n =>
    if d.h2mFull n then tellOwner n 2 (d.setReg (Reg.h2mStatus n) 2) else d) d
  let d := receiverReset 3 d
  { d with vci := { d.vci with jobq := [], active := [], replies := ⟨[]⟩, scanDue := false } }.showVci

/-- The sideband bus times out (R381). -/
def sidebandTimeout (d : Dev) : Dev := receiverReset 2 (d.bump Reg.sbTimeouts)

/-! ## The host-side reset (R356, R360) -/

/-- What the sender of a discarded request does (R356, R474). -/
def requestLost (d : Dev) (s : HostSender) : Dev :=
  match s with
  | .journal =>
    let d := d.setFlag Reg.secJrnlStat 16 false
    if d.sec.jrnlDue then d.journalWrite else d
  | .report => (d.setFlag Reg.secAttStat 31 false).setFld Reg.secAttStat 15 0 3
  | .fetch =>
    -- a firmware fetch of step 5 fails (R443, R459, R468); a command whose argument was being read completes with ADDRESS
    let d := if d.fld Reg.secBootStat 3 0 = 5 then
        Dev.bump { (d.setFld Reg.secBootStat 3 0 4).setFld Reg.secBootStat 11 8 5 with sec := { d.sec with go := false } } Reg.secFwRejects
      else d
    let d := match d.vci.jobq with
      | c :: _ => if c.begun && [1, 2, 0x10].contains c.op then d.complete c 7 (if c.op = 1 then [0xFFFF] else []) else d
      | [] => d
    let d := if d.sec.lcWait.isSome then { d with sec := { d.sec with lcWait := none } }.setReg Reg.secLcStat 2 else d
    (d.vci.active.filter (fun c => c.op == 0x30 && c.begun && !d.flume.shadow.any (fun w => w.tag == c.tag))).foldl
      (fun d c => d.complete c 7 []) d
  | _ => d

/-- The waiting requests are not performed; records go back to their rings. -/
def discardWaiting (d : Dev) : Dev :=
  let wait := d.hostWait
  let d := ({ d with hostWait := [] }).bump Reg.hifResetDiscards wait.length
  let d := wait.foldl (fun d q => d.requestLost q.sender) d
  (List.range 32).foldl (fun d r =>
    d.setRing r { d.ring r with put := (d.ring r).sent ++ (d.ring r).put, sent := [], padded := false }) d

/-- MSI-X returns to reset: every vector masked, SEEN 0, and a vector with a count sets its PBA bit (R360). -/
def msixReset (d : Dev) : Dev :=
  (List.range 64).foldl (fun d v =>
    let d := (((d.setReg (Reg.msixAddrLo v) 0).setReg (Reg.msixAddrHi v) 0).setReg (Reg.msixData v) 0).setReg (Reg.msixCtl v) 1
    let d := d.setReg (Reg.intVecSeen v) 0
    if d.vectorPending v then d.setFlag (Reg.msixPba (v / 32)) (v % 32) true else d) d

/-- A host-side reset (R360). -/
def hostReset (why : HostReset) (d : Dev) : Dev :=
  let d := { d with bme := false, fnMask := false, pcie := {}, pwr := { d.pwr with d3hot := false } }
  let d := (((d.setFlag Reg.hifStat 4 false).setFlag Reg.hifStat 3 false).setFlag Reg.hifStat 2 false).setFld Reg.hifStat 9 8 0
  let d := match why with
    | .perst => { d.setFlag Reg.hifStat 0 false with pins := { d.pins with perstN := false }, pwr := { d.pwr with link := .down } }
    | .linkLoss => { d.setFlag Reg.hifStat 0 false with pwr := { d.pwr with link := .down } }
    | .hot => d
    | .flr => d
  let d := d.discardWaiting
  let d := (d.setReg Reg.hifBar2BaseLo 0).setReg Reg.hifBar2BaseHi 0
  let d := d.msixReset
  let d := (List.range 16).foldl (fun d c => (d.cdStop c 3).setFlag (Reg.cdCtl c) 0 false) d
  let d := (List.range 32).foldl (fun d r => d.setFlag (Reg.hrCtl r) 0 false) d
  -- the host's writes in flight are flushed; how many there are the model does not see (R453, log entry 130)
  let d := (d.bump Reg.errXresetDrops (d.freeVal.toNat % 2 ^ 32)).drew
  (receiverReset 1 d).bump Reg.hifResets

end Dev

open Dev

/-- MBX_LOCK_READ (R364, R366). -/
def execMbxLockRead (n : Fin 32) (readers : List Master) (s : State) : Host.Outcome State Fault Refusal :=
  onDev (lockReads n readers) s

/-- MBX_LOCK_RELEASE (R366). -/
def execMbxLockRelease (n : Fin 32) (m : Master) (v : Word) (s : State) : Host.Outcome State Fault Refusal :=
  onDev (busRequest m (Reg.mbxLock n) (lockRelease n m v.toNat)) s

/-- H2M_DATA_WRITE (R367). -/
def execH2mDataWrite (n : Fin 32) (m : Master) (v : Word) (s : State) : Host.Outcome State Fault Refusal :=
  onDev (busRequest m (Reg.h2mData n) (h2mWrite n m v.toNat)) s

/-- VCI_ARG_WRITE (R385). -/
def execVciArgWrite (n : Fin 32) (k : Fin 16) (m : Master) (v : Word) (s : State) : Host.Outcome State Fault Refusal :=
  onDev (busRequest m (Reg.vciArgs (16 * n + k)) (argWrite n k m v.toNat)) s

/-- M2H_DATA_READ (R368). -/
def execM2hDataRead (n : Fin 32) (m : Master) (s : State) : Host.Outcome State Fault Refusal :=
  onDev (m2hReadBy n m) s

/-- M2H_ACK_WRITE (R368). -/
def execM2hAckWrite (n : Fin 32) (m : Master) (v : Word) (s : State) : Host.Outcome State Fault Refusal :=
  onDev (busRequest m (Reg.m2hAck n) (m2hAckWrite n m v.toNat)) s

/-- VCI_COMPLETION_DELIVER (R388). -/
def execVciCompletionDeliver (n : Fin 32) (s : State) : Host.Outcome State Fault Refusal := onDev (deliverReply n) s

/-- SIDEBAND_TIMEOUT (R381). -/
def execSidebandTimeout (s : State) : Host.Outcome State Fault Refusal := onDev Dev.sidebandTimeout s

/-- HOST_SIDE_RESET (R360). -/
def execHostSideReset (why : HostReset) (s : State) : Host.Outcome State Fault Refusal := onDev (hostReset why) s

end Sys2Proof.Machine
end

