-- ==== Sys2Proof/Machine/Jobs.lean ====
section
/-! DEFINITION. The life of a job after JOB_ARM: run, start, drain, resume, stop, unload, checkpoint, substitution
(R190, R233, R237, R244, R249, R267-R270, R281, R330, R332, R336, R337, R343, R392-R399). -/

namespace Sys2Proof.Machine

namespace Dev

/-! ## JOB_RUN and the start (R393) -/

/-- The NCs of the job. -/
def jobNcs (d : Dev) : List Nat := (d.ncs.cells.filter (fun c => c.2.inJob)).map (·.1)

/-- The batch is at most half the smallest window, and a stretched tick is a multiple of 8 (R233, R237). -/
def tickCfgOk (d : Dev) : Bool :=
  let batch := d.fld Reg.mrCplBatch 7 0
  d.jobNcs.all (fun n => decide (2 * batch ≤ d.fld (Reg.rtWin n) 8 0)) && (d.jobDevs < 5 || d.tickLen % 8 == 0)

/-- The code of a JOB_RUN (R185, R233, R237, R336, R343, R393, R395). -/
def runCode (d : Dev) (start : Nat) : Nat :=
  if d.jobState ≠ jsArmed then 5
  else if d.fld Reg.flmLadderCtl 15 0 = 0 then 0x22
  else if !d.tickCfgOk then 0x29
  else if !d.routesOk then 0x41
  else if !d.collsOk then 0x42
  else if start < d.tb.tbc + d.barLead then 9
  else 0

/-- JOB_RUN: the start is scheduled. -/
def jobRun (d : Dev) : Dev :=
  match d.jobCmd 0x12 with
  | none => d
  | some c =>
    if c.begun then d else
    let start := cmdArg64 c 0
    let code := d.runCode start
    if code ≠ 0 then d.complete c code []
    else { d.showMode with vci := { d.vci with startAt := some (start, cmdArg c 2) } }.beginJob

/-- Links are used again at a job's start, and collectives begin with CSEQ 0 (R330, R332, R344). -/
def startLinks (d : Dev) : Dev :=
  let d := { d.setReg Reg.lkLinksDown 0 with noticed := 0, colls := ⟨[]⟩ }.setFlag Reg.lkStat 4 false
  let d := (List.range 4).foldl (fun (d : Dev) p =>
    (d.setPort p { d.port p with downTick := 0, downReplayed := 0 }).refreshUse p) d
  ((List.range 16).foldl (fun (d : Dev) g => d.setReg (Reg.lkCollStat g) 0) d).showRoutes

/-- Every router and NC of the job opens tick t. -/
def startFabric (t : Nat) (d : Dev) : Dev :=
  let d := d.allRouters.foldl (fun (d : Dev) r => d.setRouter r { openTick := t }) d
  d.jobNcs.foldl (fun (d : Dev) n => (openNc n t d).setReg (Reg.lrnEtickHi n) 0) d

/-- The service program starts in U mode on the cores of its mask; its entry is a free value (R304, log entry 2). -/
def serviceStart (d : Dev) : Dev :=
  ((List.range 16).filter (fun k => bit d.vci.svcMask k && d.coreRuns k)).foldl (fun (d : Dev) k =>
    d.drew.setHart k { d.hart k with mode := .u, pc := d.freeVal.toNat }) (d.setFlag Reg.vciStat 8 true)

/-- JOB_START: the start TBC has come. RUN and FLOW become 1, TBASE takes the start TBC, and tick t0 opens (R238, R393). -/
def jobStart (d : Dev) : Dev :=
  match d.vci.startAt with
  | none => d
  | some (start, t0) =>
    let d := d.advanceTo start
    let d := { d with
      vci := { d.vci with startAt := none, split := none, notDone := 0 }
      bar := { lastClose := start, tbase := start, t0 := t0, tlog := d.bar.tlog } }
    let d := startFabric t0 d.startLinks
    let d := (d.setReg Reg.mrTick t0).setReg64 Reg.mrTstartLo Reg.mrTstartHi start
    let d := ((((d.setFlag Reg.mrStat 1 true).setFlag Reg.mrStat 3 false).setFlag Reg.mrStat 4 false).setFlag Reg.mrStat 5 false).setReg Reg.mrSlip 0
    let d := d.setFlag Reg.flmStat 1 true
    let d := if d.vci.svcMask = 0 then d else d.serviceStart
    match d.jobHead 0x12 with
    | some c => (d.setJob jsRunning c.tag).complete c 0 [t0]
    | none => d.setJob jsRunning 0xFFFF

/-! ## Drain and resume (R244, R249, R397) -/

/-- Admission of fresh frames stops (R397). -/
def holdAdmission (d : Dev) : Dev := { d with flume := { d.flume with drain := true } }

/-- A drain is requested: the tick after the open one will be left open. A drain requested while a FORCE is pending starts
after it. -/
def drainBegin (d : Dev) : Dev :=
  let t := (d.openTick + b2n (d.flag Reg.mrStat 5)) % 2 ^ 32
  { d with bar := { d.bar with drainTick := some t } }.setFlag Reg.mrStat 3 true

/-- Every frame in flight has its FINAL verdict (R181, R397). -/
def flumeQuiet (d : Dev) : Bool :=
  d.flume.passed.isEmpty && d.rerunQueue.isEmpty && !d.inFlight.any (fun r => r.kind == .frame)

/-- JOB_DRAIN. -/
def jobDrain (d : Dev) : Dev :=
  match d.jobCmd 0x13 with
  | none => d
  | some c =>
    if c.begun then d
    else if d.jobState ≠ jsRunning then d.complete c 5 []
    else d.holdAdmission.drainBegin.beginJob

/-- FABRIC_DRAINED: MR_STAT.DRAINED becomes 1, and a JOB_DRAIN completes. Its RES1 is tick T + 1. -/
def fabricDrained (d : Dev) : Dev :=
  if d.flag Reg.mrStat 4 || !d.fabricQuiet then d else
  let ends := (d.jobBegun 0x13).isSome
  if ends && !d.flumeQuiet then d else
  let d := d.setDrained
  match d.jobBegun 0x13 with
  | some c => (d.setJob jsDrained c.tag).complete c 0 [d.openTick]
  | none => d

/-- The fabric goes on: tick T + 1 will close at now + LEAD; fresh frames are admitted again (R244). -/
def fabricResume (d : Dev) : Dev :=
  let t := d.openTick
  let d := { d with
    flume := { d.flume with drain := false }
    vci := { d.vci with resume := some t }
    routers := ⟨d.routers.cells.map (fun (c : Nat × Router) => (c.1, { c.2 with drainIn := 0, drainOut := false }))⟩ }
  let d := ((d.setFlag Reg.mrStat 1 true).setFlag Reg.mrStat 4 false).setFlag Reg.mrStat 3 false
  if d.isSystemRoot then d.rootClose { tick := t, at_ := d.tb.tbc + d.barLead, q := 0, force := false } else d

/-- JOB_RESUME; it completes at the resume close. -/
def jobResume (d : Dev) : Dev :=
  match d.jobCmd 0x14 with
  | none => d
  | some c =>
    if c.begun then d
    else if d.jobState ≠ jsDrained then d.complete c 5 []
    else d.beginJob.fabricResume

/-! ## JOB_STOP (R281, R398) -/

/-- A frame is reported not done. -/
def notDone (d : Dev) (fr : Frame) : Dev :=
  let d := d.stage fr.stream fr.frame stNotDone
  { d with vci := { d.vci with notDone := d.vci.notDone + 1 } }

/-- A frame that still holds its slot is discarded. -/
def dropSlotFrame (d : Dev) (fr : Frame) : Dev := (d.notDone fr).freeSlot fr.stream fr.slot

/-- Frames not yet injected, paused trains and open windows go. A frame that the framer still writes stays, until its stream
has closed. -/
def discardFrames (d : Dev) : Dev :=
  let writing (s : Staged) : Bool := (d.strm s.fr.stream).filling.any (fun f => f.frame % 2 ^ 32 == s.fr.frame % 2 ^ 32)
  let waiting := d.flume.staged.filter (fun s => !writing s)
  let kept := d.flume.staged.filter writing
  let flying := d.flume.lost ++ (d.flume.recs.filter (fun r => r.kind == .frame && !r.ovr && !r.fr.doomed)).map (·.fr)
  let ended := d.flume.passed.map (·.1)
  let late := d.jn.eligible ++ d.jn.active
  let n := d.flume.d
  let d := { d with
    flume := { d.flume with staged := kept, passed := [], lost := [], recs := List.replicate n {}, reserved := ⟨[]⟩, flights := [], shadow := [], swapPend := false }
    jn := { d.jn with eligible := [], active := [], adds := [], reserved := 0, lastWin := ⟨[]⟩ } }
  let d := (waiting.map (·.fr)).foldl dropSlotFrame d
  let d := (flying ++ ended).foldl dropSlotFrame d
  (late.foldl (fun (d : Dev) f => d.notDone f.fr) d).showJn

/-- A ledger entry of the job holds one of RING, NOTDONE, DROPPED or LOST (R404). -/
def ledgerFinal (e : LedgerE) : Bool := bit e.stages stRing || bit e.stages stNotDone || bit e.stages stDropped || bit e.stages stLost

/-- Every entry without one is posted with NOTDONE. -/
def settleLedger (d : Dev) : Dev :=
  (d.ledger.cells.filter (fun c => c.2.stages != 0 && !ledgerFinal c.2)).foldl (fun (d : Dev) c =>
    let d := d.postEntry c.1 { c.2 with stages := putBits c.2.stages stNotDone stNotDone 1 }
    { d with vci := { d.vci with notDone := d.vci.notDone + 1 } }) d

/-- Streams close (R83): at once where no frame is in progress, or with the source link down. -/
def closeStream (d : Dev) (n : Nat) : Dev :=
  if !d.strOpen n then d
  else if (d.strm n).filling.isEmpty || (!(d.strm n).gather && !d.linkUp (d.fld (Reg.intkStrSrc n) 18 16)) then d.closeNow n
  else d.setStrm n { d.strm n with closing := true }

/-- Step 1 and 2: admission stops, streams close, a running fabric drains; one that a resume close is about to open drains at
the tick after it. -/
def stopBegin (d : Dev) : Dev :=
  let d := (List.range 64).foldl closeStream d.holdAdmission
  if d.flow && (d.bar.drainTick.isNone || d.vci.resume.isSome) then d.drainBegin else d

/-- Pond contents are discarded (R230). -/
def discardPonds (d : Dev) : Dev :=
  d.allRouters.foldl (fun (d : Dev) r =>
    let k := (d.router r).pond.length
    if k = 0 then d else ((d.setRouter r { d.router r with pond := [] }).bump (Reg.rtPondDiscards r) k).showPond r) d

/-- Steps 5 and 6: modified Cistern lines go back, ponds are discarded, the ledger is settled, the quadrants go down (log
entry 41). -/
def stopEnd (d : Dev) : Dev :=
  let d := (d.jobNcs.filter (fun n => !(d.nc n).failed)).foldl (fun d n => writeBackAll n d) d
  let d := d.allRouters.foldl endWaits d.discardPonds.settleLedger.flumeTaken.raceTaken
  let d := { d.scDrop with
    flume := d.flumeKept
    ncs := d.ncsKept
    routers := ⟨[]⟩
    bar := { tlog := d.bar.tlog }
    colls := ⟨[]⟩
    vci := { d.vci with startAt := none, resume := none, split := none } }
  -- R249: the slot settings of the job are lost with its learning state
  let d := (List.range 256).foldl clearLearning d
  let d := ((d.setFld Reg.flmStat 15 12 0).setFld Reg.flmStat 2 1 0).setFlag Reg.flmStat 0 false
  let d := (d.setFlag Reg.jnStat 0 false).setFld Reg.mrStat 5 3 0
  let d := (d.setFlag Reg.mrStat 1 false).serviceStop
  let d := (List.range 4).foldl (fun (d : Dev) p => d.refreshUse p) d
  ((List.range 16).foldl (fun (d : Dev) g => d.setFlag (Reg.lkCollStat g) 0 false) d).showJn

/-- Commands outside the job queue that wait for the job. -/
def jobOps : List Nat := [0x30, 0x31, 0x32, 0x33, 0x23]

/-- The fabric and the streams have come to rest. After a split its windows can stay open for ever, so a split does not
wait for them (log entry 20). -/
def stopReady (d : Dev) : Bool :=
  (List.range 64).all (fun n => !d.strOpen n) && (!d.flow || d.vci.split.isSome)

/-- The stop goes on from where it stands: discard, wait for the record queue, end. Its result is whether it has ended. -/
def stopGo (d : Dev) : Dev × Bool :=
  if !d.stopReady then (d, false) else
  let d := d.discardFrames
  if d.rqUsed ≠ 0 || d.forwarding then (d, false) else (d.stopEnd, true)

/-- The MP stops a split job itself, and every outstanding command of the job completes with SPLIT (R337, R395). -/
def splitStop (cause place tick : Nat) (d : Dev) : Dev :=
  let r := d.stopBegin.stopGo
  if !r.2 then r.1 else
  let d := (r.1.postEvent 2 [cause, place, tick, 0]).setJob jsLoaded 0xFFFF
  let d := d.completeAll jobOps 0x44
  match d.vci.jobq with
  | c :: _ => if c.begun then d.complete c 0x44 [] else d
  | [] => d

/-- JOB_STOP. -/
def jobStop (d : Dev) : Dev :=
  match d.vci.split with
  | some (cause, place, tick) => splitStop cause place tick d
  | none =>
    match d.jobCmd 0x15 with
    | none => d
    | some c =>
      if !c.begun && !d.jobOn then d.complete c 5 [] else
      let d := if c.begun then d else { d with vci := { d.vci with notDone := 0 } }.beginJob.stopBegin
      let r := d.stopGo
      if !r.2 then r.1 else
      let d := (r.1.setJob jsLoaded c.tag).complete c 0 [r.1.vci.notDone]
      d.completeAll jobOps 0xA

/-- JOB_UNLOAD: the package's regions are released (R392). -/
def jobUnload (d : Dev) : Dev :=
  match d.jobCmd 0x16 with
  | none => d
  | some c =>
    if d.jobState ≠ jsLoaded then d.complete c 5 [] else
    let d := { d with
      vci := { d.vci with pkg := {}, svcMask := 0, regions := [] }
      sec := { d.sec with pkg := [] }
      flume := { d.flume with faults := ⟨[]⟩ } }
    (d.setJob jsNone c.tag).complete c 0 []

/-! ## Checkpoints (R268, R269) -/

/-- Extended tick of the drain tick in an NC. -/
def ckptTick (d : Dev) : Nat := (d.jobNcs.map (d.extTick)).foldl max 0

/-- One NC's copy without its header; then the header. -/
def ckptBody (seq : Nat) (d : Dev) (n : Nat) : Dev :=
  let a := d.ckptAddr n (seq % 2)
  let x := d.nc n
  let st := (List.range 16384).flatMap (fun i => toBytes 16 (x.state.get 0 i))
  let im := (List.range (524288 - d.ncK n)).flatMap (fun i => toBytes 2 (x.syn.get 0 i))
  (((d.touch 3 (a + 4096) 262144).touch 3 (a + 266240) im.length).putBytes (a + 4096) st).putBytes (a + 266240) im

def ckptHead (seq : Nat) (d : Dev) (n : Nat) : Dev :=
  let a := d.ckptAddr n (seq % 2)
  let len := 2 * (524288 - d.ncK n)
  let crc := crc32c (d.bytes (a + 4096) (262144 + len))
  (d.touch 3 a 4096).putBytes a (toBytes 4 seq ++ toBytes 6 (d.extTick n) ++ toBytes 1 (n / 16) ++ toBytes 1 (n % 16) ++ toBytes 4 len ++ toBytes 4 crc ++
    zeroBytes 4076)

/-- The modified lines go back, then the copies are written, headers last; whether that succeeded: a copy that cannot be
reached leaves every copy as it was (R268, R307, R443). -/
def ckptWrite (d : Dev) : Bool × Dev :=
  let seq := (d.rn Reg.lrnCkptSeq + 1) % 2 ^ 32
  let ns := d.jobNcs.filter (fun n => !(d.nc n).failed)
  let d := ns.foldl (fun d n => writeBackAll n d) d
  let bad := ns.filter (fun n => d.placeOf (d.ckptAddr n (seq % 2)) 1314816 != .ddr)
  if !bad.isEmpty then (false, bad.foldl (fun d n => d.accessErr n 0 (d.ckptAddr n (seq % 2))) d) else
  let d := ns.foldl (ckptBody seq) d
  let d := ns.foldl (ckptHead seq) d
  (true, (d.setReg Reg.lrnCkptSeq seq).setReg64 Reg.lrnCkptEtickLo Reg.lrnCkptEtickHi d.ckptTick)

/-- A checkpoint is being taken: its command has begun, and the fabric is drained for it (R268, R272, log entry 121). -/
def ckptRuns (d : Dev) : Bool := (d.jobBegun 0x17).isSome

/-- CHECKPOINT: it drains the fabric unless it is drained, writes, and resumes what it drained (R268). -/
def checkpointStep (d : Dev) : Dev :=
  match d.jobCmd 0x17 with
  | none => d
  | some c =>
    if !c.begun && d.jobState ≠ jsRunning && d.jobState ≠ jsDrained then d.complete c 5 []
    else if d.vci.resume.isSome then d
    else
      let own := if c.begun then d.vci.ckptOwn else decide (d.jobState = jsRunning)
      let d := { d with vci := { d.vci with ckptOwn := own } }
      let d := if c.begun then d else if own then d.beginJob.drainBegin else d.beginJob
      if !d.flag Reg.mrStat 4 then d else
      let r := d.ckptWrite
      let d := r.2
      if !r.1 then
        let d := (d.bump Reg.lrnCkptFails).complete c 0x47 []
        if own then d.fabricResume else d
      else if own then d.fabricResume else d.complete c 0 [d.rn Reg.lrnCkptSeq]

/-! ## Substitution (R190) -/

/-- Physical position of a logical NC. -/
def physOf (d : Dev) (n : Nat) : Nat := d.fld (Reg.ncMap n) 20 16

/-- The row's spare is free and good, and the NC has failed (log entry 21). -/
def mayShift (d : Dev) (n : Nat) : Bool :=
  let last := n / 16 * 16 + (d.meshCols - 1)
  decide (d.physOf last < d.meshCols) && !d.ncOff (n / 16) d.meshCols && (d.nc n).failed

/-- The NCs from router p eastward move one place, and the new NC of router p is loaded from a checkpoint, else from the
package. -/
def shiftRow (n : Nat) (d : Dev) : Dev × Nat :=
  let row := n / 16
  let old := d.physOf n
  let d := ((List.range d.meshCols).filter (fun c => decide (n % 16 ≤ c))).foldl (fun (d : Dev) c =>
    let m := row * 16 + c
    d.setFld (Reg.ncMap m) 20 16 (d.physOf m + 1)) d
  let x := d.nc n
  let d := x.fetches.foldl (fun d f => let h := headerOf x f.header; d.scDone 3 (d.cistAddr h) (2 * hdLen h)) d
  let p := d.bytes d.vci.pkg.addr d.vci.pkg.len
  let recs := (secsOf p 3).flatMap (fun q => ((coreRecs q).filter (fun r => r.nc == n)).map (fun r => (q, r)))
  let pkg : SMap Nat × SMap Nat := match recs with
    | [] => (⟨[]⟩, ⟨[]⟩)
    | (q, r) :: _ => (mapOf (recState q r), mapOf (recSyn q r))
  let img := d.fromCopy n pkg.1 pkg.2
  let d := d.copyReads n
  let y : Nc := {
    state := img.2.1, syn := img.2.2, axon := x.axon, decay := x.decay, dt := x.dt, inJob := x.inJob, openTick := d.openTick
    enNow := x.enNow, snap := x.snap }
  let d := d.setNc n y
  -- R269: the new NC's open tick is the drain tick, whatever tick the failed one stood at
  let d := if d.openTick < x.openTick then d.setReg (Reg.lrnEtickHi n) ((d.rn (Reg.lrnEtickHi n) + 1) % 65536) else d
  -- R251: a row loaded from the package has no pre-synaptic trace
  let d := if img.1 = 0 then (List.range (d.ncH n)).foldl (clearOnDie n) d else d
  let d := (d.setFlag (Reg.ncStat n) 7 false).setFlag (Reg.rtStat n) 0 false
  (d.fieldFailure kindNc (row * 17 + old) 0, img.1)

/-- SUBSTITUTE. -/
def substituteNc (d : Dev) : Dev :=
  match d.jobCmd 0x18 with
  | none => d
  | some c =>
    if d.jobState ≠ jsDrained then d.complete c 5 []
    else if !d.mayShift c.imm then d.complete c 0x45 []
    else
      let r := d.shiftRow c.imm
      r.1.complete c 0 [r.1.physOf c.imm, r.2]

end Dev

open Dev

/-- JOB_RUN (R393). -/
def execJobRun (s : State) : Host.Outcome State Fault Refusal := onDev Dev.jobRun s

/-- JOB_START (R393). -/
def execJobStart (s : State) : Host.Outcome State Fault Refusal := onDev Dev.jobStart s

/-- JOB_DRAIN (R397). -/
def execJobDrain (s : State) : Host.Outcome State Fault Refusal := onDev Dev.jobDrain s

/-- FABRIC_DRAINED (R244). -/
def execFabricDrained (s : State) : Host.Outcome State Fault Refusal := onDev Dev.fabricDrained s

/-- JOB_RESUME (R244). -/
def execJobResume (s : State) : Host.Outcome State Fault Refusal := onDev Dev.jobResume s

/-- JOB_STOP (R398). -/
def execJobStop (s : State) : Host.Outcome State Fault Refusal := onDev Dev.jobStop s

/-- JOB_UNLOAD (R392). -/
def execJobUnload (s : State) : Host.Outcome State Fault Refusal := onDev Dev.jobUnload s

/-- CHECKPOINT (R268). -/
def execCheckpoint (s : State) : Host.Outcome State Fault Refusal := onDev Dev.checkpointStep s

/-- SUBSTITUTE (R190). -/
def execSubstitute (s : State) : Host.Outcome State Fault Refusal := onDev Dev.substituteNc s

end Sys2Proof.Machine
end

