-- ==== Sys2Proof/Machine/Vci.lean ====
section
/-! DEFINITION. The MP's scans and the commands outside the job queue, with DDR_CONFIG (R83, R84, R178, R260, R287, R317,
R321-R323, R345, R385-R394, R419, R458, R504). -/

namespace Sys2Proof.Machine

namespace Dev

/-! ## Scans (R369, R386, R390, R391) -/

/-- Operations of the command table, and those of the job queue (R392). -/
def vciOps : List Nat :=
  [0, 1, 2, 3, 4, 5, 0x10, 0x11, 0x12, 0x13, 0x14, 0x15, 0x16, 0x17, 0x18, 0x20, 0x21, 0x22, 0x23, 0x30, 0x31, 0x32, 0x33]
def isJobOp (op : Nat) : Bool := op == 1 || op == 2 || (decide (0x10 ≤ op) && decide (op ≤ 0x18))

/-- Bits of IMM that an operation names (log entry 22). -/
def immMask (op : Nat) : Nat :=
  match op with
  | 0 => 0xFFFF
  | 2 => 0xF
  | 3 => 3
  | 4 => 0xFFFF
  | 5 => 0x3F
  | 0x11 => 1
  | 0x18 => 0xFF
  | 0x20 => 0x13F
  | 0x21 => 0x3F
  | 0x22 => 0xFF
  | 0x30 => 0x7F7F
  | 0x32 => 0xFF
  | 0x33 => 0xF
  | _ => 0

/-- Every argument lies in its stated range, and no reserved bit is set (R394). -/
def argsOk (c : VciCmd) : Bool :=
  let a := cmdArg c
  c.imm &&& immMask c.op == c.imm &&
    (if c.op = 2 then c.imm == 3 || c.imm == 0xF
     else if c.op = 3 then decide (c.imm ≤ 2) && (c.imm != 2 || decide (a 1 < 0x10000)) && decide ((if c.imm = 2 then 500 else 200) ≤ a 0)
     else if c.op = 0x22 then c.imm / 64 != 3 && (c.imm / 64 == 0 || c.imm % 64 == 0) && decide (a 0 < 32)
     else if c.op = 0x30 then decide (c.imm / 256 < 96) && decide (c.imm % 128 < 96) && decide (a 0 < 2)
     else if c.op = 0x32 then a 0 &&& 0x107 == a 0 && decide (a 1 < 16384) && decide (a 1 + a 2 ≤ 16384)
     else true)

/-- A command names a unit that the variant lacks (R2). -/
def namesAbsent (d : Dev) (c : VciCmd) : Bool :=
  d.isC2 && ((c.op == 2 && decide (4 ≤ c.imm)) || ((c.op == 0x18 || c.op == 0x32) && decide (8 ≤ c.imm % 16)) ||
    (c.op == 0x30 && decide (48 ≤ c.imm % 128)))

/-- The code given at ACK before superseding and TAG_BUSY (R394, log entry 22). -/
def ackCode (d : Dev) (c : VciCmd) : Nat :=
  if !vciOps.contains c.op then 1
  else if d.basic && c.op != 0 && c.op != 5 then 4
  else if !argsOk c then 2
  else if d.namesAbsent c then 6
  else 0

/-- A later command of the scan stands against an earlier one (R390). -/
def stands (a b : VciCmd) : Bool :=
  let x := a.op
  let y := b.op
  (x == 3 && y == 3 && a.imm == b.imm && (a.imm != 2 || cmdArg a 1 &&& cmdArg b 1 != 0)) ||
    (x == 4 && y == 4) || (x == 5 && y == 5 && a.pair == b.pair) ||
    ((x == 0x20 || x == 0x21) && (y == 0x20 || y == 0x21) && a.imm % 64 == b.imm % 64) ||
    ((x == 0x12 || x == 0x14) && (y == 0x13 || y == 0x15)) || (x == 0x13 && (y == 0x14 || y == 0x15)) ||
    (x == 0x32 && y == 0x32 && a.imm == b.imm && cmdArg a 0 % 8 == cmdArg b 0 % 8 &&
      overlap (cmdArg a 1) (cmdArg a 2) (cmdArg b 1) (cmdArg b 2)) ||
    (x == 0x22 && y == 0x22 && a.imm == b.imm)

/-- Codes of a scan's commands, in index order: those of R394, else SUPERSEDED. -/
def scanCodes : List (VciCmd × Nat) → List (VciCmd × Nat)
  | [] => []
  | (c, k) :: rest =>
    (c, if k = 0 ∧ rest.any (fun x => x.2 == 0 && stands c x.1) = true then 0x11 else k) :: scanCodes rest

/-- The command that an H2M mailbox holds (R385). -/
def takenCmd (d : Dev) (n : Nat) : VciCmd :=
  let w := d.rn (Reg.h2mData n)
  { tag := bits w 31 23, op := bits w 22 16, imm := bits w 15 0, pair := n, owner := d.vci.issuers.get 0 n,
    args := (List.range 16).map (fun k => d.rn (Reg.vciArgs (16 * n + k))) }

/-- One command of a scan is acknowledged, and an accepted one joins the job queue or the others (R386, R387, R391). -/
def takeOne (d : Dev) (x : VciCmd × Nat) : Dev :=
  let c := x.1
  let code := if x.2 = 0 ∧ d.tagBusy c.tag = true then 3 else x.2
  let d := mpAck c.pair code (d.setFlag (Reg.h2mStatus c.pair) 0 false)
  let d := if code = 0x11 then d.bump Reg.vciSuperseded else d.countCode code
  if code ≠ 0 then d
  else if isJobOp c.op then { d with vci := { d.vci with jobq := d.vci.jobq ++ [c] } }
  else { d with vci := { d.vci with active := d.vci.active ++ [c] } }

/-- The command service runs: from step 6 of bring-up, and in basic mode (R421, R458). -/
def serving (d : Dev) : Bool := d.basic || d.flag Reg.secBootStat 31 || decide (6 ≤ d.fld Reg.secBootStat 3 0)

/-- MP_SCAN. -/
def scan (d : Dev) : Dev :=
  if !d.serving then d else
  let full := (List.range 32).filter d.h2mFull
  let d := { d with vci := { d.vci with scanDue := false } }
  if full.isEmpty then d else
  let cmds := full.map d.takenCmd
  ((scanCodes (cmds.map (fun c => (c, d.ackCode c)))).foldl takeOne (d.bump Reg.vciScans)).showVci

/-! ## Commands outside the job queue (R391, R392, R458) -/

/-- An accepted command starts: before READY, and in a job state that its row does not permit, it completes with STATE. -/
def startCmd (op tag : Nat) (early : Bool) (states : List Nat) (f : VciCmd → Dev → Dev) (d : Dev) : Dev :=
  match d.activeCmd op tag with
  | none => d
  | some c =>
    if c.begun then d
    else if (!early && !d.ready) || !(states.isEmpty || states.contains d.jobState) then d.complete c 5 []
    else f c d

/-- NOP. -/
def nopCmd (c : VciCmd) (d : Dev) : Dev := d.complete c 0 [c.imm]

/-- SUBSCRIBE: the pair's mask. -/
def subscribe (c : VciCmd) (d : Dev) : Dev :=
  let was := d.vci.masks.get 0 c.pair
  { d with vci := { d.vci with masks := d.vci.masks.set 0 c.pair c.imm } }.complete c 0 [was]

/-- RING_BIND (R504). -/
def ringBind (c : VciCmd) (d : Dev) : Dev :=
  let src := if c.imm / 64 = 0 then c.imm % 64 else 63 + c.imm / 64
  { d with vci := { d.vci with binds := d.vci.binds.set 0 src (cmdArg c 0 % 32) } }.complete c 0 []

/-- SET_POWER_CAP (R6, R418). -/
def setPowerCap (c : VciCmd) (d : Dev) : Dev :=
  if d.fld Reg.glbVariant 15 8 < c.imm then d.complete c 0x12 [d.rn Reg.pwrCap]
  else (d.setReg Reg.pwrCap c.imm).complete c 0 [c.imm]

/-- SET_CLOCK of an application core's clock. -/
def setApc (mhz : Nat) (d : Dev) (k : Nat) : Dev :=
  let d := { d with pwr := { d.pwr with setApc := d.pwr.setApc.set 0 k mhz } }
  d.takeApc k (d.underCeiling (d.apcClk k) mhz)

/-- SET_CLOCK (R5, R24, R419). -/
def setClock (c : VciCmd) (d : Dev) : Dev :=
  let mhz := cmdArg c 0
  if d.clockMax c.imm < mhz then d.complete c 0x10 []
  else if c.imm = 0 then
    let d := { d with pwr := { d.pwr with setFlume := mhz } }
    (d.beginActive c.tag).takeFlume (d.underCeiling d.flumeClk mhz)
  else if c.imm = 1 then
    let d := { d with pwr := { d.pwr with setRace := mhz } }
    (d.beginActive c.tag).takeRace (d.underCeiling d.raceClk mhz)
  else
    let ks := maskBits 16 (cmdArg c 1)
    let d := ks.foldl (setApc mhz) d
    d.complete c 0 [(ks.map d.apcClk).foldl max 0]

/-! ## Streams (R72, R83, R84, R310, R323) -/

/-- R × 2^H of a stream: its decimation before the FIR. -/
def preFir (d : Dev) (n : Nat) : Nat := (d.fld (Reg.intkStrDec n) 5 0 + 1) * 2 ^ d.fld (Reg.intkStrDec n) 9 8

/-- The group delay in fine units (R72). -/
def groupDelay (d : Dev) (n : Nat) : Nat :=
  let v := d.rn (Reg.intkStrDec n)
  let r := bits v 5 0 + 1
  let hb := bits v 9 8
  let t := bits v 22 16
  let twice := 5 * (r - 1) + (if 1 ≤ hb then 22 * r else 0) + (if 2 ≤ hb then 44 * r else 0) + (t - 1) * d.preFir n
  (roundDiv ((twice * d.rn (Reg.intkLinkSper (d.fld (Reg.intkStrSrc n) 18 16)) : Nat) : Int) 131072).toNat

/-- Converter samples per second × SPER: 10^12 × 2^24 ÷ 625. -/
def rateNum : Nat := 26843545600000000

/-- The stream's samples are complex at the chain's input (R73). -/
def cplx (d : Dev) (n : Nat) : Bool := d.flag (Reg.intkStrSrc n) 8 || d.flag (Reg.intkStrCtl n) 16

/-- A sum of fractions, as numerator and denominator. -/
def fracSum (l : List (Nat × Nat)) : Nat × Nat := l.foldl (fun a b => (a.1 * b.2 + b.1 * a.2, a.2 * b.2)) (0, 1)

/-- A fraction is at most a whole number. -/
def fracLe (a : Nat × Nat) (n : Nat) : Bool := decide (a.1 ≤ n * a.2)

/-- A stream's CIC input rate, complex counted twice, and its framer's bytes per second. -/
def cicRate (d : Dev) (n : Nat) : Nat × Nat :=
  (rateNum * (if d.cplx n then 2 else 1), d.rn (Reg.intkLinkSper (d.fld (Reg.intkStrSrc n) 18 16)))
def writeRate (d : Dev) (n : Nat) : Nat × Nat :=
  (rateNum * d.sampBytes n * d.frameLen n,
    d.rn (Reg.intkLinkSper (d.fld (Reg.intkStrSrc n) 18 16)) * d.decim n * d.frameHop n)

/-- Frame length, hop and slots within R84. -/
def frameCfgOk (d : Dev) (n : Nat) : Bool :=
  let len := d.frameLen n
  let hop := d.frameHop n
  let count := d.fld (Reg.intkStrBufCfg n) 4 0
  decide (256 ≤ len) && decide (len ≤ 65536) && decide (64 ≤ hop) && decide (hop ≤ 65536) && decide (2 ≤ count) && decide (count ≤ 16)

/-- The chain of a stream is one that R75 describes and reads converters that its link has (R73, log entry 135). -/
def chainOk (d : Dev) (n : Nat) : Bool :=
  let v := d.rn (Reg.intkStrDec n)
  let t := bits v 22 16
  let src := d.rn (Reg.intkStrSrc n)
  let lk := bits src 18 16
  bits v 9 8 != 3 && (if t = 0 then bits v 15 12 == 0 else t % 2 == 0 && decide (t ≤ 96)) && decide (lk < 6) &&
    decide (bits src 3 0 < d.convs lk) && (!bit src 8 || decide (bits src 7 4 < d.convs lk))

/-- The rates of a stream, with those of every other open context, are within R84. -/
def ratesOk (d : Dev) (n : Nat) : Bool :=
  let v := d.rn (Reg.intkStrDec n)
  let s := d.rn (Reg.intkLinkSper (d.fld (Reg.intkStrSrc n) 18 16))
  let r := bits v 5 0 + 1
  let f := bits v 15 12 + 1
  let t := bits v 22 16
  let others := (List.range 64).filter (fun k => k != n && d.strOpen k && !(d.strm k).gather)
  s != 0 && fracLe (rateNum, s) (if d.cplx n then 8000000000 else 16000000000) &&
    (bits v 9 8 == 0 || fracLe (rateNum, s * r) 3200000000) &&
    (t == 0 || (fracLe (rateNum, s * d.preFir n) 3200000000 && fracLe (rateNum, s * d.preFir n * f) 1600000000 &&
      fracLe (rateNum * t, s * d.preFir n * f) 51200000000)) &&
    decide (d.decim n ≤ 4096) && fracLe (fracSum ((n :: others).map d.cicRate)) 128000000000 &&
    fracLe (fracSum ((n :: others).map d.writeRate)) 64000000000

/-- The slots fit the pinnable capacity (R310); a way that is off in any slice is not counted. -/
def pinsFit (d : Dev) (n : Nat) : Bool :=
  let total := ((n :: d.pinnedStreams n).map (fun k => (d.slotRange k).2)).sum
  let ways := (d.classWays 1 0).filter (fun w => (List.range 16).all (fun s => !d.wayOff s w))
  decide (total ≤ 0x4000000 * min 8 ways.length / 16)

/-- The slots lie in Pond memory (PLACE 0), or in installed DDR5 apart from every other region (R78, R323). -/
def slotsOk (d : Dev) (n : Nat) : Bool :=
  let s := d.slotRange n
  if d.flag (Reg.intkStrBufCfg n) 8 then
    let rs := d.boardRegions ++ d.queueRegion ++ (d.pinnedStreams n).map d.slotRange
    d.ddrRegion s.1 s.2 && rs.all (fun r => !overlap s.1 s.2 r.1 r.2)
  else isPond s.1 && isPond (s.1 + (s.2 - 1))

/-- The refusal of a STREAM_OPEN of a closed stream whose context is set up; 0 where it opens. Of several checks that fail, the
first in this order gives the code (R84, log entry 114). -/
def openCode (d : Dev) (n : Nat) (gather : Bool) : Nat :=
  if !d.frameCfgOk n || (!gather && !(d.chainOk n && d.ratesOk n)) then 0x30
  else if !gather && !d.linkUp (d.fld (Reg.intkStrSrc n) 18 16) then 0x31
  else if d.flag (Reg.intkStrBufCfg n) 8 && !d.pinsFit n then 0x32
  else if !d.slotsOk n then 7
  else 0

/-- The context of a stream that opens: a flushed chain and frame number 0; the phase accumulator runs on, and a tuning word
posted before is in force (R74, R77, R82, log entry 135). -/
def freshStrm (x : Strm) (gather : Bool) : Strm :=
  { acc := x.acc, ftw := x.ftwPend.getD x.ftw, busy := x.busy, gather := gather }

/-- A stream's frame numbers begin anew, and with them every use of its ledger entries, which stand until they are reused; their
update counts go on (R77, R290, R291, R404). -/
def freshLedger (d : Dev) (n : Nat) : Dev :=
  let clear (m : SMap LedgerE) (c : Nat × LedgerE) : SMap LedgerE := m.set {} c.1 { c.2 with old := true }
  { d with ledger := (d.ledger.cells.filter (fun c => c.1 / 65536 == n)).foldl clear d.ledger }

/-- STREAM_OPEN (R72, R74, R77, R84, R277, R286). -/
def streamOpen (c : VciCmd) (d : Dev) : Dev :=
  let n := c.imm % 64
  let gather := bit c.imm 8
  if d.strOpen n then d.complete c 5 [] else
  let was := d.strm n
  let e := d.setStrm n { was with gather := gather }
  let code := e.openCode n gather
  if code ≠ 0 then d.complete c code [] else
  let gd := if gather then 0 else d.groupDelay n
  let d := (d.setStrm n (freshStrm was gather)).freshLedger n
  let d := ((d.setReg (Reg.intkStrGd n) gd).setReg (Reg.intkStrLat n) (Config.streamLatency gd).toNat).setReg (Reg.intkStrFrameNo n) 0
  let d := ((d.setFlag (Reg.intkStrStat n) 0 true).setFlag (Reg.intkStrStat n) 1 false).setFlag (Reg.intkStrStat n) 2 false
  let d := (if n < 32 then d.setFlag Reg.intkOpenLo n true else d.setFlag Reg.intkOpenHi (n - 32) true).showNoSlot n
  let gs := (List.range 16).filter (fun g => (d.jn.gathers.get {} g).en && (d.jn.gathers.get {} g).dst == n)
  let d := d.setJn { d.jn with
    gatherNo := gs.foldl (fun m g => m.set 0 g 0) d.jn.gatherNo }
  (d.clearRefs n).complete c 0 [d.rn (Reg.intkStrGd n)]

/-- STREAM_CLOSE (R83). -/
def streamClose (c : VciCmd) (d : Dev) : Dev :=
  let n := c.imm % 64
  if !d.strOpen n then d.complete c 5 [] else (d.beginActive c.tag).closeStream n

/-! ## A job's commands (R178, R177, R260, R287, R345) -/

/-- MARKER: the record enters the queue, and the command completes, once there is room (R287, R289). -/
def markerCmd (c : VciCmd) (d : Dev) : Dev :=
  if d.rqFree = 0 then d else
  let seq := d.jn.seq
  let memErr := b2n (d.rqOut (d.rqAddr (d.fld Reg.jnRqWr 15 0))) * 2 ^ 13
  (d.putRecord (recordBytes (d.tb.tbc * 256) 0xFF 2 0 0 0 0 0 0 memErr 0 0 0 0 (0x8000 + c.tag % 512) seq) (2, 0xFF, 0)).complete c 0 [seq]

/-- SCALE_WRITE (R178): refused at the page that is not the shadow page, beyond the page, or with an unreadable source; held
while SHADOW_BUSY is 1 or earlier writes are held. -/
def scaleWrite (c : VciCmd) (d : Dev) : Dev :=
  let row := c.imm / 256
  let col := c.imm % 128
  let off := cmdArg c 1
  let n := cmdArg c 2
  let a := cmdArg64 c 3
  if cmdArg c 0 ≠ (d.fld Reg.flmEpoch 7 0 + 1) % 2 then d.complete c 0x46 []
  else if (d.cell row col).pageLen < off + n then d.complete c 7 []
  else if n ≠ 0 && !d.readable a (8 * n) then (d.readRefused a (8 * n)).complete c 7 []
  else
    let r := d.srcReady a
    if n ≠ 0 && !r.1 then r.2.beginActive c.tag else
    let w : ShadowWrite := ⟨c.tag, row, col, off, (List.range n).map (fun i => d.num (a + 8 * i) 8)⟩
    let d := if n = 0 then d else d.touch 0 a (8 * n)
    if d.shadowBusy || !d.flume.shadow.isEmpty then
      let d := { d with flume := { d.flume with shadow := d.flume.shadow ++ [w] } }
      d.beginActive c.tag
    else ((d.doShadow w).complete c 0 []).swapWaiting

/-- A SCALE_WRITE whose source waited for Bus Master Enable goes on. -/
def scaleAgain (tag : Nat) (d : Dev) : Dev :=
  match d.activeCmd 0x30 tag with
  | some c => if c.begun && !d.flume.shadow.any (fun w => w.tag == tag) then scaleWrite c d else d
  | none => d

/-- EPOCH_SWAP (R177, R179): it completes when the swap has taken effect. -/
def epochSwap (c : VciCmd) (d : Dev) : Dev := (d.beginActive c.tag).requestSwap

/-- ELIGIBILITY (R260): it applies, and completes, at the NC's next tick open. An NC that the job does not use, or that has
failed, takes none (log entry 25). -/
def eligibility (c : VciCmd) (d : Dev) : Dev :=
  let x := d.nc c.imm
  if !x.inJob || x.failed then d.complete c 5 [] else
  let first := cmdArg c 1
  let n := cmdArg c 2
  let w : List (Nat × Bool × Nat × Nat) :=
    if n = 0 then [] else [(cmdArg c 0 % 8, bit (cmdArg c 0) 8, first, first + (n - 1))]
  (d.setNc c.imm { x with eligPend := x.eligPend ++ w }).beginActive c.tag

/-- COLLECTIVE (R343, R345): a further one of the group waits; a group without this device is refused (log entry 26). -/
def collectiveCmd (c : VciCmd) (d : Dev) : Dev :=
  let g := c.imm % 16
  if !bit (d.collCfg g) 31 || !bit (d.collMembers g) d.ownDev then d.complete c 0x42 []
  else
    let waiting := d.vci.active.find? (fun x => x.op == 0x33 && x.imm == c.imm && !x.begun)
    if (d.coll g).pend || waiting != some c then d
    else collStart g (cmdArg64 c 0) c.tag (d.beginActive c.tag)

/-! ## DDR_CONFIG (R317, R321-R323, R458) -/

/-- A parameter block is consistent and in range, and its capacity agrees (R317, R321, R322). -/
def ddrBlockOk (b : List Byte) : Bool :=
  let f (i n : Nat) : Nat := ofBytes ((b.drop i).take n)
  let ranks := f 2 1
  let width := f 3 1
  let dens := f 4 1
  [4800, 5600, 6400, 7200, 8000].contains (f 0 2) && (ranks == 1 || ranks == 2) && (width == 4 || width == 8) &&
    (dens == 16 || dens == 24 || dens == 32) && decide (f 5 1 < 2) && f 56 8 == 0 &&
    f 48 8 == ranks * (64 / width) * dens * 0x8000000

/-- The cause of one channel's failure; 0 where it trains. The environment says how training went (causes 1 to 4). -/
def ddrCause (blocks : List (Nat × List Byte)) (causes : List (BitVec 4)) (k : Nat) : Nat :=
  match blocks.find? (fun x => x.1 == k) with
  | none => 0
  | some x =>
    if !ddrBlockOk x.2 || blocks.any (fun y => y.2 != x.2) then 5
    else
      let z := (causes.getD k 0).toNat
      if z ≤ 4 then z else 0

/-- DDRc_STAT. -/
def ddrStatOf (used : Bool) (cause : Nat) : Nat :=
  if !used then 0 else cause * 16 + b2n (cause == 0) * 2 + b2n (cause != 1 && cause != 5)

/-- The capacity check writes the modules' top lines; what it leaves there is open (R322). -/
def ddrTopLines (d : Dev) (chans size : Nat) : Dev :=
  (List.range (2 * chans)).foldl (fun (d : Dev) g =>
    let x := d.freeBytes 64
    x.1.putBytes (ddrBase + size - 256 * g - 64) x.2) d

/-- The channels are trained; DDR5 is available when every one of them is. -/
def ddrTrain (mask : Nat) (blocks : List (Nat × List Byte)) (causes : List (BitVec 4)) (d : Dev) : Dev × Nat :=
  let cs := (List.range 4).map (fun k => ddrCause blocks causes k)
  let res := ((List.range 4).map (fun k => cs.getD k 0 * 2 ^ (4 * k))).sum
  let stat := (List.range 4).map (fun k => ddrStatOf (bit mask k) (cs.getD k 0))
  let all := cs.all (· == 0)
  let rate := ((blocks.map (fun x => ofBytes (x.2.take 2))).headD 0)
  let size := (blocks.map (fun x => ofBytes ((x.2.drop 48).take 8))).sum
  let d := (List.range 4).foldl (fun (d : Dev) k => d.setReg (Reg.ddrStat k) (stat.getD k 0)) d
  let d := d.setReg Reg.memDdrStat (((List.range 4).map (fun k => (stat.getD k 0 / 2 % 2) * 2 ^ (4 + k) + (stat.getD k 0 % 2) * 2 ^ k)).sum)
  let d := (d.setReg Reg.memDdrRate (if all then rate else 0)).setReg64 Reg.memDdrSizeLo Reg.memDdrSizeHi (if all then size else 0)
  let d := { d with sec := { d.sec with trained := all } }
  (if all then d.ddrTopLines (popcount 4 mask) size else d, res)

/-- DDR_CONFIG. -/
def ddrConfig (causes : List (BitVec 4)) (d : Dev) : Dev :=
  match d.jobHead 2 with
  | none => d
  | some c =>
    if d.basic || !d.serving then d
    else if d.jobState ≠ jsNone then d.complete c 5 []
    else
      let ks := maskBits 4 c.imm
      let a := cmdArg64 c 0
      let n := 64 * ks.length
      if !d.readable a n then (d.readRefused a n).complete c 7 [] else
      let r := d.srcReady a
      if !r.1 then r.2.beginJob else
      let blocks : List (Nat × List Byte) := ks.zipIdx.map (fun (x : Nat × Nat) => (x.1, d.bytes (a + 64 * x.2) 64))
      let t := ddrTrain c.imm blocks causes (d.touch 0 a n)
      t.1.complete c (if t.2 = 0 then 0 else 0x40) [t.2]

end Dev

open Dev

/-- MP_SCAN (R369, R386, R390). -/
def execMpScan (s : State) : Host.Outcome State Fault Refusal := onDev Dev.scan s

/-- NOP_CMD. -/
def execNopCmd (tag : BitVec 9) (s : State) : Host.Outcome State Fault Refusal := onDev (startCmd 0 tag.toNat true [] Dev.nopCmd) s

/-- DDR_CONFIG (R321, R322). -/
def execDdrConfig (causes : List (BitVec 4)) (s : State) : Host.Outcome State Fault Refusal := onDev (Dev.ddrConfig causes) s

/-- SET_CLOCK (R5, R24). -/
def execSetClock (tag : BitVec 9) (s : State) : Host.Outcome State Fault Refusal :=
  onDev (startCmd 3 tag.toNat false [] Dev.setClock) s

/-- SET_POWER_CAP (R6). -/
def execSetPowerCap (tag : BitVec 9) (s : State) : Host.Outcome State Fault Refusal :=
  onDev (startCmd 4 tag.toNat true [] Dev.setPowerCap) s

/-- SUBSCRIBE (R402). -/
def execSubscribe (tag : BitVec 9) (s : State) : Host.Outcome State Fault Refusal :=
  onDev (startCmd 5 tag.toNat true [] Dev.subscribe) s

/-- STREAM_OPEN (R84). -/
def execStreamOpen (tag : BitVec 9) (s : State) : Host.Outcome State Fault Refusal :=
  onDev (startCmd 0x20 tag.toNat false [jsArmed, jsRunning] Dev.streamOpen) s

/-- STREAM_CLOSE (R83). -/
def execStreamClose (tag : BitVec 9) (s : State) : Host.Outcome State Fault Refusal :=
  onDev (startCmd 0x21 tag.toNat false [] Dev.streamClose) s

/-- RING_BIND (R504). -/
def execRingBind (tag : BitVec 9) (s : State) : Host.Outcome State Fault Refusal :=
  onDev (startCmd 0x22 tag.toNat true [] Dev.ringBind) s

/-- MARKER (R287). -/
def execMarker (tag : BitVec 9) (s : State) : Host.Outcome State Fault Refusal :=
  onDev (startCmd 0x23 tag.toNat false [jsRunning, jsDrained, jsFaulted] Dev.markerCmd) s

/-- SCALE_WRITE (R178). -/
def execScaleWrite (tag : BitVec 9) (s : State) : Host.Outcome State Fault Refusal :=
  onDev (fun d => scaleAgain tag.toNat (startCmd 0x30 tag.toNat false [jsArmed, jsRunning, jsDrained] Dev.scaleWrite d)) s

/-- EPOCH_SWAP (R177). -/
def execEpochSwap (tag : BitVec 9) (s : State) : Host.Outcome State Fault Refusal :=
  onDev (startCmd 0x31 tag.toNat false [jsRunning] Dev.epochSwap) s

/-- ELIGIBILITY (R260). -/
def execEligibility (tag : BitVec 9) (s : State) : Host.Outcome State Fault Refusal :=
  onDev (startCmd 0x32 tag.toNat false [jsRunning, jsDrained] Dev.eligibility) s

/-- COLLECTIVE (R343, R345). -/
def execCollective (tag : BitVec 9) (s : State) : Host.Outcome State Fault Refusal :=
  onDev (startCmd 0x33 tag.toNat false [jsRunning, jsDrained] Dev.collectiveCmd) s

end Sys2Proof.Machine
end

