-- ==== Sys2Proof/Machine/Reset.lean ====
section
/-! DEFINITION. The whole-device reset, entry to basic mode, tamper, and the thermal trip (R316, R421, R455, R456, R472, R479,
R484, R494). -/

namespace Sys2Proof.Machine

namespace Dev

/-- PWR_TLIM by temperature grade: trip, throttle and maximum; grades beside -A and -E are not issued (R7, R493, R499). -/
def gradeLimits (g : Nat) : Nat := if g = 1 then 0x00736469 else 0x006E5F64

/-- The die temperature of the tamper source, in 1/8 °C, of every grade (R493). -/
def tamperTemp : Int := 1000

/-- Registers show what the fuses hold: identity, variant, cap, thresholds, life cycle, SVN, revoked slots (R7, R466, R475,
R499). -/
def latchFuses (d : Dev) : Dev :=
  let f := d.fuses
  let d := ((d.setReg Reg.glbIdent f.ident).setReg Reg.glbVariant f.variant).setReg Reg.pwrCap (bits f.variant 15 8)
  let d := (d.setReg Reg.pwrTlim (gradeLimits (bits f.variant 7 4))).setReg Reg.secLc f.lc
  (d.setFld Reg.secSvn 5 0 f.svn).setFld Reg.secKeyslot 7 4 f.revoked

/-- A register that only a power-on reset clears: the Sentinel block, the tamper record, the trip count (R456, R494). -/
def aonReg (a : Nat) : Bool := (decide (0x60000 ≤ a) && decide (a < 0x70000)) || a == Reg.secTamper || a == Reg.pwrTrips

/-- What the whole-device reset leaves: AON state unless it is a power-on reset, the fuses, the pins that others drive, and
host memory, which is not the device's (R455, R456). -/
def resetDev (powerOn : Bool) (d : Dev) : Dev :=
  let kept : SMap (BitVec 32) := if powerOn then ⟨[]⟩ else ⟨d.regs.cells.filter (fun c => aonReg c.1)⟩
  let host : SMap Byte := ⟨d.mem.cells.filter (fun c => decide (hostBase ≤ c.1))⟩
  let tb : Tb := { senGates := if powerOn then 0 else d.tb.senGates }
  let pins : Pins := {
    sysRstN := d.pins.sysRstN, perstN := d.pins.perstN, straps := d.pins.straps
    -- the board may have let TAMPER_N rise since (log entry 59)
    tamperN := d.pins.tamperN || d.freeVal.toNat % 2 == 1
    jtagIr := if powerOn then 2 else d.pins.jtagIr
    padsHeld := !powerOn && d.pins.padsHeld
    boundary := if powerOn then 0 else d.pins.boundary }
  let sec : Sec := { ret := if powerOn then {} else d.sec.ret }
  let bad : SMap Bool := ⟨d.badMem.cells.filter (fun c => decide (hostBase ≤ c.1))⟩
  let e : Dev := {
    regs := kept, mem := host, badMem := bad, free := d.free + b2n (!d.pins.tamperN), tb := tb
    sen := if powerOn then {} else d.sen, pins := pins, fuses := d.fuses, sec := sec }
  (e.setFlag Reg.secTamper 4 (!pins.tamperN)).latchFuses

/-- A whole-device reset is accepted: after a thermal trip only once the diode reads 15 °C below the trip threshold (R494). -/
def resetAllowed (d : Dev) : Bool :=
  d.pins.thermtripN || decide (signedOf 16 (d.fld Reg.pwrTj 15 0) + 120 ≤ 8 * signedOf 8 (d.fld Reg.pwrTlim 23 16))

/-- A reset source other than power-on. -/
def wholeReset (d : Dev) : Dev := if d.resetAllowed then d.resetDev false else d

/-! ## Domains that stop (R407, R409, R421) -/

/-- The SerDes of the intake and of the leat ports go: lanes, links and ports are down. -/
def dropLinks (d : Dev) : Dev :=
  let d := (List.range 24).foldl (fun (d : Dev) m => d.setReg (Reg.intkLaneStat m) 0) d
  let d := (List.range 6).foldl (fun (d : Dev) n => d.linkDown n) d.showLanes
  (List.range 4).foldl (fun (d : Dev) p => ((d.setFlag (Reg.lkPortStat p) 1 false).setInUse p false).showMismatch p) d

/-- DDR5 enters or leaves self-refresh (R409, R421). -/
def selfRefresh (on : Bool) (d : Dev) : Dev :=
  let t := d.fld Reg.memDdrStat 7 4
  let d := d.setFld Reg.memDdrStat 11 8 (if on then t else 0)
  (List.range 4).foldl (fun (d : Dev) c => d.setFlag (Reg.ddrStat c) 2 (on && bit t c)) d

/-- Entry to basic mode is an Uncorrectable Internal Error of the severity that AER selects (R357). -/
def signalInternal (d : Dev) : Dev :=
  let x := d.pcie
  { d with pcie := { x with
    internal := true, fatals := x.fatals + b2n x.sevInternal, nonfatals := x.nonfatals + b2n (!x.sevInternal) } }

/-- Basic mode (R421): every domain but AON, TB, MP and PCIE stops, and what it was doing is gone; DDR5 keeps its contents; the
idle timers and the governor stop; the command service restarts (R370). -/
def enterBasic (d : Dev) : Dev :=
  if d.basic then d else
  let d := d.portsLeave.dropLinks.selfRefresh true
  let d := (d.setFlag Reg.flmStat 1 false).setFlag Reg.mrStat 1 false
  let d := (List.range 64).foldl (fun (d : Dev) n => d.setReg (Reg.intkStrStat n) 0) ((d.setReg Reg.intkOpenLo 0).setReg Reg.intkOpenHi 0)
  let d := (List.range 16).foldl (fun (d : Dev) c => d.setFlag (Reg.cdStat c) 0 false) d
  let d := { d with
    flume := d.flumeKept
    links := ⟨[]⟩, strms := ⟨[]⟩, jn := {}, ncs := d.ncsKept, routers := ⟨[]⟩, ports := ⟨[]⟩, colls := ⟨[]⟩, harts := ⟨[]⟩
    conduits := ⟨[]⟩, rings := ⟨[]⟩, cache := [], pfs := [], pfWait := [], pfHist := ⟨[]⟩
    pwr := { d.pwr with target := 0, exitTo := none }
    vci := { d.vci with startAt := none, resume := none, split := none } }
  let d := d.setFld Reg.pwrStat 18 16 psBasic
  let d := d.setReg Reg.pwrPadHold (d.rn Reg.pwrPadHold ||| 0x1C)
  (d.serviceRestart.raiseVector 0).signalInternal

/-! ## Tamper (R316, R472) -/

/-- The Vault is wiped with zeros: the identity key and the journal MAC key are gone. -/
def wipeVault (d : Dev) : Dev := { d with sec := { d.sec with vault := ⟨[]⟩ } }

/-- Bit of a tamper source in SEC_TAMPER. -/
def tamperBit : TamperSource → Nat
  | .pin => 0
  | .volt => 1
  | .clock => 2
  | .temp => 3
  | .pll => 2

/-- A detector works: TAMPER_N in every state, the others while VDD_CORE is on, and REFCLK's while CLKREQ_N is held low (R359,
R472). A PLL that loses lock is watched whatever CLKREQ_N is. -/
def detects (d : Dev) (s : TamperSource) : Bool :=
  match s with
  | .pin => true
  | .clock => d.pins.enCore && !d.pins.clkreqN
  | .pll => d.pins.enCore && d.tb.running
  | _ => d.pins.enCore

/-- A tamper: the Vault is wiped, the cause recorded, and basic mode entered; in NAP and SENTINEL the next wake ends there, and
before step 5 the boot ROM stays at its wait for GO. -/
def tampered (s : TamperSource) (d : Dev) : Dev :=
  if !d.detects s then d else
  let d := (d.wipeVault.setFlag Reg.secTamper (tamperBit s) true).bump Reg.secTampers
  let d := { d with sec := { d.sec with tampered := true } }
  let d := if s = .pin then { d with pins := { d.pins with tamperN := false } }.setFlag Reg.secTamper 4 true else d
  if d.pwrState = psNap ∨ d.pwrState = psSentinel then d
  else if d.flag Reg.secBootStat 31 || decide (5 ≤ d.fld Reg.secBootStat 3 0) then d.enterBasic
  else d

/-! ## The thermal trip (R494) -/

/-- A register of the trigger outputs, of the AON domain's clocks for them, or of the thermal record: AON keeps it through a
trip. -/
def tripReg (a : Nat) : Bool :=
  (decide (Reg.trgoCtl 0 ≤ a) && decide (a < Reg.trgoCtl 8)) || a == Reg.pwrTj || a == Reg.pwrTjMax || a == Reg.secTampers

/-- THERMTRIP_N falls and the switched supplies go: only AON and BYP run, and DDR5 contents are lost. The Sentinel's trigger
actions go on, and the trigger outputs time their pulses in SENT_CLK periods as in SENTINEL (R494, log entry 134). -/
def trip (d : Dev) : Dev :=
  let e := d.resetDev false
  let e := (d.regs.cells.filter (fun c => tripReg c.1)).foldl (fun (e : Dev) c => e.setReg c.1 c.2.toNat) e
  let outs := d.trigOuts.cells.foldl (fun (m : SMap TrigOut) c =>
    m.set {} c.1 { c.2 with left := sentPeriods (c.2.fin - d.tb.tbc) }) ⟨[]⟩
  { e with
    trigOuts := outs
    tb := { e.tb with tbc := d.tb.tbc }
    sec := { e.sec with tampered := d.sec.tampered }
    pins := { e.pins with thermtripN := false, trigOut := d.pins.trigOut } }.bump Reg.pwrTrips

end Dev

open Dev

/-- POWER_ON_RESET: VDD_AON rises, or falls below 0.60 V (R456, R484). -/
def execPowerOnReset (s : State) : Host.Outcome State Fault Refusal := onDev (resetDev true) s

/-- SYS_RST_N_ASSERT (R455). -/
def execSysRstNAssert (s : State) : Host.Outcome State Fault Refusal :=
  onDev (fun d => Dev.wholeReset { d with pins := { d.pins with sysRstN := false } }) s

/-- GLB_RESET_WRITE (R455, R456). -/
def execGlbResetWrite (v : Word) (m : Master) (s : State) : Host.Outcome State Fault Refusal :=
  onReg 8 (byMaster m true (fun d => if v.toNat = 0xA5A then d.wholeReset else d.bump Reg.glbResetBad)) s

/-- TAMPER (R472). -/
def execTamper (src : TamperSource) (s : State) : Host.Outcome State Fault Refusal := onDev (tampered src) s

/-- PG_MAIN_LOW: once high after EN_CORE rose, it is the VOLT tamper source (R484). -/
def execPgMainLow (s : State) : Host.Outcome State Fault Refusal :=
  onDev (fun d => if d.pins.pgMain && d.pins.enCore
    then { (d.tampered .volt) with pins := { (d.tampered .volt).pins with pgMain := false } }
    else { d with pins := { d.pins with pgMain := false } }) s

end Sys2Proof.Machine
end

