-- ==== Sys2Proof/Machine/Secure.lean ====
section
/-! DEFINITION. The firmware bundle: its format, and what rejects it (R467, R468, R470). -/

namespace Sys2Proof.Machine

namespace Dev

/-- A component entry of a bundle header: type, offset, length, hash. -/
def compAt (h : List Byte) (i : Nat) : Nat × Nat × Nat × List Byte :=
  let e := h.drop (64 + 48 * i)
  (ofBytes (e.take 1), ofBytes ((e.drop 4).take 4), ofBytes ((e.drop 8).take 4), (e.drop 12).take 32)

/-- The component of a type. -/
def compOf (h : List Byte) (ty : Nat) : Nat × Nat × Nat × List Byte := if (compAt h 0).1 = ty then compAt h 0 else compAt h 1

/-- MAGIC, VERSION, lengths and offsets are consistent and reserved bytes are 0. -/
def bundleFormatOk (h : List Byte) (len : Nat) : Bool :=
  let f (i n : Nat) : Nat := ofBytes ((h.drop i).take n)
  let a := compAt h 0
  let b := compAt h 1
  let entry (i : Nat) (c : Nat × Nat × Nat × List Byte) : Bool :=
    let cap := if c.1 = 1 then 0x80000 else 0x10000000
    f (65 + 48 * i) 3 == 0 && f (108 + 48 * i) 4 == 0 && c.2.1 % 64 == 0 && decide (8064 ≤ c.2.1) && decide (c.2.1 + c.2.2.1 ≤ len) &&
      decide (c.2.2.1 ≤ cap)
  f 0 4 == 0x57464457 && f 4 2 == 1 && decide (f 6 1 ≤ 3) && f 7 1 == 2 && decide (f 8 4 ≤ 63) && f 12 4 == len && f 48 8 == 0 &&
    f 56 8 == 0 && ((a.1 == 1 && b.1 == 2) || (a.1 == 2 && b.1 == 1)) && entry 0 a && entry 1 b &&
    !overlap a.2.1 a.2.2.1 b.2.1 b.2.2.1

/-- The cause of a rejected bundle; 0 where it is accepted (R468, R470). -/
def bundleCause (d : Dev) (bundle : List Byte) (len : Nat) : Nat :=
  let h := bundle.take 160
  let f (i n : Nat) : Nat := ofBytes ((h.drop i).take n)
  let pk := (h.drop 16).take 32
  let slot := f 6 1
  let mp := compOf h 1
  if !bundleFormatOk h len then 1
  else if d.fuses.lc = 0 || bit d.fuses.revoked slot || d.fuses.slots[slot]? != some (sha256 pk) then 2
  else if !Config.slhVerify pk h ((bundle.drop 160).take 7856) then 3
  else if f 8 4 < d.fuses.svn then 4
  else if sha256 ((bundle.drop mp.2.1).take mp.2.2.1) != mp.2.2.2 then 3
  else 0

/-- The cause of a bundle in the firmware region that a resume finds wrong: as at a start, and its runtime; 0 where it is good
(R459). -/
def resumeCause (d : Dev) : Nat :=
  let len := d.rn Reg.secFwLen
  let bundle := d.bytes ddrBase len
  let rt := compOf (bundle.take 160) 2
  let c := d.bundleCause bundle len
  if d.readBad ddrBase len then 6
  else if c ≠ 0 then c
  else if sha256 ((bundle.drop rt.2.1).take rt.2.2.1) != rt.2.2.2 then 6
  else 0

end Dev

end Sys2Proof.Machine
end

