-- ==== Sys2Proof/Machine/Power.lean ====
section
/-! DEFINITION. Power states, wake, pads, the governor and the thermal limits (R25, R406-R420, R493, R494). -/

namespace Sys2Proof.Machine

namespace Dev

/-! ## Targets (R408, R412) -/

/-- The wake pattern goes out for 8 µs on the ports in PWR_CTL.WAKE_TX (R412). -/
def sendWave (d : Dev) : Dev :=
  { d with pwr := { d.pwr with wave := d.fld Reg.pwrCtl 19 16, waveEnd := d.tb.tbc + 12800 } }

/-- A write of PWR_CTL (R408, R412, R421): TARGET 0 cancels a waiting entry; codes above 3 name no state (log entry 145). -/
def pwrCtlWrite (v : Nat) (d : Dev) : Dev :=
  let d := d.setReg Reg.pwrCtl (v &&& 0x000F0007)
  let t := v % 8
  let d := if d.basic then d else if t = 0 then d.noTarget
    else if t ≤ 3 then { d with pwr := { d.pwr with target := t } } else d
  if bit v 31 then d.sendWave else d

/-- A timer of R408 expires in its state: time comes to its end, unless an activity or entry has moved it, and its target is
set. A timer of 0 is disabled. -/
def timeout (state from_ tmo unit target : Nat) (d : Dev) : Dev :=
  if d.pwrState ≠ state || tmo = 0 || d.pwr.exitTo.isSome || (state == psIdle && d.pwr.acted) then d else
  (d.advanceTo (from_ + tmo * unit)).setTarget target

/-! ## Entry (R407-R410, R414, R416) -/

/-- A state is entered: its number, its counter, its TBC, and the PWR vector before the link leaves its state (R414). -/
def entered (state counter : Nat) (d : Dev) : Dev :=
  let d := ((d.setFld Reg.pwrStat 18 16 state).bump counter).raiseVector 4
  let d := { d with pwr := { d.pwr with since := d.tb.tbc, acted := false } }
  if d.pwr.target ≤ state then d.noTarget else d

/-- ENTRY_IDLE. -/
def enterIdle (d : Dev) : Dev :=
  if d.pwrState ≠ psRun || !d.entering then d else d.portsLeave.entered psIdle Reg.pwrIdleEntries

/-- Pond banks take their NAP states: RETENTION where POND_NAPKEEP holds them and they have contents, else OFF (R315). -/
def pondNap (d : Dev) : Dev :=
  (List.range 64).foldl (fun (d : Dev) b =>
    let keep := if b < 32 then d.flag Reg.pondNapkeepLo b else d.flag Reg.pondNapkeepHi (b - 32)
    let s := if keep && d.pondState b != 0 then 1 else 0
    let d := { (d.setPondState b s) with pondTo := d.pondTo.set 0 b 0 }
    if s = 0 then d.zeroBank b else d) d

/-- Pond banks take their POND_PWR states; 0b10 stands for no change and reads as ON (R315, R324). -/
def pondWake (d : Dev) : Dev :=
  (List.range 64).foldl (fun (d : Dev) b =>
    let v := d.pondPwr b
    let s := if d.bankOff b then 0 else if v = 2 then 3 else v
    let d := { (d.setPondState b s) with pondTo := d.pondTo.set 0 b 0 }
    if s = 0 then d.zeroBank b else d) d

/-- Ports that have passed their qualification. -/
def passedPorts (d : Dev) : Nat := (List.range 4).foldl (fun v p => v + b2n (d.flag (Reg.lkPortQual p) 1) * 2 ^ p) 0

/-- What the leat ports keep over a power-off: the identity of each partner, and the qualification runs failed (R414, R461). -/
def portsKept (d : Dev) : SMap Port :=
  d.ports.cells.foldl (fun (m : SMap Port) c => m.set {} c.1 { sysid := c.2.sysid, qualFails := c.2.qualFails }) ⟨[]⟩

/-- The INTAKE, LEAT, FLUME and APC domains go off with what they held; open streams are closed (R25, R409, log entry 108). -/
def napOff (d : Dev) : Dev :=
  let d := d.dropLinks
  let d := (List.range 64).foldl (fun (d : Dev) n => d.setReg (Reg.intkStrStat n) 0) ((d.setReg Reg.intkOpenLo 0).setReg Reg.intkOpenHi 0)
  { d with
    flume := d.flumeKept, links := ⟨[]⟩, strms := ⟨[]⟩, ports := d.portsKept, harts := ⟨[]⟩
    cache := [], pfs := [], pfWait := [], pfHist := ⟨[]⟩ }

/-- ENTRY_NAP: the steps of R409, with CLKREQ_N released and the timebase on the PLL source of R359. -/
def enterNap (d : Dev) : Dev :=
  if d.pwrState ≠ psIdle || !d.entering then d else
  let d := d.entered psNap Reg.pwrNapEntries
  let link : PcieLink := if d.pwr.link = .down then .down else .l1
  let pwr : Power := { d.pwr with portsWere := d.passedPorts, link := link }
  let pins : Pins := { d.pins with clkreqN := true }
  let d : Dev := { d with pwr := pwr, pins := pins }
  let d := (d.selfRefresh true).pondNap.napOff
  let d := d.setReg Reg.pwrPadHold (d.rn Reg.pwrPadHold ||| 0x1C)
  if d.refsel = 0 ∨ d.refsel = 3 then d.holdover else d

/-- What is lost with the MP, TB, MILL, JUNC and MEM domains: mailboxes, commands, pulses in progress, the fabric's and the
junction's contents, Pond memory (R25, R409). Their counters stay (R12). VDD_CORE goes off at an XT32 edge, and SENT_CLK times
the trigger outputs from there (R431, log entry 104). -/
def coreOff (d : Dev) : Dev :=
  let mbx : SMap (BitVec 32) := ⟨d.regs.cells.filter (fun c => !(decide (0x10000 ≤ c.1) && decide (c.1 < 0x20000)) ||
    (decide (Reg.mbxDenied ≤ c.1) && decide (c.1 ≤ Reg.vciNaks) && c.1 != Reg.vciStat))⟩
  let chans := d.tb.sysref.cells.foldl (fun (m : SMap Sysref) c => m.set {} c.1 { c.2 with pulseEnd := none, shot := false }) ⟨[]⟩
  let outs := d.trigOuts.cells.foldl (fun (m : SMap TrigOut) c =>
    m.set {} c.1 { c.2 with left := sentPeriods (c.2.fin - d.tb.tbc) }) ⟨[]⟩
  let d := { d with
    regs := mbx
    vci := { binds := d.vci.binds }
    mp := {}
    hostWait := []
    ncs := ⟨[]⟩, routers := ⟨[]⟩, bar := {}, colls := ⟨[]⟩, noticed := 0, jn := {}, ledger := ⟨[]⟩, lineLast := ⟨[]⟩, pondLast := ⟨[]⟩
    trigOuts := outs
    pins := { d.pins with enCore := false, enSd := false, pgMain := false, ppsOut := false, clkOut := false }
    tb := { d.tb with keeper := 0, sent := 0, ppsFall := none, sysref := chans, lineAt := 0, outAt := 0, lineDue := ⟨[]⟩ } }
  let d := (List.range 64).foldl (fun (d : Dev) b => (d.setPondState b 0).zeroBank b) d
  (d.setReg Reg.pwrPadHold (d.rn Reg.pwrPadHold ||| 0x3F)).wipeVault

/-- ENTRY_SENTINEL: state is saved to AON retention, the keeper takes the TBC, and VDD_CORE goes off (R409, R484). -/
def enterSentinel (d : Dev) : Dev :=
  if d.pwrState ≠ psNap || !d.entering then d else (d.entered psSentinel Reg.pwrSentEntries).coreOff

/-! ## Exit (R359, R413-R415) -/

/-- Each SYSREF channel resumes in its mode at its next grid point, at which its pad is released (R416), a pending ONE_SHOT pulse among them; a burst pattern begins
anew (R50, log entry 106). -/
def sysResume (d : Dev) : Dev :=
  (List.range 8).foldl (fun (d : Dev) n =>
    let m := d.sysMode n
    let g := d.gridAt n (d.tb.tbc + 1)
    let next := if m = 1 ∨ m = 2 ∨ (d.sys n).next.isSome then g else none
    (d.setSys n { d.sys n with next := next, gapPos := 0, held := g }).showSys n) d

/-- Identity key and journal MAC key from the device secret (R464, R473). -/
def identity (d : Dev) : Dev :=
  let lc := d.fuses.lc
  if lc < 1 ∨ 3 < lc then d else
  let st : Byte := BitVec.ofNat 8 lc
  let k := hmac d.fuses.secret (ascii "WD4 identity" ++ [st, 1]) ++ (hmac d.fuses.secret (ascii "WD4 identity" ++ [st, 2])).take 16
  let pk := (k.drop 32 ++ Config.slhRoot k).take 32
  let d := (List.range 8).foldl (fun (d : Dev) i => d.setReg (Reg.secIdPk i) (ofBytes ((pk.drop (4 * i)).take 4))) d
  (d.putVault 0 k).putVault 256 (Config.journalKey d.fuses.secret)

/-- Cores that stay in reset (R306, R463). -/
def offCores (d : Dev) : Nat :=
  (List.range 16).foldl (fun v c => v + b2n (d.fuses.bad.contains (kindCore, c) || d.sec.off.contains (kindCore, c)) * 2 ^ c) 0

/-- The cores are released: each starts in M mode at the entry address in its reset vector (R303). -/
def releaseCores (d : Dev) : Dev :=
  let e := (Config.runtimeEntry d.sec.runtime).toNat
  (List.range 16).foldl (fun (d : Dev) k =>
    if bit d.vci.coresDown k || bit d.vci.coresStopped k then d else d.setHart k { held := false, vector := e, pc := e }) d

/-- The timebase has its clock again: the TBC goes on from the keeper's time, and the trigger outputs time what is left of their
pulses in TB_CLK periods (R61, R431). -/
def tbBack (d : Dev) : Dev :=
  let now := d.captureTime
  let outs := d.trigOuts.cells.foldl (fun (m : SMap TrigOut) c =>
    m.set {} c.1 { c.2 with since := 0, fin := now + ceilDiv (c.2.left * 3125) 24, left := 0 }) ⟨[]⟩
  { d with tb := { d.tb with tbc := now, sent := 0, keeper := 0 }, trigOuts := outs }

/-- The resume from SENTINEL verifies the bundle in DDR5; a bundle that fails stops it until a whole-device reset (R459, log
entry 58). -/
def resumeFails (d : Dev) (cause : Nat) : Dev :=
  let d := ((d.setFld Reg.secBootStat 11 8 cause).setFlag Reg.secBootStat 31 false).selfRefresh true
  { d with pwr := { d.pwr with exitTo := none } }

/-- An exit is complete (R413, R414, R417, R459, R472). From SENTINEL it needs the supplies and a good bundle; the timebase is in
HOLDOVER, or FREE without a reference (R61). A Vault that a tamper has wiped stays empty. -/
def exitDone (d : Dev) : Dev :=
  match d.pwr.exitTo with
  | none => d
  | some _ =>
    let deep := decide (d.pwrState = psSentinel)
    if deep && (!d.pins.pgMain || !d.pins.enSd) then d else
    let cause := if deep then (d.selfRefresh false).resumeCause else 0
    if cause ≠ 0 then (d.readChecks ddrBase (d.rn Reg.secFwLen)).resumeFails cause else
    let d := if deep then d.tbBack else d
    let d := { d with pwr := { d.pwr with exitTo := none, since := d.tb.tbc, acted := false } }.setFld Reg.pwrStat 18 16 psIdle
    let d := (d.selfRefresh false).pondWake
    let d := if d.refsel = 0 then (if d.tbState = 3 ∨ deep then d.freeRun else d) else if deep then d.holdover else d
    let d := if !deep then d else if d.sec.tampered then d.sysResume else d.sysResume.identity
    let d := (if deep then { d with mp := { held := false }, vci := { d.vci with coresDown := d.offCores } } else d).releaseCores
    -- the host is told of an exit from SENTINEL once it has brought the link to L0
    let d := if deep && d.pwr.link != .l0 then { d with pwr := { d.pwr with exitTold := true } } else d.raiseVector 4
    if d.sec.tampered then d.enterBasic else d

/-- IDLE_ACTIVITY_EXIT: an activity since the entry ends IDLE; qualified ports carry traffic again (R330, R411). -/
def idleExit (d : Dev) : Dev :=
  if d.pwrState ≠ psIdle || !d.pwr.acted then d else
  let d := { d with pwr := { d.pwr with since := d.tb.tbc } }.setFld Reg.pwrStat 18 16 psRun
  ((List.range 4).foldl (fun (d : Dev) p => d.refreshUse p) d).raiseVector 4

/-- The host starts the link's exit toward L0: from L1.2 in NAP, or by deasserting PERST_N in SENTINEL, it is the wake source
PCIE (R411, R413). -/
def linkWakes (d : Dev) : Dev :=
  if (d.pwrState = psNap ∧ d.pwr.link = .l1) ∨ (d.pwrState = psSentinel ∧ d.pins.perstN = false ∧ d.pwr.exitTo.isNone) then wake [.pcie] d
  else { d with pins := { d.pins with perstN := true } }

/-- The host moves the PCIe link: 0 L0, 1 L1, 2 L2 (R358, R359, R408). In L0 PERST_N is deasserted and WAKE_N released (R413); in
SENTINEL the link reaches it only once an exit has begun. L2 is reached from a link that is up. -/
def pcieLink (state : Nat) (d : Dev) : Dev :=
  let setLink (l : PcieLink) (d : Dev) : Dev := { d with pwr := { d.pwr with link := l } }
  if state = 0 then
    let off := decide (d.pwrState = psSentinel) && d.pwr.exitTo.isNone
    let d := d.linkWakes
    if off then d else
    let d := { (setLink .l0 d) with pins := { d.pins with perstN := true, wakeN := true } }
    let d := (d.setFlag Reg.hifStat 0 true).setFlag Reg.pwrPadHold 5 false
    if d.pwr.exitTold then { d with pwr := { d.pwr with exitTold := false } }.raiseVector 4 else d
  else if d.pwr.link = .down ∨ d.pwrState = psSentinel then d
  else if state = 1 then setLink .l1 d
  else setLink .l2 d

/-- PAD_RELEASE (R416, R417): the MP releases the DDR5 pads after self-refresh, when their domain drives the latched level; a
release that finds another level is counted. The other groups are released by their own events, and their domains drive the
latched levels there (log entry 134). -/
def padRelease (g : Nat) (agrees : Bool) (d : Dev) : Dev :=
  let back := decide (d.pwrState ≤ psIdle)
  if g ≠ 2 || !d.flag Reg.pwrPadHold g || !back then d
  else if agrees then d.setFlag Reg.pwrPadHold g false
  else d.bump Reg.pwrPadMismatch

/-! ## The governor (R418-R420) -/

/-- The cap that the governor uses, in 1/80 W: at the thermal throttle 0.80 of it (R420). -/
def govCap (d : Dev) : Nat := d.rn Reg.pwrCap * (if d.flag Reg.pwrStat 4 then 64 else 80)

/-- A clock can step down: 0 APC_CLK to half of its SET_CLOCK value, 1 FLUME_CLK and 2 RACE_CLK to 200 MHz. -/
def canStep (d : Dev) (k : Nat) : Bool :=
  if k = 0 then (List.range 16).any (fun c => decide (d.pwr.setApc.get 0 c < 2 * d.apcClk c))
  else if k = 1 then decide (200 < d.flumeClk) else decide (200 < d.raceClk)

/-- One step down of a clock (log entry 145). -/
def stepDown (k : Nat) (d : Dev) : Dev :=
  if k = 0 then (List.range 16).foldl (fun (d : Dev) c =>
    let half := (d.pwr.setApc.get 0 c + 1) / 2
    if d.apcClk c ≤ half then d else d.takeApc c (max half (d.apcClk c - 100))) d
  else if k = 1 then d.takeFlume (max 200 (d.flumeClk - 50))
  else d.takeRace (max 200 (d.raceClk - 50))

/-- One step of a clock is undone; the last undone step of a clock brings it to its SET_CLOCK value (log entry 27). -/
def stepUp (k : Nat) (last : Bool) (d : Dev) : Dev :=
  let up (now set step : Nat) : Nat := if last then set else min set (now + step)
  if k = 0 then (List.range 16).foldl (fun (d : Dev) c => d.takeApc c (up (d.apcClk c) (d.pwr.setApc.get 0 c) 100)) d
  else if k = 1 then d.takeFlume (up d.flumeClk d.pwr.setFlume 50)
  else d.takeRace (up d.raceClk d.pwr.setRace 50)

/-- PWR_STAT.THROTTLE. -/
def showThrottle (d : Dev) : Dev := d.setFlag Reg.pwrStat 3 d.throttled

/-- GOVERNOR_ESTIMATE: the 100 µs mean in 1/16 W; above the cap in force a step is taken (R418, R419). -/
def governEst (mean : Nat) (d : Dev) : Dev :=
  if d.basic then d else
  let d := d.maxReg Reg.pwrEstPeak mean
  if mean * 5 ≤ d.govCap then d else
  let order := if d.flag Reg.pwrGovCtl 0 then [1, 0, 2] else [0, 1, 2]
  match order.find? d.canStep with
  | none => d
  | some k =>
    let d := (stepDown k d).bump Reg.pwrThrottleSteps
    { d with pwr := { d.pwr with steps := k :: d.pwr.steps } }.showThrottle

/-- GOVERNOR_RESTORE: the 1 ms mean in 1/16 W; below 0.95 of the cap in force the newest step is undone (R419). -/
def governUp (mean : Nat) (d : Dev) : Dev :=
  if d.basic then d else
  let d := d.setReg Reg.pwrEst mean
  match d.pwr.steps with
  | [] => d
  | k :: ks =>
    if d.govCap * 95 ≤ mean * 500 then d else
    let d := { (stepUp k (!ks.contains k) d) with pwr := { (stepUp k (!ks.contains k) d).pwr with steps := ks } }
    d.showThrottle

/-! ## Temperature (R420, R493, R494) -/

/-- The hottest of a list of readings, in 1/8 °C, with its sensor; the lowest sensor of equal ones (log entry 145). -/
def hottest : List (Int × Nat) → Option (Int × Nat)
  | [] => none
  | x :: xs =>
    match hottest xs with
    | none => some x
    | some y => some (if x.1 < y.1 then y else x)

/-- THERMAL and its count of milliseconds, a hundred samples each (R420). -/
def thermal (tj : Int) (d : Dev) : Dev :=
  let lim : Int := 8 * signedOf 8 (d.fld Reg.pwrTlim 15 8)
  let was := d.flag Reg.pwrStat 4
  let cool := if tj ≤ lim - 24 then d.pwr.coolRun + 1 else 0
  let on := if lim ≤ tj then true else was && decide (cool < 1000)
  let hot := if on then d.pwr.hotRun + 1 else d.pwr.hotRun
  let d := { d with pwr := { d.pwr with coolRun := cool, hotRun := hot % 100 } }
  let d := if hot = 100 then d.bump Reg.pwrThermalMs else d
  d.setFlag Reg.pwrStat 4 (on && !d.basic)

/-- THERMAL_SAMPLE: the sixteen sensors, signed, in 1/8 °C. After a trip the diode alone is read. A tamper and a trip in one
reading both apply (R494). -/
def thermalSample (l : List (BitVec 16)) (d : Dev) : Dev :=
  match hottest (((l.take 16).map (·.toInt)).zipIdx) with
  | none => d
  | some x =>
    -- the tamper source TEMP fires as the temperature passes its threshold (R472, R493)
    let d := if tamperTemp < x.1 && decide (signedOf 16 (d.fld Reg.pwrTj 15 0) ≤ tamperTemp) then d.tampered .temp else d
    let d := d.setReg Reg.pwrTj (x.2 * 65536 + unsignedOf 16 x.1)
    let d := if signedOf 16 (d.fld Reg.pwrTjMax 15 0) < x.1 then d.setReg Reg.pwrTjMax (unsignedOf 16 x.1) else d
    if !d.pins.thermtripN then d else
    let d := thermal x.1 d
    let run := if 8 * signedOf 8 (d.fld Reg.pwrTlim 23 16) ≤ x.1 then d.pwr.tripRun + 1 else 0
    let d := { d with pwr := { d.pwr with tripRun := run } }
    if 2 ≤ run then d.trip else d

end Dev

open Dev

/-- POWER_TARGET_WRITE (R408). -/
def execPowerTargetWrite (v : Word) (s : State) : Host.Outcome State Fault Refusal := onReg Reg.pwrCtl (pwrCtlWrite v.toNat) s

/-- WAKE_PATTERN_SEND (R412). -/
def execWakePatternSend (s : State) : Host.Outcome State Fault Refusal := onReg Reg.pwrCtl Dev.sendWave s

/-- IDLE_TIMEOUT (R408). -/
def execIdleTimeout (s : State) : Host.Outcome State Fault Refusal :=
  onDev (fun d => timeout psRun d.pwr.lastAct (d.rn Reg.pwrIdleTmo) 1600 psIdle d) s

/-- NAP_TIMEOUT (R408). -/
def execNapTimeout (s : State) : Host.Outcome State Fault Refusal :=
  onDev (fun d => timeout psIdle d.pwr.since (d.rn Reg.pwrNapTmo) 1600000 psNap d) s

/-- SENTINEL_TIMEOUT (R408). -/
def execSentinelTimeout (s : State) : Host.Outcome State Fault Refusal :=
  onDev (fun d => timeout psNap d.pwr.since (d.rn Reg.pwrSentTmo) 1600000000 psSentinel d) s

/-- ENTRY_IDLE (R408). -/
def execEntryIdle (s : State) : Host.Outcome State Fault Refusal := onDev Dev.enterIdle s

/-- ENTRY_NAP (R409). -/
def execEntryNap (s : State) : Host.Outcome State Fault Refusal := onDev Dev.enterNap s

/-- ENTRY_SENTINEL (R409). -/
def execEntrySentinel (s : State) : Host.Outcome State Fault Refusal := onDev Dev.enterSentinel s

/-- WAKE (R410, R411). -/
def execWake (srcs : List WakeSource) (s : State) : Host.Outcome State Fault Refusal := onDev (wake srcs) s

/-- LEAT_WAKE_PATTERN: a closed by-pass passes it on outside the main die (R412). -/
def execLeatWakePattern (port : Fin 4) (s : State) : Host.Outcome State Fault Refusal := onDev (wake [.leat port]) s

/-- SIDEBAND_ADDRESS_MATCH (R380). -/
def execSidebandAddressMatch (s : State) : Host.Outcome State Fault Refusal := onDev (wake [.sideband]) s

/-- EXIT_COMPLETE (R413). -/
def execExitComplete (s : State) : Host.Outcome State Fault Refusal := onDev Dev.exitDone s

/-- IDLE_ACTIVITY_EXIT (R411). -/
def execIdleActivityExit (s : State) : Host.Outcome State Fault Refusal := onDev Dev.idleExit s

/-- PCIE_LINK_POWER_STATE_CHANGE (R408). -/
def execPcieLinkPowerStateChange (state : Fin 3) (s : State) : Host.Outcome State Fault Refusal := onDev (pcieLink state) s

/-- PAD_RELEASE (R417). -/
def execPadRelease (group : Fin 6) (agrees : Bool) (s : State) : Host.Outcome State Fault Refusal :=
  onDev (padRelease group agrees) s

/-- GOVERNOR_ESTIMATE (R418). -/
def execGovernorEstimate (mean : BitVec 16) (s : State) : Host.Outcome State Fault Refusal := onDev (governEst mean.toNat) s

/-- GOVERNOR_RESTORE (R419). -/
def execGovernorRestore (mean : BitVec 16) (s : State) : Host.Outcome State Fault Refusal := onDev (governUp mean.toNat) s

/-- THERMAL_SAMPLE (R493). -/
def execThermalSample (sensors : List (BitVec 16)) (s : State) : Host.Outcome State Fault Refusal :=
  onDev (thermalSample sensors) s

end Sys2Proof.Machine
end

