-- ==== Sys2Proof/Machine/Errors.lean ====
section
/-! DEFINITION. Stored-data integrity: what each memory does on an error, the MP's handling of log entries, the Dredger and
the DDR5 patrol (R435-R454, R505). -/

namespace Sys2Proof.Machine

namespace Dev

/-! ## Sites: unit, SOURCE, INDEX and ADDR of an entry (R439, R444, R446) -/

/-- The unit whose log takes an error. -/
def siteUnit : Site → Nat
  | .flumeCell .. => unitFlume
  | .stagingBank .. => unitFlume
  | .tailgateLane .. => unitFlume
  | .inputBuffer .. => unitJunction
  | .ncNeuron nc _ => nc
  | .ncPset nc _ _ => nc
  | .ncDecay nc _ _ => nc
  | .ncAcc nc _ _ => nc
  | .ncHeader nc _ => nc
  | .ncSynapse nc _ _ => nc
  | .ncCache nc _ _ => nc
  | .ncAxon nc _ => nc
  | .ncControl nc _ => nc
  | .ncLearn nc _ => nc
  | .router nc _ => nc
  | .trainStore .. => unitJunction
  | .windowCounter _ => unitJunction
  | .junctionMap _ => unitJunction
  | .intake .. => unitIntake
  | .pond .. => unitCache
  | .deltaStore _ => unitCache
  | .cacheClean _ => unitCache
  | .cacheModified _ => unitCache
  | .cacheTag _ => unitCache
  | .ddrLine _ => unitDdr
  | .coreClean c _ _ => 0x110 + c
  | .coreModified c _ _ => 0x110 + c
  | .mpMemory _ => unitMp
  | .vault _ => unitMp
  | .sentinelNeuron _ => unitSentinel
  | .sentinelOther _ => unitSentinel

/-- The Dredger's memory kind of a site (R444); a memory that it never reads has none. -/
def siteKind : Site → Option Nat
  | .flumeCell _ _ sram _ => some (b2n sram)
  | .ncNeuron .. => some 2
  | .ncHeader .. => some 3
  | .ncSynapse .. => some 3
  | .ncCache .. => some 3
  | .ncPset .. => some 4
  | .ncDecay .. => some 4
  | .ncAxon .. => some 4
  | .ncLearn .. => some 4
  | .windowCounter _ => some 5
  | .junctionMap _ => some 5
  | .deltaStore _ => some 5
  | .pond .. => some 6
  | .cacheClean _ => some 7
  | .cacheModified _ => some 7
  | .cacheTag _ => some 8
  | .coreClean _ l2 _ => if l2 then some 9 else none
  | .coreModified _ l2 _ => if l2 then some 9 else none
  | .sentinelNeuron _ => some 10
  | .sentinelOther _ => some 10
  | .ddrLine _ => some 11
  | _ => none

/-- Classes of memories that the manual gives no number (log entry 29). -/
def siteClass : Site → Nat
  | .stagingBank .. => 0
  | .tailgateLane .. => 1
  | .inputBuffer .. => 2
  | .ncAcc .. => 3
  | .ncControl .. => 4
  | .router .. => 5
  | .trainStore .. => 6
  | .intake _ m _ => 7 + m
  | .coreClean .. => 10
  | .coreModified .. => 10
  | .mpMemory _ => 11
  | .vault _ => 12
  | .ncPset .. => 13
  | .ncDecay .. => 14
  | .windowCounter _ => 15
  | .junctionMap _ => 16
  | .ncLearn .. => 18
  | _ => 17

/-- SOURCE. -/
def siteSource (s : Site) : Nat :=
  match siteKind s with
  | some k => k
  | none => (Config.errSource (siteClass s)).toNat

/-- Device address of a word of the delta store (R277). -/
def deltaWord (d : Dev) (w : Nat) : Nat := d.jn.deltaBase + 2 * w

/-- The bank word of a cached row's word: the cache fills the top K words of the synapse memory, and which of its lines a row
takes is free (R201, R210, log entry 139). -/
def cacheBank (d : Dev) (n h w : Nat) : Nat :=
  (524288 - d.ncK n) / 4 + (Config.cacheLine n h (w / 32)).toNat % max 1 (d.ncK n / 32) * 8 + w % 32 / 4

/-- INDEX: cell, column, bank, stream, channel or core; 0 where the source has none. -/
def siteIndex (d : Dev) : Site → Nat
  | .flumeCell r c _ _ => r * 256 + c
  | .stagingBank _ c _ => c
  | .tailgateLane _ c _ _ => c
  | .inputBuffer _ c _ _ => c
  | .ncSynapse _ w _ => w.toNat % 4
  | .ncHeader _ h => h.toNat % 4
  | .ncCache n h w => d.cacheBank n h.toNat w.toNat % 4
  | .deltaStore w => d.deltaWord w.toNat / 0x80000
  | .trainStore s _ _ => s
  | .intake s _ _ => s
  | .pond b _ => b
  | .ddrLine l => d.ddrChannel (l.toNat * 64)
  | .coreClean c _ _ => c
  | .coreModified c _ _ => c
  | _ => 0

/-- ADDR: the word or line within the memory; a row header is a bank word (R201). -/
def siteAddr (d : Dev) (s : Site) : Nat :=
  let odd (i : Nat) : Nat := (Config.errAddr (siteClass s) i).toNat
  match s with
  | .flumeCell _ _ _ w => w.toNat
  | .stagingBank _ _ w => odd w
  | .tailgateLane _ _ l w => odd (4 * w + l)
  | .inputBuffer _ _ l w => odd (4 * w + l)
  | .ncNeuron _ n => n
  | .ncPset _ _ w => odd w
  | .ncDecay _ _ e => odd e
  | .ncAcc _ p n => accKey p n
  | .ncHeader _ h => h.toNat
  | .ncSynapse _ w _ => w.toNat
  | .ncCache n h w => d.cacheBank n h.toNat w.toNat
  | .ncAxon _ n => n
  | .ncControl _ w => w.toNat
  | .ncLearn _ i => odd i.toNat
  | .router _ w => w.toNat
  | .trainStore _ e a => odd (65536 * e + a.toNat)
  | .windowCounter i => odd i
  | .junctionMap i => odd i.toNat
  | .intake _ _ w => w.toNat
  | .pond _ l => l
  | .deltaStore w => d.deltaWord w.toNat % 0x80000 / 64
  | .cacheClean l => l.toNat
  | .cacheModified l => l.toNat
  | .cacheTag w => w.toNat
  | .ddrLine l => l.toNat
  | .coreClean _ _ w => w.toNat
  | .coreModified _ _ w => w.toNat
  | .mpMemory w => w.toNat
  | .vault w => w.toNat
  | .sentinelNeuron n => 4 * n
  | .sentinelOther w => w.toNat

/-- The class of an error (R440): flume memories are DATA between jobs. -/
def siteCls (d : Dev) : Site → Nat
  | .flumeCell .. => if d.jobOn then clsFail else clsData
  | .ncControl .. => clsFail
  | .ncLearn .. => clsFail
  | .coreModified .. => clsFail
  | .router .. => clsFatal
  | .cacheTag _ => clsFatal
  | .mpMemory _ => clsFatal
  | .vault _ => clsFatal
  | _ => clsData

/-- The memory of a site is powered and present: AON always, the MP's memories outside SENTINEL, others in RUN and IDLE (R2,
R406, R421). -/
def siteLives (d : Dev) (s : Site) : Bool :=
  match s with
  | .sentinelNeuron _ => true
  | .sentinelOther _ => true
  | .mpMemory _ => d.pwrState != psSentinel
  | .vault _ => d.pwrState != psSentinel
  | .flumeCell r c _ _ => decide (d.pwrState ≤ 1) && (decide (c.val < 48) || !d.isC2) && (!d.jobOn || d.powered r.val c.val)
  | .pond b _ => decide (d.pwrState ≤ 1) && d.pondOn b
  | .deltaStore w => decide (d.pwrState ≤ 1) && decide (w.toNat < 64 * d.deltaSpan) && d.placeOf (d.deltaWord w.toNat) 2 == .pond
  | .cacheClean l => decide (d.pwrState ≤ 1) && d.cache.any (fun x => x.line == l.toNat && x.under.isEmpty)
  | .cacheModified l => decide (d.pwrState ≤ 1) && d.cache.any (fun x => x.line == l.toNat && !x.under.isEmpty)
  | .ddrLine l => decide (d.pwrState ≤ 1) && d.isDdr (ddrBase + l.toNat * 64)
  | .coreModified c _ _ => decide (d.pwrState ≤ 1) && !bit d.vci.coresStopped c
  | .coreClean c _ _ => decide (d.pwrState ≤ 1) && !bit d.vci.coresStopped c
  | _ => decide (d.pwrState ≤ 1) && !(decide (siteUnit s < 256) && d.absentReg (Reg.ncStat (siteUnit s)))

/-! ## Golden copies (R440, R442) -/

/-- The loaded package, and the NC record of an NC in it. -/
def golden (d : Dev) : List Byte := d.bytes d.vci.pkg.addr d.vci.pkg.len
def goldenNc (d : Dev) (n : Nat) : Option (List Byte × NcRec) :=
  ((secsOf d.golden 3).flatMap (fun q => ((coreRecs q).filter (fun r => r.nc == n)).map (fun r => (q, r)))).head?

/-- A synapse-memory word of the package, 0 beyond its image. -/
def goldenSyn (q : List Byte) (r : NcRec) (w : Nat) : Nat := if 2 * w < r.synLen then fldAt q (r.at_ + 34848 + 2 * w) 2 else 0

/-- The plastic on-die row that holds a word (R251). -/
def plasticRow (x : Nc) (h w : Nat) : Option Nat :=
  (List.range h).find? (fun i =>
    let v := headerOf x i
    hdValid v && !hdCist v && hdPlastic v && decide (hdAddr v ≤ w) && decide (w < hdAddr v + hdLen v))

/-- A synapse bank word is restored: from the newest checkpoint copy for a plastic row, else from golden; MPRE of a prefix
becomes 0 (R442). -/
def restoreSyn (d : Dev) (n bw : Nat) : Dev :=
  let x := d.nc n
  let row := plasticRow x (d.ncH n) (4 * bw)
  let word (i : Nat) : Nat :=
    let gold := match d.goldenNc n with
      | some g => goldenSyn g.1 g.2 i
      | none => x.syn.get 0 i
    match row, d.bestCopy n with
    | some _, some c => if 2 * i < c.2.2 then d.num (c.2.1 + 266240 + 2 * i) 2 else 0
    | _, _ => gold
  let isPre (i : Nat) : Bool := match row with
    | some h => i == hdAddr (headerOf x h) + 3
    | none => false
  let syn := (List.range 4).foldl (fun (m : SMap Nat) j =>
    let i := 4 * bw + j
    m.set 0 i (if isPre i then word i / 8 * 8 else word i)) x.syn
  d.setNc n { x with syn := syn, badSyn := x.badSyn.set 0 bw 0 }

/-- A Cistern line is rewritten from golden (R443). -/
def rewriteCistern (d : Dev) (a : Nat) : Dev :=
  if a < d.cistBase ∨ d.cistBase + d.cistBytes ≤ a then d else
  let o := a - d.cistBase
  let p := d.golden
  match ((pkgSections p).filter (fun s => s.kind == 6 && s.index == o / 0x40000000)).head? with
  | some s => if o % 0x40000000 < s.len then d.putBytes a (part p (s.off + o % 0x40000000) (min 64 (s.len - o % 0x40000000))) else d
  | none => d

/-! ## The immediate part (R440, R441, R450) -/

/-- A FATAL error: the unit is recorded, and the device enters basic mode. -/
def fatal (d : Dev) (u : Nat) : Dev := if d.basic then d else (d.setReg Reg.errStat (2 ^ 31 + u)).enterBasic

/-- A neuron is reset to rest (R441). -/
def resetNeuron (n i : Nat) (d : Dev) : Dev :=
  let init := match d.goldenNc n with
    | some g => if 16 * i < g.2.stLen then fldAt g.1 (g.2.at_ + 34848 + g.2.synLen + g.2.axLen + 16 * i) 16 else 0
    | none => 0
  (d.setNeu n i (neuOf (restWord (d.rn (Reg.ncTick n)) init))).bump (Reg.ncNresets n)

/-- A Sentinel neuron is reset to rest: its core has no core map (R427, R440). -/
def resetSentinel (i : Nat) (d : Dev) : Dev :=
  let w := neuWord ⟨0, 0, (d.rn Reg.senTick + 2 ^ 32 - 1) % 2 ^ 32, 0, 0, 0, false, 0⟩
  let sen : Sen := { d.sen with state := d.sen.state.set 0 i w }
  { d with sen := sen }

/-- A word of a list of words becomes 0. -/
def zeroWord (l : List Nat) (i : Nat) : List Nat := l.set i 0

/-- A tailgate word of a frame becomes 0. -/
def zeroOut (f : Frame) (c l w : Nat) : Frame := { f with out := f.out.set [] (c * 4 + l) (zeroWord (f.out.get [] (c * 4 + l)) w) }

/-- An NC fails: it stops at once (R190). -/
def ncFails (n : Nat) (d : Dev) : Dev :=
  let x := d.nc n
  if x.failed then d else d.setNc n { x with failed := true, failTick := d.openTick }

/-- MEM_ERR in the frames of a stream (R452). -/
def markStream (d : Dev) (s : Nat) : Dev := d.markMem (fun f => f.stream == s) (fun n _ => n == s)

/-- A line of the Pond memory fails its check until it is written. -/
def failLine (d : Dev) (a : Nat) : Dev := (d.setBadLine (a / 64 * 64) true).markLine (a / 64 * 64)

/-- A modified line of the system cache is dropped: what DDR5 holds under it is what is read from then on (R440). -/
def dropModified (d : Dev) (line : Nat) : Dev :=
  let a := ddrBase + line * 64
  let old := (d.cache.filter (fun c => c.line == line)).flatMap (·.under)
  Dev.markLine { d with mem := d.mem.setMany 0 a old, cache := d.cache.filter (fun c => c.line != line) } a

/-- A clean line of a core's caches is invalidated. The places of L1 are those of L1I, then those of L1D (log entry 139). -/
def dropCore (d : Dev) (c : Nat) (l2 : Bool) (w : Nat) : Dev :=
  let h := d.hart c
  d.setHart c (if l2 then { h with l2 := h.l2.set {} (w % 32768) {} }
    else if w % 2048 < 1024 then { h with l1i := h.l1i.set {} (w % 1024) {} }
    else { h with l1d := h.l1d.set {} (w % 1024) {} })

/-- What the unit does at once. -/
def immediate (s : Site) (d : Dev) : Dev :=
  match s with
  | .flumeCell r c _ _ =>
    if d.jobOn then
      let d := (d.setCell r c { d.cell r c with failed := true }).setFlag Reg.flmStat 7 true
      let fl : Flume := { d.flume with
        failing := true
        dead := if d.flume.dead.contains (cellKey r c) then d.flume.dead else d.flume.dead ++ [cellKey r c] }
      { d with flume := fl }
    else d
  | .stagingBank k c w =>
    -- the banks of the admitted frames, then of the staged ones
    let fl : Flume := { d.flume with
      recs := (d.flume.recs.zipIdx).map (fun (x : AdmitRec × Nat) =>
        if x.2 = k then { x.1 with fr := zeroIn x.1.fr c w } else x.1)
      staged := (d.flume.staged.zipIdx d.flume.recs.length).map (fun (x : Staged × Nat) =>
        if x.2 = k then { x.1 with lost := x.1.lost ++ [(c.val, w)] } else x.1) }
    { d with flume := fl }
  | .tailgateLane k c l w =>
    let fl : Flume := { d.flume with recs := (d.flume.recs.zipIdx).map (fun (x : AdmitRec × Nat) =>
      if x.2 = k then { x.1 with fr := zeroOut x.1.fr c l w } else x.1) }
    { d with flume := fl }
  | .inputBuffer k c l w =>
    let fl : Flume := { d.flume with
      bufErrs := d.flume.bufErrs + 1
      passed := (d.flume.passed.zipIdx).map (fun (x : (Frame × Bool) × Nat) => if x.2 = k then (zeroOut x.1.1 c l w, x.1.2) else x.1) }
    -- the frames that await their verdict, then those whose output the junction has not read
    let jn : Junction := { d.jn with eligible := (d.jn.eligible.zipIdx d.flume.passed.length).map (fun (x : JFrame × Nat) =>
      if x.2 = k then { x.1 with fr := zeroOut x.1.fr c l w } else x.1) }
    { d with flume := fl, jn := jn }
  | .ncNeuron n i => d.resetNeuron n i
  | .ncPset n i _ => d.resetNeuron n i
  | .ncDecay n i _ => d.resetNeuron n i
  | .ncAcc n p i =>
    let x := d.nc n
    d.setNc n { x with acc := x.acc.set 0 (accKey p i) 0 }
  | .ncHeader n h =>
    let x := d.nc n
    d.setNc n { x with badHeaders := if x.badHeaders.contains h.toNat then x.badHeaders else x.badHeaders ++ [h.toNat] }
  | .ncSynapse n w m =>
    let x := d.nc n
    d.setNc n { x with badSyn := x.badSyn.set 0 w.toNat (x.badSyn.get 0 w.toNat ||| m.toNat) }
  | .ncCache n h _ =>
    let x := d.nc n
    if !x.cached.any (fun c => c.header == h.toNat) then d
    else (d.setNc n { x with cached := x.cached.filter (fun c => c.header != h.toNat) }).startFetch n h.toNat
  | .ncAxon n i =>
    let x := d.nc n
    d.setNc n { x with badAxons := if x.badAxons.contains i.val then x.badAxons else x.badAxons ++ [i.val] }
  | .ncControl n _ => d.ncFails n
  | .ncLearn n _ => d.ncFails n
  | .router n _ => d.fatal n
  | .trainStore st e a =>
    let jn : Junction := { d.jn with active := d.jn.active.map (fun (f : JFrame) =>
      if f.fr.stream = st then { f with trains := f.trains.filter (fun t => !(t.enc == e.val && t.axon == a.toNat)) } else f) }
    { d with jn := jn }
  | .windowCounter i =>
    let jn : Junction := { d.jn with wctr := d.jn.wctr.set 0 i 0 }
    { d with jn := jn }
  | .junctionMap _ => d
  | .intake st _ _ => d.markStream st
  | .pond b l => d.failLine (b * 0x80000 + l * 64)
  | .deltaStore w => d.failLine (d.deltaWord w.toNat)
  | .cacheClean l => { d with cache := d.cache.filter (fun c => c.line != l.toNat) }
  | .cacheModified l => d.dropModified l.toNat
  | .cacheTag _ => d.fatal unitCache
  | .ddrLine l =>
    let o := l.toNat * 64
    ((d.bump (Reg.ddrRdErr (d.ddrChannel o))).setBadLine (ddrBase + o) true).markLine (ddrBase + o)
  | .coreClean c l2 w => d.dropCore c l2 w.toNat
  | .coreModified c _ _ => { d with vci := { d.vci with coresStopped := putBits d.vci.coresStopped c c 1 } }
  | .mpMemory _ => d.fatal unitMp
  | .vault _ => d.wipeVault.fatal unitMp
  | .sentinelNeuron i => d.resetSentinel i
  | .sentinelOther _ => d

/-- A failed check: logged, and its immediate part taken, whether appended, coalesced or lost (R440, R447). -/
def checkFails (s : Site) (byDredger : Bool) (d : Dev) : Dev :=
  (d.logError (siteUnit s) (d.siteCls s) (siteSource s) (d.siteIndex s) (d.siteAddr s) byDredger (some s)).immediate s

/-! ## Handling (R449, R403, R303) -/

/-- The physical column of a logical one (R87). -/
def physColumn (d : Dev) (c : Nat) : Nat :=
  let h := c / 48 * 50
  let good := (List.range 50).filter (fun k => !d.flag (Reg.flmColmap ((h + k) / 32)) ((h + k) % 32))
  h + (good.drop (c % 48)).headD (c % 48)

/-- A failed NC is marked down, and the host is told (R190, R243, R403). -/
def markDown (d : Dev) (n : Nat) : Dev :=
  if d.flag (Reg.ncStat n) 7 then d else
  let d := (d.setFlag (Reg.ncStat n) 7 true).setFlag (Reg.rtStat n) 0 true
  d.postEvent 1 [n, n * 16384, 16384, (d.nc n).failTick, d.openTick, d.rn Reg.lrnCkptSeq, d.rn (Reg.rtUndeliv n)]

/-- The restore part of a word's response. -/
def restore (s : Site) (d : Dev) : Dev :=
  match s with
  | .flumeCell r c sram w =>
    if d.flume.dead.contains (cellKey r c) then
      let d := { d with flume := { d.flume with dead := d.flume.dead.filter (· != cellKey r c) } }
      (d.fieldFailure kindColumn (d.physColumn c) (b2n sram + 256 * w.toNat)).jobFault 2 (r * 256 + c) d.flume.ecc
    else d
  | .ncPset n _ w => match d.goldenNc n with
    | some g =>
      let v := recPset g.1 g.2 (w / 8) (w % 8)
      if w % 8 = 0 then d.setReg (Reg.ncPset0 n (w / 8)) v
      else if w % 8 = 1 then d.setReg (Reg.ncPset1 n (w / 8)) v
      else if w % 8 = 2 then d.setReg (Reg.ncPset2 n (w / 8)) v else d
    | none => d
  | .ncDecay n _ e => match d.goldenNc n with
    | some g =>
      let x := d.nc n
      d.setNc n { x with decay := x.decay.set 0 e (fldAt g.1 (g.2.at_ + 2080 + 2 * e) 2) }
    | none => d
  | .ncHeader n h => match d.goldenNc n with
    | some g =>
      let x := d.nc n
      let syn := (List.range 4).foldl (fun (m : SMap Nat) j => m.set 0 (4 * h.toNat + j) (goldenSyn g.1 g.2 (4 * h.toNat + j))) x.syn
      d.setNc n { x with syn := syn, badHeaders := x.badHeaders.filter (· != h.toNat) }
    | none => d
  | .ncSynapse n w _ => d.restoreSyn n w.toNat
  | .ncAxon n i => match d.goldenNc n with
    | some g =>
      let x := d.nc n
      let v := if 16 * i.val < g.2.axLen then fldAt g.1 (g.2.at_ + 34848 + g.2.synLen + 16 * i) 16 else 0
      d.setNc n { x with axon := x.axon.set 0 i v, badAxons := x.badAxons.filter (· != i.val) }
    | none => d
  | .ncControl n _ => d.markDown n
  | .ncLearn n _ => d.markDown n
  | .junctionMap _ =>
    let p := secOf d.golden 5
    if p.isEmpty then d else
    let jn : Junction := { d.jn with
      lanes := SMap.setMany {} ⟨[]⟩ 0 ((List.range 384).map (laneAt p))
      wins := SMap.setMany {} ⟨[]⟩ 0 ((List.range 64).map (winAt p))
      gathers := SMap.setMany {} ⟨[]⟩ 0 ((List.range 16).map (gatherAt p)) }
    { d with jn := jn }
  | .ddrLine l => d.rewriteCistern (ddrBase + l.toNat * 64)
  | .coreModified c l2 w =>
    ((d.coreDown c).receiverReset (4 + c)).fieldFailure kindCore c (b2n l2 + 256 * w.toNat)
  | _ => d

/-- What the MP does for an EVENT entry: it reports a schedule fault or a leat port that went down (R113, R346, R402). -/
def reportEvent (u e : Nat) (d : Dev) : Dev :=
  let src := bits e 15 8
  let index := bits e 31 16
  if u = unitFlume then
    d.jobFault 1 (d.rn Reg.flmFaultCell) (d.rn64 Reg.flmFaultEccLo Reg.flmFaultEccHi)
  else if u = unitLeat then
    let x := d.port index
    d.postEvent 3 [index, bits e 55 32, src - 0xA0, x.downTick, x.downReplayed]
  else d

/-- Sort key of an unhandled entry: class, time, unit, order (R449). -/
def todoKey (u : Nat) (t : ErrTodo) : Nat × Nat × Nat × Nat :=
  (4 - t.entry.toNat % 16, t.entry.toNat / 2 ^ 64, u, t.num)

/-- One key comes before another. -/
def keyLt (a b : Nat × Nat × Nat × Nat) : Bool :=
  decide (a.1 < b.1) || (a.1 == b.1 && (decide (a.2.1 < b.2.1) || (a.2.1 == b.2.1 && (decide (a.2.2.1 < b.2.2.1) ||
    (a.2.2.1 == b.2.2.1 && decide (a.2.2.2 < b.2.2.2))))))

/-- The entry that the MP handles next. -/
def nextTodo (d : Dev) : Option (Nat × ErrTodo) :=
  (d.errs.cells.flatMap (fun c => c.2.todo.map (fun t => (c.1, t)))).foldl (fun (best : Option (Nat × ErrTodo)) x =>
    match best with
    | none => some x
    | some b => if keyLt (todoKey x.1 x.2) (todoKey b.1 b.2) then some x else best) none

/-- ERROR_HANDLE: the next entry's restore part, or its report; then ERR_HND advances and a hold ends. -/
def errorHandle (d : Dev) : Dev :=
  if decide (psNap < d.pwrState) then d else
  match d.nextTodo with
  | none => d
  | some (u, t) =>
    let d := match t.site with
      | some s => d.restore s
      | none => if t.entry.toNat % 16 = clsEvent then reportEvent u (d.log u |>.entries.get 0 (t.num % 8)).toNat d else d
    let l := d.log u
    d.setLog u { l with hnd := l.hnd + 1, held := false, todo := l.todo.filter (fun x => x.num != t.num) }

/-! ## The Dredger and the patrol (R444, R445) -/

/-- Reads in a lap of a kind, all its instances at once (R444). -/
def lapWords (d : Dev) (k : Nat) : Nat :=
  if k = 11 then (d.board.pkgLen + d.board.goldLen) / 64
  else if k = 5 then Config.junctionLap.toNat
  else [512, 256, 8192, 32768, 16384, 0, 8192, 65536, 4096, 32768, 65536].getD k 0

/-- The Dredger scrubs a kind: it is enabled, and the domain of the memory runs. -/
def dredges (d : Dev) (k : Nat) : Bool := d.flag Reg.drgCtl k && (k == 10 || decide (d.pwrState ≤ 1))

/-- A lap of a kind goes on by one word. -/
def lapStep (k : Nat) (d : Dev) : Dev :=
  let x := d.laps.get {} k
  let y : Lap := if x.pos + 1 < d.lapWords k then { x with pos := x.pos + 1 }
    else { x with pos := 0, began := d.tb.tbc, last := min ((d.tb.tbc - x.began) / 1600) 0xFFFFFFFF, laps := x.laps + 1 }
  { d with laps := d.laps.set {} k y }

/-- A line lies in the package or the golden-image region. -/
def patrolled (d : Dev) (a : Nat) : Bool :=
  (decide (d.board.pkgBase ≤ a) && decide (a < d.board.pkgBase + d.board.pkgLen)) ||
    (decide (d.board.goldBase ≤ a) && decide (a < d.board.goldBase + d.board.goldLen))

/-- The Dredger has found an error of a kind (R454). -/
def dredgerFound (d : Dev) (k : Nat) : Dev :=
  let x := d.laps.get {} k
  { d with laps := d.laps.set {} k { x with found := x.found + 1 } }

/-- The patrol reads a line: it runs at a rate, over the package and golden-image regions (R445). -/
def patrols (d : Dev) (line : Nat) : Bool :=
  let a := ddrBase + line * 64
  d.dredges 11 && d.fld Reg.drgDdrRate 15 0 != 0 && d.isDdr a && d.patrolled a

/-- A patrol read fails also after its re-read: both failed checks count, of a kind that is free (R320, R445). -/
def patrolFails (d : Dev) (line : Nat) : Dev :=
  (((d.dredgerFound 11).bump Reg.drgGoldenErr)).ddrFails (d.ddrChannel (line * 64)) (line * 64) true

/-- DDR_PATROL_READ. -/
def patrolRead (line : Nat) (fails : Bool) (d : Dev) : Dev :=
  if !d.patrols line then d else
  let d := d.lapStep 11
  if fails then d.patrolFails line else d.setBadLine (ddrBase + line * 64) false

/-- An error that the Dredger finds: only in a memory that it scrubs (R444), in DDR5 by its patrol (R445). -/
def dredgerFinds (s : Site) (d : Dev) : Dev :=
  match s, siteKind s with
  | .ddrLine l, _ => if d.patrols l.toNat then d.patrolFails l.toNat else d
  | _, some k => if d.dredges k && d.siteLives s then checkFails s true (d.dredgerFound k) else d
  | _, none => d

/-- PARITY_ERROR: a functional read meets an error, or the Dredger finds it. -/
def parityError (s : Site) (byDredger : Bool) (d : Dev) : Dev :=
  if byDredger then dredgerFinds s d else if d.siteLives s then checkFails s false d else d

/-- DREDGER_READ: the next word of a kind is read; an error found there takes its response. DDR5 is read by its patrol. -/
def dredgerRead (k : Nat) (found : Option Site) (d : Dev) : Dev :=
  if !d.dredges k || (k == 11 && d.fld Reg.drgDdrRate 15 0 == 0) then d else
  match found with
  | some s => if siteKind s = some k then dredgerFinds s (lapStep k d) else lapStep k d
  | none => d.lapStep k

end Dev

open Dev

/-- PARITY_ERROR (R440). -/
def execParityError (site : Site) (byDredger : Bool) (s : State) : Host.Outcome State Fault Refusal :=
  onDev (parityError site byDredger) s

/-- ERROR_HANDLE (R449). -/
def execErrorHandle (s : State) : Host.Outcome State Fault Refusal := onDev errorHandle s

/-- DREDGER_READ (R444). -/
def execDredgerRead (kind : Fin 12) (found : Option Site) (s : State) : Host.Outcome State Fault Refusal :=
  onDev (dredgerRead kind found) s

/-- DDR_PATROL_READ (R445). -/
def execDdrPatrolRead (line : BitVec 33) (fails : Bool) (s : State) : Host.Outcome State Fault Refusal :=
  onDev (patrolRead line.toNat fails) s

end Sys2Proof.Machine
end

