-- ==== Sys2Proof/Machine/Boot.lean ====
section
/-! DEFINITION. Bring-up, the defect journal at a start, secure boot, life cycle, attestation, and JTAG (R455-R475, R479,
R482-R484, R491, R492). -/

namespace Sys2Proof.Machine

namespace Dev

/-! ## The sequence (R457, R482, R483) -/

/-- SEC_BOOT_STAT.STEP and CAUSE. -/
def bootStep (d : Dev) : Nat := d.fld Reg.secBootStat 3 0
def setStep (n : Nat) (d : Dev) : Dev := d.setFld Reg.secBootStat 3 0 n
def bootCause (d : Dev) : Nat := d.fld Reg.secBootStat 11 8
def setCause (n : Nat) (d : Dev) : Dev := d.setFld Reg.secBootStat 11 8 n

/-- A step runs: it is the one in progress, and nothing has stopped the sequence, which basic mode does too. -/
def atStep (d : Dev) (n : Nat) : Bool :=
  d.bootStep == n && d.bootCause == 0 && !d.flag Reg.secBootStat 31 && d.pins.thermtripN && !d.basic

/-- Step 1 ends once SYS_RST_N is high: EN_CORE is asserted (R482). -/
def endAon (d : Dev) : Dev :=
  if !d.pins.sysRstN then d else { (setStep 2 d) with pins := { d.pins with enCore := true } }

/-- BOOT_AON: the AON logic is released, the FLL is locked and the straps are sampled (R457, R479). -/
def bootAon (d : Dev) : Dev :=
  if !d.atStep 0 then d else
  let d := d.setFld Reg.pwrSupplyStat 10 8 (bits d.pins.straps 2 0)
  ((d.setFlag Reg.pwrSupplyStat 12 (bit d.pins.straps 3)).setStep 1).endAon

/-- SYS_RST_N rises; a held step 1 ends (R482). Pads that a boundary-scan instruction holds stay held (R492). -/
def sysRstRelease (d : Dev) : Dev :=
  let d := { d with pins := { d.pins with sysRstN := true } }
  if d.atStep 1 then d.endAon else d

/-- PG_MAIN rises after EN_CORE: EN_SD is asserted (R482). -/
def pgHigh (d : Dev) : Dev :=
  { d with pins := { d.pins with pgMain := true, enSd := d.pins.enCore } }

/-- BOOT_SUPPLIES: the rails are up, the PLLs locked, and the TBC starts (R32, R457). The clocks that bring-up sets are open
within their ranges (R23, log entry 28). -/
def bootSupplies (d : Dev) : Dev :=
  if !d.atStep 2 || !d.pins.enSd || !d.pins.pgMain then d else
  let mhz (d : Dev) (k : Nat) : Nat :=
    let least := if k = 2 then 500 else 200
    least + d.freeVal.toNat % (d.clockMax k + 1 - least)
  let f := mhz d 0
  let d := d.drew
  let r := mhz d 1
  let d := d.drew
  let a := mhz d 2
  let d := d.drew
  let all : SMap Nat := SMap.setMany 0 ⟨[]⟩ 0 (List.replicate 16 a)
  let pwr : Power := { d.pwr with setFlume := f, setRace := r, setApc := all, apc := all }
  let d : Dev := { d with pwr := pwr, tb := { d.tb with running := true } }
  (((d.setReg Reg.pwrFlumeMhz f).setReg Reg.pwrRaceMhz r).setReg Reg.pwrApcMhz a).avsSet.setStep 3

/-- SUPPLY_TIMEOUT: PG_MAIN is not high 15 ms after EN_CORE, at a power-up or at a wake from SENTINEL (R483, R484). -/
def supplyTimeout (d : Dev) : Dev :=
  let waking := decide (d.pwrState = psSentinel) && d.pwr.exitTo.isSome
  if !d.pins.enCore || d.pins.pgMain || !(d.atStep 2 || waking) then d else
  let d := { d with pins := { d.pins with enCore := false }, pwr := { d.pwr with exitTo := none } }
  (setCause 7 (d.setStep 2)).setFlag Reg.secBootStat 31 false

/-- BOOT_FUSES: variant, life cycle and fuse map are latched; in END the boot ROM stops after this step (R466, R470). -/
def bootFuses (d : Dev) : Dev :=
  if !d.atStep 3 then d else
  let d := d.latchFuses
  if d.fuses.lc = 5 then d else d.setStep 4

/-- BOOT_ROM: the MP memories are tested, the PCIe link is trained, and the ROM waits for GO. Which of the widths ×1, ×2, ×4 and
×8 and of the five speeds the link trains to is the host's and open (R348). -/
def bootRom (d : Dev) : Dev :=
  if !d.atStep 4 || d.sec.romWait then d else
  let d := { d with mp := { held := false }, sec := { d.sec with romWait := true } }
  if !d.pins.perstN then d else
  let d := (d.setFld Reg.hifStat 19 16 (2 ^ (d.freeVal.toNat % 4))).drew
  let d := (d.setFld Reg.hifStat 14 12 (1 + d.freeVal.toNat % 5)).drew
  d.pcieLink 0

/-- BOOT_GO: a write of SEC_BOOT_CTL. GO starts step 5 while the ROM waits for it and no tamper is recorded; WARM counts as it
stands at GO (R458, R460, R472). -/
def bootGo (v : Nat) (d : Dev) : Dev :=
  let d := d.setFlag Reg.secBootCtl 2 (bit v 2)
  if bit v 0 && d.bootStep == 4 && d.sec.romWait && !d.sec.tampered && d.pins.tamperN then
    setCause 0 ({ d with sec := { d.sec with go := true, warm := bit v 2 } }.setStep 5)
  else d

/-! ## The journal at a start (R460, R464) -/

/-- An entry of a journal block. -/
def entryAt (b : List Byte) (e : Nat) : JEntry :=
  let x := b.drop (64 + 16 * e)
  ⟨ofBytes (x.take 1), ofBytes ((x.drop 1).take 1), ofBytes ((x.drop 2).take 2), ofBytes ((x.drop 4).take 4), ofBytes ((x.drop 8).take 8)⟩

/-- The MAC and the serial of a journal block match. -/
def journalOk (d : Dev) (b : List Byte) : Bool :=
  let n := ofBytes ((b.drop 6).take 2)
  ofBytes (b.take 4) == 0x4A444457 && ofBytes ((b.drop 4).take 2) == 1 && decide (n ≤ 2048) && ofBytes ((b.drop 8).take 8) == d.fuses.serial &&
    (b.drop 32).take 32 == hmac d.macKey (b.take 32 ++ (b.drop 64).take (16 * n))

/-- The journal is read, the run number steps, and a warm restart is granted or denied and counted; a full test clears the count
when it is over (R460). -/
def readJournal (b : List Byte) (d : Dev) : Dev :=
  let ok := d.journalOk b
  let n := ofBytes ((b.drop 6).take 2)
  let es := if ok then (List.range n).map (entryAt b) else []
  let fresh := ok && !d.sec.ret.digest.isEmpty && sha256 b == d.sec.ret.digest && d.sec.ret.lc == d.fuses.lc && decide (d.sec.ret.warms < 8)
  let asked := d.sec.warm
  let warm := asked && fresh
  let run := max d.sec.ret.run (if ok then ofBytes ((b.drop 20).take 4) else 0) + 1
  let warms := d.sec.ret.warms + b2n warm
  let sec : Sec := { d.sec with
    journal := es, warm := warm, fullRun := if ok then ofBytes ((b.drop 16).take 4) else 0
    ret := { d.sec.ret with run := run, warms := warms } }
  let d := { d with sec := sec }
  let d := ((d.setFlag Reg.secBootStat 28 ok).setFlag Reg.secBootStat 29 (asked && !fresh)).showJournal
  (d.setReg Reg.secRun run).setReg Reg.secWarmCount warms

/-- BOOT_FIRMWARE (R458, R459, R468, R473): a rejected bundle takes the ROM back to its wait for GO. -/
def bootFirmware (d : Dev) : Dev :=
  if !d.atStep 5 || !d.sec.go then d else
  let a := d.rn64 Reg.secFwBaseLo Reg.secFwBaseHi
  let len := d.rn Reg.secFwLen
  let reject (cause : Nat) (d : Dev) : Dev :=
    (setCause cause ({ d with sec := { d.sec with go := false } }.setStep 4)).bump Reg.secFwRejects
  if len = 0 || !isHost (hostBase + a + (len - 1)) then reject (if len = 0 then 1 else 5) d else
  let r := d.srcReady (hostBase + a)
  if !r.1 then r.2 else
  if d.readBad (hostBase + a) len then reject 5 d else
  let bundle := d.bytes (hostBase + a) len
  let cause := d.bundleCause bundle len
  if cause ≠ 0 then reject cause d else
  let h := bundle.take 160
  let d := { d with sec := { d.sec with header := h, go := false, romWait := false } }
  let d := (d.setFld Reg.secSvn 21 16 (ofBytes ((h.drop 8).take 4))).setFld Reg.secKeyslot 1 0 (ofBytes ((h.drop 6).take 1))
  let d := d.identity
  let j := d.rn64 Reg.secJrnlBaseLo Reg.secJrnlBaseHi
  let jb := if isHost (hostBase + j + 32831) then d.bytes (hostBase + j) 32832 else []
  (readJournal jb d).setStep 6

/-! ## Steps 6 to 9 (R457, R463, R464) -/

/-- A unit is present in the variant (R2). -/
def unitPresent (d : Dev) (k i : Nat) : Bool :=
  if !d.isC2 then true
  else if k = kindColumn then decide (i < 50) else if k = kindNc then decide (i % 17 ≤ 8) else true

/-- The fuses and the journal have no say against a unit: good by its fuses and with fewer than two entries. -/
def unitGood (d : Dev) (u : Nat × Nat) : Bool := !d.fuses.bad.contains u && decide ((d.journalOf u.1 u.2).length < 2)

/-- The states of R464 for every unit: what is off, and, after a full test, an entry for each failed good unit. -/
def applyUnits (d : Dev) : Dev :=
  let fused := d.fuses.bad
  let suspects := ((d.sec.journal.map (fun e => (e.kind, e.index))).eraseDups).filter (fun u => decide (2 ≤ (d.journalOf u.1 u.2).length))
  let newer := if d.sec.warm then
      (d.sec.journal.filter (fun e => decide (d.sec.fullRun ≤ e.run))).map (fun e => (e.kind, e.index))
    else []
  let fails := if d.sec.warm then [] else d.sec.failed.filter (fun x => d.unitGood (x.kind, x.index))
  let d := fails.foldl (fun (d : Dev) (x : TestFail) => d.journalAdd x.kind x.source x.index x.mem) d
  let off := (fused ++ suspects ++ newer ++ fails.map (fun x => (x.kind, x.index))).eraseDups
  let d := { d with sec := { d.sec with off := off, failed := [] } }
  (List.range 64).foldl (fun (d : Dev) b => if d.bankOff b then d.setPondState b 0 else d) d

/-- BOOT_DDR5: after a DDR_CONFIG has trained DDR5, the bundle is fetched into the firmware region, where it stays for a resume,
and the Kraty runtime in it is hashed. A mismatch holds the sequence (R457, R459, log entry 58). -/
def bootDdr5 (d : Dev) : Dev :=
  if !d.atStep 6 || !d.sec.trained then d else
  let c := compOf d.sec.header 2
  let a := hostBase + d.rn64 Reg.secFwBaseLo Reg.secFwBaseHi
  let n := d.rn Reg.secFwLen
  let r := d.srcReady a
  if !r.1 then r.2 else
  let bundle := d.bytes a n
  let h := sha256 ((bundle.drop c.2.1).take c.2.2.1)
  if h != c.2.2.2 || d.readBad a n then setCause 6 d else
  let d := { d.putBytes ddrBase bundle with sec := { d.sec with runtime := h } }
  if d.sec.warm then d.applyUnits.setStep 10 else d.setStep 7

/-- Failures of a test step; a unit that an earlier test has failed keeps its first (R464). -/
def noteFailed (us : List TestFail) (d : Dev) : Dev :=
  let note (fs : List TestFail) (u : TestFail) : List TestFail :=
    if fs.any (fun f => f.kind == u.kind && f.index == u.index) then fs else fs ++ [u]
  { d with sec := { d.sec with failed := (us.filter (fun u => d.unitPresent u.kind u.index)).foldl note d.sec.failed } }

/-- BOOT_SRAM_BIST: failing SRAMs by unit with the memory and address, and a word of a memory without a spare that fails (R457,
R463). -/
def bootBist (failed : List (BitVec 4 × BitVec 12 × DWord)) (noSpare : Option Site) (d : Dev) : Dev :=
  if !d.atStep 7 then d else
  let us := (failed.map (fun x => TestFail.mk x.1.toNat x.2.1.toNat 1 x.2.2.toNat)).filter (fun u =>
    decide (1 ≤ u.kind) && decide (u.kind ≤ 5))
  let d := d.noteFailed us
  { d with sec := { d.sec with fatal := if d.sec.fatal.isSome then d.sec.fatal else noSpare } }.setStep 8

/-- BOOT_FLUME_SELF_TEST. -/
def bootFlume (cols : List (Fin 100 × DWord)) (d : Dev) : Dev :=
  if !d.atStep 8 then d else (d.noteFailed (cols.map (fun c => ⟨kindColumn, c.1, 2, c.2.toNat⟩))).setStep 9

/-- A full test is over: its run is the latest, and no warm restart has followed it (R460). -/
def testOver (d : Dev) : Dev :=
  { d with sec := { d.sec with fullRun := d.rn Reg.secRun, ret := { d.sec.ret with warms := 0 } } }.setReg Reg.secWarmCount 0

/-- BOOT_NC_SELF_TEST: the tests are over, and the ready states of R464 apply. -/
def bootNc (ncs : List (Fin 272 × DWord)) (d : Dev) : Dev :=
  if !d.atStep 9 then d else ((d.noteFailed (ncs.map (fun c => ⟨kindNc, c.1, 3, c.2.toNat⟩))).testOver).applyUnits.setStep 10

/-- BOOT_LEAT: the by-pass opens and the ports train; the step ends at its maximum time (R334, R462). The MP's measurement of
LEAD is a free value (R237, log entry 2). -/
def bootLeat (d : Dev) : Dev :=
  if !d.atStep 10 then d else ((d.setFlag Reg.lkCtl 1 false).setReg Reg.mrBarLead (d.freeVal.toNat % 65536)).drew.setStep 11

/-- BOOT_RUNTIME: the cores are released, the journal is written back, and the device is ready in RUN; a memory without a
spare that failed is then a FATAL error, which takes it to basic mode (R303, R438, R450, R457, R459, R465). -/
def bootRuntime (ms : Nat) (d : Dev) : Dev :=
  if !d.atStep 11 then d else
  let d := { d with vci := { d.vci with coresDown := d.offCores } }.releaseCores
  let d := ((d.setReg Reg.secBootMs ms).setFlag Reg.secBootStat 31 true).setFlag Reg.secBootStat 30 d.sec.warm
  let d := d.journalWrite
  match d.sec.fatal with
  | none => d
  | some x => fatal (d.logError (siteUnit x) clsFatal (siteSource x) (d.siteIndex x) (d.siteAddr x)) (siteUnit x)

/-! ## SVN and life cycle (R469-R471) -/

/-- SVN_COMMIT: between jobs the fused SVN rises to that of the running bundle. -/
def svnCommit (d : Dev) : Dev :=
  let run := d.fld Reg.secSvn 21 16
  if jsLoaded < d.jobState || d.sec.header.isEmpty || run ≤ d.fuses.svn then d
  else { d with fuses := { d.fuses with svn := run } }.setFld Reg.secSvn 5 0 run

/-- A transition of the table; none is a token needed for. -/
def lcAllowed (from_ tgt : Nat) : Bool :=
  (from_ == 1 && (tgt == 2 || tgt == 3)) || (from_ == 2 && tgt == 3) || ((from_ == 2 || from_ == 3) && tgt == 4) ||
    (tgt == 5 && from_ != 0 && from_ != 5)

/-- The token is right: its fields, and the signature by the key of the slot in use. -/
def tokenOk (d : Dev) (t : List Byte) (target : Nat) : Bool :=
  ofBytes (t.take 4) == 0x4D524457 && ofBytes ((t.drop 4).take 8) == d.fuses.serial && ofBytes ((t.drop 12).take 1) == target &&
    (t.drop 13).take 51 == zeroBytes 51 && !d.sec.header.isEmpty &&
    Config.slhVerify ((d.sec.header.drop 16).take 32) (t.take 64) ((t.drop 64).take 7856)

/-- A life-cycle request for a target. -/
def lcRequest (tgt : Nat) (d : Dev) : Dev :=
  let waits := d.bootStep == 4 && d.sec.romWait
  let idle := d.flag Reg.secBootStat 31 && d.jobState == jsNone
  let done (code : Nat) (d : Dev) : Dev := { d with sec := { d.sec with lcWait := none } }.setReg Reg.secLcStat code
  let burn (d : Dev) : Dev := Dev.wholeReset { d.wipeVault with fuses := { d.fuses with lc := tgt } }
  if d.sec.tampered then done 4 d
  else if !waits && !idle then done 3 d
  else if !lcAllowed d.fuses.lc tgt then done 1 d
  else if tgt ≠ 4 then burn d
  else
    let a := hostBase + d.rn64 Reg.secLcTokenLo Reg.secLcTokenHi
    if !isHost (a + 7919) then done 2 d else
    let r := d.srcReady a
    if !r.1 then { r.2 with sec := { r.2.sec with lcWait := some tgt } }
    else if !d.readBad a 7920 && d.tokenOk (d.bytes a 7920) tgt then burn d
    else done 2 d

/-- LIFE_CYCLE_GO: a write of SEC_LC_CTL. While a request waits for its token a further GO asks for nothing (log entry 137). -/
def lifeCycle (v : Nat) (d : Dev) : Dev :=
  let d := d.setReg Reg.secLcCtl (v % 8)
  if bit v 31 && d.sec.lcWait.isNone then d.lcRequest (v % 8) else d

/-- Bus Master Enable becomes 1: what waited is performed, and a life-cycle request whose token can now be read goes on (R356,
R471). -/
def bmeRelease (d : Dev) : Dev :=
  let d := d.bmeOn
  match d.sec.lcWait with
  | none => d
  | some tgt => d.lcRequest tgt

/-! ## Attestation (R474) -/

/-- ATTESTATION_GO. -/
def attestGo (d : Dev) : Dev :=
  if d.flag Reg.secAttStat 31 then d.bump Reg.secAttIgnored
  else if d.idKey.isEmpty && !d.sec.tampered then d.setReg Reg.secAttStat 1
  else if d.sec.tampered then d.setReg Reg.secAttStat 2
  else if !isHost (hostBase + d.rn64 Reg.secAttDstLo Reg.secAttDstHi + 17471) then d.setReg Reg.secAttStat 3
  else d.setReg Reg.secAttStat 0x80000000

/-- A measurement: 0 where there is nothing to measure. -/
def measure (l : List Byte) : List Byte := if l.isEmpty then zeroBytes 32 else sha256 l
def digestOr (l : List Byte) : List Byte := (l ++ zeroBytes 32).take 32

/-- Bytes 0 to 383 of the report. -/
def reportBody (d : Dev) : List Byte :=
  let word (a : Nat) : List Byte := toBytes 4 (d.rn a)
  toBytes 4 0x54414457 ++ toBytes 2 1 ++ toBytes 1 d.fuses.lc ++
    toBytes 1 (b2n (d.fld Reg.secTamper 3 0 != 0) + 2 * b2n d.sec.warm + 4 * b2n (d.flag Reg.secBootStat 28)) ++
    toBytes 8 d.fuses.serial ++ toBytes 4 (d.fld Reg.secSvn 21 16) ++ toBytes 4 (d.fld Reg.secSvn 5 0) ++
    (List.range 8).flatMap (fun i => word (Reg.secAttNonce i)) ++ (List.range 8).flatMap (fun i => word (Reg.secIdPk i)) ++
    sha256 Config.bootRom ++ measure d.sec.header ++ digestOr d.sec.runtime ++ sha256 (Config.fuseImage d.fuses.bad) ++
    sha256 d.journalBytes ++ digestOr d.sec.board ++ digestOr d.sec.pkg ++ toBytes 8 d.tb.tbc ++ zeroBytes 64

/-- ATTESTATION_DONE: the report is written; SEC_ATT_SEQ steps and BUSY clears once it has gone out (R356, R474). A tamper
that has come since the request has taken the key, and the request ends with TAMPERED. -/
def attestDone (d : Dev) : Dev :=
  if !d.flag Reg.secAttStat 31 || d.hostWait.any (fun r => r.sender == .report) then d
  else if d.sec.tampered then d.setReg Reg.secAttStat 2 else
  let b := d.reportBody
  let sig := (Config.slhSign d.idKey b ++ zeroBytes 17088).take 17088
  let now := d.bme
  let d := d.hostWrite .report (d.rn64 Reg.secAttDstLo Reg.secAttDstHi) (b ++ sig)
  if now then (d.bump Reg.secAttSeq).setFlag Reg.secAttStat 31 false else d

/-! ## The configuration header and JTAG (R349, R491, R492) -/

/-- What a field of the configuration header reads as. The stepping is the first production stepping (log entry 100). -/
def config (d : Dev) : ConfigField → Nat
  | .vendorId => d.fld Reg.glbIdent 15 0
  | .deviceId => d.fld Reg.glbIdent 31 16
  | .classCode => 0x120000
  | .subsystemVendor => 0x1F4C
  | .subsystem => d.fld Reg.glbVariant 15 0
  | .revision => 1
  | .serial => d.fuses.serial

/-- IDCODE: version, part number (the Device ID), manufacturer code, 1. -/
def idcode (d : Dev) : Nat := 0x10000B2F + d.config .deviceId * 4096

/-- The instructions that the manual names. -/
def jtagKnown (ir : Nat) : Bool := [0, 1, 2, 3, 4, 0xFF].contains ir

/-- A life-cycle state grants full access, and opens the MP's debug port (R470). -/
def jtagFull (d : Dev) : Bool := d.fuses.lc == 0 || d.fuses.lc == 1 || d.fuses.lc == 4
def mpDebug (d : Dev) : Bool := d.fuses.lc ≤ 2 || d.fuses.lc == 4

/-- An instruction is loaded: EXTEST, CLAMP and HIGHZ take the pads while SYS_RST_N is low and act as BYPASS while it is high;
a private instruction acts as BYPASS without full access, and with it is in force, which is all that the manual says of it (log
entry 100). -/
def jtagLoad (ir : Nat) (d : Dev) : Dev :=
  let pads := ir == 0 || ir == 3 || ir == 4
  let holds := pads && !d.pins.sysRstN
  let eff := if (jtagKnown ir || d.jtagFull) && (!pads || holds) then ir else 0xFF
  { d with pins := { d.pins with jtagIr := eff, padsHeld := holds } }

end Dev

open Dev

/-- BOOT_AON. -/
def execBootAon (s : State) : Host.Outcome State Fault Refusal := onDev Dev.bootAon s

/-- SYS_RST_N_RELEASE. -/
def execSysRstNRelease (s : State) : Host.Outcome State Fault Refusal := onDev Dev.sysRstRelease s

/-- BOOT_SUPPLIES. -/
def execBootSupplies (s : State) : Host.Outcome State Fault Refusal := onDev Dev.bootSupplies s

/-- PG_MAIN_HIGH. -/
def execPgMainHigh (s : State) : Host.Outcome State Fault Refusal := onDev Dev.pgHigh s

/-- SUPPLY_TIMEOUT. -/
def execSupplyTimeout (s : State) : Host.Outcome State Fault Refusal := onDev Dev.supplyTimeout s

/-- BOOT_FUSES. -/
def execBootFuses (s : State) : Host.Outcome State Fault Refusal := onDev Dev.bootFuses s

/-- BOOT_ROM. -/
def execBootRom (s : State) : Host.Outcome State Fault Refusal := onDev Dev.bootRom s

/-- BOOT_GO. -/
def execBootGo (v : Word) (s : State) : Host.Outcome State Fault Refusal := onReg Reg.secBootCtl (bootGo v.toNat) s

/-- BOOT_FIRMWARE. -/
def execBootFirmware (s : State) : Host.Outcome State Fault Refusal := onDev Dev.bootFirmware s

/-- BOOT_DDR5. -/
def execBootDdr5 (s : State) : Host.Outcome State Fault Refusal := onDev Dev.bootDdr5 s

/-- BOOT_SRAM_BIST. -/
def execBootSramBist (failed : List (BitVec 4 × BitVec 12 × DWord)) (noSpare : Option Site) (s : State) : Host.Outcome State Fault Refusal :=
  onDev (bootBist failed noSpare) s

/-- BOOT_FLUME_SELF_TEST. -/
def execBootFlumeSelfTest (cols : List (Fin 100 × DWord)) (s : State) : Host.Outcome State Fault Refusal := onDev (bootFlume cols) s

/-- BOOT_NC_SELF_TEST. -/
def execBootNcSelfTest (ncs : List (Fin 272 × DWord)) (s : State) : Host.Outcome State Fault Refusal := onDev (bootNc ncs) s

/-- BOOT_LEAT. -/
def execBootLeat (s : State) : Host.Outcome State Fault Refusal := onDev Dev.bootLeat s

/-- BOOT_RUNTIME. -/
def execBootRuntime (ms : Word) (s : State) : Host.Outcome State Fault Refusal := onDev (bootRuntime ms.toNat) s

/-- SVN_COMMIT. -/
def execSvnCommit (s : State) : Host.Outcome State Fault Refusal := onReg Reg.secSvnCommit Dev.svnCommit s

/-- LIFE_CYCLE_GO. -/
def execLifeCycleGo (v : Word) (s : State) : Host.Outcome State Fault Refusal := onReg Reg.secLcCtl (lifeCycle v.toNat) s

/-- ATTESTATION_GO. -/
def execAttestationGo (s : State) : Host.Outcome State Fault Refusal := onReg Reg.secAttCtl Dev.attestGo s

/-- ATTESTATION_DONE. -/
def execAttestationDone (s : State) : Host.Outcome State Fault Refusal := onDev Dev.attestDone s

/-- BME_RELEASE (R356). -/
def execBmeRelease (s : State) : Host.Outcome State Fault Refusal := onDev Dev.bmeRelease s

/-- JTAG_UPDATE_IR. -/
def execJtagUpdateIr (ir : Byte) (s : State) : Host.Outcome State Fault Refusal := onDev (jtagLoad ir.toNat) s

/-- JTAG_TEST_LOGIC_RESET. -/
def execJtagTestLogicReset (s : State) : Host.Outcome State Fault Refusal :=
  onDev (fun d => { d with pins := { d.pins with jtagIr := 2, padsHeld := false } }) s

end Sys2Proof.Machine
end

