-- ==== Sys2Proof/Machine/Flume.lean ====
section
/-! DEFINITION. The meanings of the schedule slots and of the array's own steps (R99-R114, R119-R130). A slot command
carries the slot's fields; one whose conditions do not hold leaves the state as it is (log entry 7). -/

namespace Sys2Proof.Machine

open Dev

/-- NOP: nothing (R122). -/
def execNop (x : Slot) (s : State) : Host.Outcome State Fault Refusal := onDev (slotCmd (.nop x) x (fxNop x)) s

/-- IDLE: nothing for FUNC + 1 cycles. -/
def execIdle (x : Slot) (s : State) : Host.Outcome State Fault Refusal := onDev (slotCmd (.idle x) x (fxIdle x)) s

/-- LOOP: the following FUNC[7:0] slots, FUNC[19:8] + 1 times (R121). -/
def execLoop (x : Slot) (s : State) : Host.Outcome State Fault Refusal := onDev (slotCmd (.loop x) x (fxLoop x)) s

/-- HALT: the main stream and the handler lane stop for the rest of the job run (R101, R130). -/
def execHalt (x : Slot) (s : State) : Host.Outcome State Fault Refusal := onDev (slotCmd (.halt x) x (fxHalt x)) s

/-- END: ends a handler (R99). -/
def execEndSlot (x : Slot) (s : State) : Host.Outcome State Fault Refusal := onDev (slotCmd (.endSlot x) x (fxEndSlot x)) s

/-- MOV: S[RD] := XA. -/
def execMov (x : Slot) (s : State) : Host.Outcome State Fault Refusal := onDev (slotCmd (.mov x) x (fxMov x)) s

/-- MOVI: S[RD] := FUNC sign-extended. -/
def execMovi (x : Slot) (s : State) : Host.Outcome State Fault Refusal := onDev (slotCmd (.movi x) x (fxMovi x)) s

/-- ADD: XA + XB modulo 2^64. -/
def execAdd (x : Slot) (s : State) : Host.Outcome State Fault Refusal := onDev (slotCmd (.add x) x (fxAdd x)) s

/-- SUB: XA − XB modulo 2^64. -/
def execSub (x : Slot) (s : State) : Host.Outcome State Fault Refusal := onDev (slotCmd (.sub x) x (fxSub x)) s

/-- LOGIC, FUNC[1:0] = 0: AND. -/
def execLogicAnd (x : Slot) (s : State) : Host.Outcome State Fault Refusal := onDev (slotCmd (.logicAnd x) x (fxLogicAnd x)) s

/-- LOGIC, FUNC[1:0] = 1: OR. -/
def execLogicOr (x : Slot) (s : State) : Host.Outcome State Fault Refusal := onDev (slotCmd (.logicOr x) x (fxLogicOr x)) s

/-- LOGIC, FUNC[1:0] = 2: XOR. -/
def execLogicXor (x : Slot) (s : State) : Host.Outcome State Fault Refusal := onDev (slotCmd (.logicXor x) x (fxLogicXor x)) s

/-- LOGIC, FUNC[1:0] = 3: XA AND NOT XB. -/
def execLogicAndnot (x : Slot) (s : State) : Host.Outcome State Fault Refusal := onDev (slotCmd (.logicAndnot x) x (fxLogicAndnot x)) s

/-- SHIFT, FUNC[1:0] = 0: LSL by XB[5:0]. -/
def execShiftLsl (x : Slot) (s : State) : Host.Outcome State Fault Refusal := onDev (slotCmd (.shiftLsl x) x (fxShiftLsl x)) s

/-- SHIFT, FUNC[1:0] = 1: LSR by XB[5:0]. -/
def execShiftLsr (x : Slot) (s : State) : Host.Outcome State Fault Refusal := onDev (slotCmd (.shiftLsr x) x (fxShiftLsr x)) s

/-- SHIFT, FUNC[1:0] = 2: ASR by XB[5:0]. -/
def execShiftAsr (x : Slot) (s : State) : Host.Outcome State Fault Refusal := onDev (slotCmd (.shiftAsr x) x (fxShiftAsr x)) s

/-- SHIFT, FUNC[1:0] = 3: ROR by XB[5:0]. -/
def execShiftRor (x : Slot) (s : State) : Host.Outcome State Fault Refusal := onDev (slotCmd (.shiftRor x) x (fxShiftRor x)) s

/-- VADD: lane-wise sum (R123, R154). -/
def execVadd (x : Slot) (s : State) : Host.Outcome State Fault Refusal := onDev (slotCmd (.vadd x) x (fxVadd x)) s

/-- VMUL: lane-wise product. -/
def execVmul (x : Slot) (s : State) : Host.Outcome State Fault Refusal := onDev (slotCmd (.vmul x) x (fxVmul x)) s

/-- VMAX: lane-wise maximum. -/
def execVmax (x : Slot) (s : State) : Host.Outcome State Fault Refusal := onDev (slotCmd (.vmax x) x (fxVmax x)) s

/-- VMIN: lane-wise minimum. -/
def execVmin (x : Slot) (s : State) : Host.Outcome State Fault Refusal := onDev (slotCmd (.vmin x) x (fxVmin x)) s

/-- ACT, FUNC[15:14] = 0: ReLU. -/
def execActRelu (x : Slot) (s : State) : Host.Outcome State Fault Refusal := onDev (slotCmd (.actRelu x) x (fxActRelu x)) s

/-- ACT, FUNC[15:14] = 1: clamp to ±XB lane. -/
def execActClamp (x : Slot) (s : State) : Host.Outcome State Fault Refusal := onDev (slotCmd (.actClamp x) x (fxActClamp x)) s

/-- ACT, FUNC[15:14] = 2: clamp to [0, XB lane]. -/
def execActClampPos (x : Slot) (s : State) : Host.Outcome State Fault Refusal := onDev (slotCmd (.actClampPos x) x (fxActClampPos x)) s

/-- PWL, FUNC[15] = 1: load segment FUNC[13:10] from XA; no result (R127). -/
def execPwlLoad (x : Slot) (s : State) : Host.Outcome State Fault Refusal := onDev (slotCmd (.pwlLoad x) x (fxPwlLoad x)) s

/-- PWL, FUNC[15] = 0: evaluate four BF16 lanes (R127). -/
def execPwlEval (x : Slot) (s : State) : Host.Outcome State Fault Refusal := onDev (slotCmd (.pwlEval x) x (fxPwlEval x)) s

/-- MAG: |z|² of two complex pairs of INT16 or BF16 (R127). -/
def execMag (x : Slot) (s : State) : Host.Outcome State Fault Refusal := onDev (slotCmd (.mag x) x (fxMag x)) s

/-- LOG2 of two FP32 lanes (R127). -/
def execLog2 (x : Slot) (s : State) : Host.Outcome State Fault Refusal := onDev (slotCmd (.log2 x) x (fxLog2 x)) s

/-- SCALE: lane × XB[31:16] + XB[15:0]. -/
def execScale (x : Slot) (s : State) : Host.Outcome State Fault Refusal := onDev (slotCmd (.scale x) x (fxScale x)) s

/-- CVT: format conversion with its saturation counts (R148-R152). -/
def execCvt (x : Slot) (s : State) : Host.Outcome State Fault Refusal := onDev (slotCmd (.cvt x) x (fxCvt x)) s

/-- LD: S[RD] := data SRAM word. -/
def execLd (x : Slot) (s : State) : Host.Outcome State Fault Refusal := onDev (slotCmd (.ld x) x (fxLd x)) s

/-- ST: data SRAM word := LS, in the issue cycle. -/
def execSt (x : Slot) (s : State) : Host.Outcome State Fault Refusal := onDev (slotCmd (.st x) x (fxSt x)) s

/-- MAC (R124). -/
def execMac (x : Slot) (s : State) : Host.Outcome State Fault Refusal := onDev (slotCmd (.mac x) x (fxMac x)) s

/-- MACQ: MAC, then close accumulator FUNC[9:5] with MS from SA (R124, R125). -/
def execMacq (x : Slot) (s : State) : Host.Outcome State Fault Refusal := onDev (slotCmd (.macq x) x (fxMacq x)) s

/-- GQ: close accumulator FUNC[15:11] with MS from SA. -/
def execGq (x : Slot) (s : State) : Host.Outcome State Fault Refusal := onDev (slotCmd (.gq x) x (fxGq x)) s

/-- ACCRD mode 0: F of i and i + 1 as two FP32 (R125). -/
def execAccrdFp32 (x : Slot) (s : State) : Host.Outcome State Fault Refusal := onDev (slotCmd (.accrdFp32 x) x (fxAccrdFp32 x)) s

/-- ACCRD mode 1: F of i to i + 3 rounded to BF16 (R125, R150). -/
def execAccrdBf16 (x : Slot) (s : State) : Host.Outcome State Fault Refusal := onDev (slotCmd (.accrdBf16 x) x (fxAccrdBf16 x)) s

/-- ACCRD mode 2: G of i and i + 1 as two INT32 (R125). -/
def execAccrdInt32 (x : Slot) (s : State) : Host.Outcome State Fault Refusal := onDev (slotCmd (.accrdInt32 x) x (fxAccrdInt32 x)) s

/-- ACCCLR: clear FUNC[10:6] + 1 accumulators from FUNC[15:11]. -/
def execAccclr (x : Slot) (s : State) : Host.Outcome State Fault Refusal := onDev (slotCmd (.accclr x) x (fxAccclr x)) s

/-- SAILCFG: size, element format and seed; a partial block is discarded, the output buffer kept (R126). -/
def execSailcfg (x : Slot) (s : State) : Host.Outcome State Fault Refusal := onDev (slotCmd (.sailcfg x) x (fxSailcfg x)) s

/-- SAILIN: push 64 bits of points (R126). -/
def execSailin (x : Slot) (s : State) : Host.Outcome State Fault Refusal := onDev (slotCmd (.sailin x) x (fxSailin x)) s

/-- SAILOUT: the next 64 bits of output, or 0 where none is ready (R126). -/
def execSailout (x : Slot) (s : State) : Host.Outcome State Fault Refusal := onDev (slotCmd (.sailout x) x (fxSailout x)) s

/-- SEND: TX with route header FUNC[19:0] (R93, R94). -/
def execSend (x : Slot) (s : State) : Host.Outcome State Fault Refusal := onDev (slotCmd (.send x) x (fxSend x)) s

namespace Dev

/-- A queued dispatch starts its handler in the first cycle in which the lane is free and the message readable (R99). -/
def dispatch (r c : Nat) (d : Dev) : Dev :=
  let x := d.cell r c
  match nextDispatch x.queue with
  | some e =>
    let t := dispatchAt x e
    let b := d.arrayTo t
    if d.executing t && b.standsAt t then startHandler r c b else d
  | none => d

/-- A headgate sends its next word (R108). -/
def headWord (c : Nat) (d : Dev) : Dev :=
  match d.nextHead c with
  | some (t, r, e) =>
    let b := d.arrayTo t
    if d.executing t && b.standsAt t then b.sendHead c t r e else d
  | none => d

/-- The array reaches its next boundary, or stands at it, and the boundary is evaluated (R103). -/
def atBoundary (d : Dev) : Dev :=
  if !d.flmRun || d.flume.clkBusy then d else
  let b := d.arrayTo d.boundaryAt
  if b.standsAt d.boundaryAt then b.boundary else b

/-- The wait of a FLUME_CLK change, at most 2 µs, ends: the new frequency holds and the boundary is evaluated (R24). -/
def clockDone (wait : Nat) (d : Dev) : Dev :=
  match d.flume.clkPend with
  | none => d
  | some _ =>
    if !d.flume.clkBusy then d else (d.advanceTo (d.tb.tbc + min wait 3200)).flumeTaken.endWait.boundary

/-- The array reaches the cycle at which a fault stops it, or the boundary at which a failed cell stops it, whichever comes
first (R113, R114). -/
def reachStop (d : Dev) : Dev :=
  let b := d.boundaryAt
  let byFault := if d.stopDue (max b d.flume.ecc) then d.flume.stopAt else none
  if !d.flmRun then d
  else match byFault with
    | some t => (d.arrayTo t).stopArray
    | none => if d.flume.failing then (d.arrayTo b).stopArray else d

/-- The first frame that waits for a copy starts it where a staging bank is free (R104). -/
def copyStart (d : Dev) : Dev :=
  match d.flume.staged.find? (fun s => s.mode == .waitCopy) with
  | none => d
  | some s =>
    if d.flume.head.isEmpty || 2 ≤ d.banksUsed then d else
    let d := d.scDeclare 2 s.fr.addr s.fr.len
    d.setStaged (d.flume.staged.map (fun (t : Staged) => if t == s then { t with mode := .copying } else t))

/-- The first copy in progress is complete: the banks hold the payload, and the forebay is full (R104). -/
def copyDone (d : Dev) : Dev :=
  match d.flume.staged.find? (fun s => s.mode == .copying) with
  | none => d
  | some s =>
    let full := d.stageCopy s
    let d := d.copyErrs s.fr
    let d := if d.placeOf s.fr.addr s.fr.len = .ddr then d.scTouchAll 2 s.fr.addr s.fr.len else d
    (d.scDone 2 s.fr.addr s.fr.len).setStaged (d.flume.staged.map (fun (t : Staged) =>
      if t == s then { full with fr := { full.fr with fullAt := d.tb.tbc }, mode := .ready } else t))

end Dev

/-- HANDLER_DISPATCH (R99). -/
def execHandlerDispatch (row col : Fin 96) (s : State) : Host.Outcome State Fault Refusal := onDev (dispatch row col) s

/-- ARRAY_STOP (R113, R114). -/
def execArrayStop (s : State) : Host.Outcome State Fault Refusal := onDev reachStop s

/-- STAGING_COPY_START (R104). -/
def execStagingCopyStart (s : State) : Host.Outcome State Fault Refusal := onDev copyStart s

/-- STAGING_COPY_DONE (R104). -/
def execStagingCopyDone (s : State) : Host.Outcome State Fault Refusal := onDev copyDone s

/-- FRAME_BOUNDARY (R103). -/
def execFrameBoundary (s : State) : Host.Outcome State Fault Refusal := onDev atBoundary s

/-- ADMISSION_RESUME: a boundary at which the array waits is evaluated again (R19). -/
def execAdmissionResume (s : State) : Host.Outcome State Fault Refusal :=
  onDev (fun d => if d.flume.waitFrom.isSome && d.flmRun then d.boundary else d) s

/-- FLUME_CLOCK_CHANGE_DONE (R24). -/
def execFlumeClockChangeDone (wait : Nat) (s : State) : Host.Outcome State Fault Refusal := onDev (clockDone wait) s

/-- HEADGATE_WORD (R108). -/
def execHeadgateWord (col : Fin 96) (s : State) : Host.Outcome State Fault Refusal := onDev (headWord col) s

end Sys2Proof.Machine
end

