-- ==== Sys2Proof/Machine/Sentinel.lean ====
section
/-! DEFINITION. The Sentinel: its sample input, filters and envelopes, the spiking core, its rules, log and memory
(R422-R434). -/

namespace Sys2Proof.Machine

namespace Dev

/-! ## Samples (R422, R423) -/

/-- A 16-bit sample of the lanes as a signed number: the lane inversions, then the coding. -/
def senDecode (d : Dev) (v : Nat) : Int :=
  let c := d.rn Reg.senSdiCfg
  let u := v ^^^ (if bit c 8 then 0xFF00 else 0) ^^^ (if bit c 9 then 0xFF else 0)
  if bit c 16 then signedOf 16 u else (u : Int) - 32768

/-! ## Biquads and envelopes (R424, R425) -/

/-- The input that a SRC selects: the sample or the latest output of a section; the manual gives the other codes none. -/
def senInput (d : Dev) (src : Nat) : Int :=
  if src = 0 then d.sen.sample
  else if src ≤ 8 then (d.sen.bq.get {} (src - 1)).y1
  else signedOf 24 d.freeVal.toNat

/-- One section takes its input. -/
def biquad (d : Dev) (k : Nat) : Dev :=
  let src := d.fld (Reg.senBqCfg k) 3 0
  let x := d.senInput src
  let b := d.sen.bq.get {} k
  let co (a : Nat) : Int := signedOf 20 (d.rn a)
  let sum := co (Reg.senBqB0 k) * x + co (Reg.senBqB1 k) * b.x1 + co (Reg.senBqB2 k) * b.x2
    - co (Reg.senBqA1 k) * b.y1 - co (Reg.senBqA2 k) * b.y2
  let r := roundDiv sum 262144
  let y := clampI (-0x800000) 0x7FFFFF r
  let sen : Sen := { d.sen with bq := d.sen.bq.set {} k ⟨x, b.x1, y, b.y1⟩ }
  let d := if 8 < src then d.drew else d
  let d : Dev := { d with sen := sen }
  if y = r then d else d.bump Reg.senBqSat

/-- procedure envelope (R425). -/
def envelope (d : Dev) (k : Nat) : Dev :=
  let c := d.rn (Reg.senEnvCfg k)
  let src := bits c 3 0
  let t := min (d.senInput src).natAbs 0x7FFFFF * 256
  let e := d.sen.env.get 0 k
  let e' := if e < t then e + (t - e) / 2 ^ bits c 11 8 else e - (e - t) / 2 ^ bits c 15 12
  let sen : Sen := { d.sen with env := d.sen.env.set 0 k e' }
  let d := if 8 < src then d.drew else d
  let d : Dev := { d with sen := sen }
  d.setReg (Reg.senEnvVal k) (e' / 256)

/-- A decimated sample passes the sections and the envelopes. -/
def senFilter (d : Dev) (v : Int) : Dev :=
  let sen : Sen := { d.sen with sample := v }
  let d : Dev := { d with sen := sen }
  let d := (List.range 8).foldl biquad d
  (List.range 4).foldl envelope d

/-- The SENT_CLK side takes what the FIFO holds (R423). -/
def senDrain (d : Dev) : Dev :=
  d.sen.fifo.foldl senFilter { d with sen := { d.sen with fifo := [] } }

/-- A decimated sample enters the FIFO of 4 entries, or finds it full and is lost. -/
def senPush (v : Int) (d : Dev) : Dev :=
  if 4 ≤ d.sen.fifo.length then d.bump Reg.senOvr else { d with sen := { d.sen with fifo := d.sen.fifo ++ [v] } }

/-- A frame of the converter arrives: the deserialiser's lock, the decimator, and its FIFO, which the SENT_CLK side has emptied
since the last frame or has not (log entry 76). -/
def senSample (v : Nat) (good taken : Bool) (d : Dev) : Dev :=
  let d := if taken then d.senDrain else d
  if !d.senOn then d else
  let locked := d.flag Reg.senStat 1
  let n := if good then min (d.sen.frames + 1) 64 else 0
  let d := { d with sen := { d.sen with frames := n } }.setFlag Reg.senStat 1 (decide (n = 64))
  if !good || !locked then d else
  let d := d.bump Reg.senSamples
  let dec := d.fld Reg.senSdiCfg 3 0
  let free := decide (8 < dec)
  let dec := if free then d.freeVal.toNat % 9 else dec
  let d := if free then d.drew else d
  let sum := d.sen.sum + d.senDecode v
  let count := d.sen.count + 1
  if count < 2 ^ dec then { d with sen := { d.sen with sum := sum, count := count } }
  else senPush (roundDiv sum (2 ^ dec) * 256) { d with sen := { d.sen with sum := 0, count := 0 } }

/-! ## The sentinel core (R426, R427) -/

/-- Word j of a parameter set; the core has 8 sets, and of a further one the manual gives no word. -/
def senPset (d : Dev) (p j : Nat) : Nat := if p < 8 then d.sen.pset.get 0 (8 * p + j) else d.freeVal.toNat % 2 ^ 32

/-- Decay table of a set. -/
def senDecay (d : Dev) (p : Nat) : Nat → Nat :=
  fun dt => if p < 8 then d.sen.decay.get 0 (p * 256 + dt) else d.freeVal.toNat % 2 ^ 16

/-- A neuron of the sentinel core. -/
def senNeu (d : Dev) (i : Nat) : Neu := neuOf (d.sen.state.get 0 i)

/-- The words of a row. -/
def senRow (d : Dev) (h : Nat) : List Nat :=
  (List.range (hdLen h)).map (fun i => d.sen.syn.get 0 ((hdAddr h + i) % 65536))

/-- Accumulators of one tick: neuron and sum. -/
abbrev SenAcc := SMap (Option Int)

/-- An event's row adds its contributions; a word for a block above 3 is skipped (R204, R427). -/
def senApply (r : Dev × SenAcc × Nat) (e : SenEvent) : Dev × SenAcc × Nat :=
  let d := r.1
  let h := d.sen.header.get 0 e.header
  if !hdValid h then r else
  let syns := (walkRow (hdBlock h) 0 (d.senRow h)).1
  let bad := (syns.filter (fun s => decide (1024 ≤ s.tgt))).length
  let good := syns.filter (fun s => decide (s.tgt < 1024))
  let g := if hdGraded h then e.payload else 256
  let acc := good.foldl (fun (m : SenAcc) s =>
    let wexp := bits (d.senPset (d.senNeu s.tgt).pset 1) 27 24
    let c := truncDiv (s.w * (e.mult * g * 2 ^ wexp : Nat)) 256
    m.set none s.tgt (some (clampI (-0x800000) 0x7FFFFF ((m.get none s.tgt).getD 0 + c)))) r.2.1
  (d.bump Reg.senBadWord bad, acc, r.2.2 + hdLen h)

/-- fire of one neuron (R198 without the Headrace step): its new state, and the multiplicity of its spike, 0 for none. -/
def senFireOne (d : Dev) (t i : Nat) (a : Int) : Neu × Nat :=
  let s := d.senNeu i
  let w0 := d.senPset s.pset 0
  let w1 := d.senPset s.pset 1
  let w2 := d.senPset s.pset 2
  let dt := (t + 2 ^ 32 - s.tlast) % 2 ^ 32
  let v := if bit w1 30 then leak (d.senDecay s.pset) s.v dt else s.v
  let ath := (leak (d.senDecay (bits w2 21 16)) s.ath dt).toNat
  let s := { s with v := v, ath := ath, tlast := t }
  if s.mlast != 0 && decide ((t + 2 ^ 32 - s.tspike) % 2 ^ 32 ≤ bits w0 31 24) then (s, 0) else
  let v := clampI (signedOf 24 w1) 0x7FFFFF (s.v + a)
  let th := bits w0 23 0 + s.ath
  if v < (th : Nat) then ({ s with v := v }, 0) else
  -- with a threshold of 0 the manual gives no quotient: a free multiplicity of 1 to 7 (log entry 2)
  let q := if th = 0 then 1 + d.freeVal.toNat % 7 else v.toNat / th
  let m := if bit w1 29 then min 7 q else 1
  let v' : Int := if ((m + 1) * th : Nat) ≤ v ∨ !bit w1 28 then 0 else v - (m * th : Nat)
  ({ s with v := v', ath := min (s.ath + m * bits w2 15 0) 0xFFFF, tspike := t, mlast := m, head := false }, m)

/-- The fire phase: the neurons that spiked with their multiplicities, in ascending order. -/
def senFire (t : Nat) (r : Dev × List (Nat × Nat)) (c : Nat × Option Int) : Dev × List (Nat × Nat) :=
  let d := r.1
  let f := d.senFireOne t c.1 (c.2.getD 0)
  let unstated := decide (8 ≤ f.1.pset) || decide (8 ≤ bits (d.senPset f.1.pset 2) 21 16) ||
    decide (bits (d.senPset f.1.pset 0) 23 0 = 0)
  let sen : Sen := { d.sen with state := d.sen.state.set 0 c.1 (neuWord f.1) }
  let d := if unstated then d.drew else d
  let d : Dev := { d with sen := sen }
  if f.2 = 0 then (d, r.2) else (d.bump Reg.senSpikes, r.2 ++ [(c.1, f.2)])

/-- The event that a spike sends (R427). -/
def senSpikeEv (d : Dev) (s : Nat × Nat) : List SenEvent :=
  let a := d.sen.axon.get 0 s.1
  if bit a 15 then [⟨bits a 10 0, s.2, 256⟩] else []

/-- Channel events of the end of a tick (R428). -/
def senChannels (d : Dev) : List SenEvent :=
  let ev (c g : Nat) : List SenEvent := if bit c 31 && g != 0 then [⟨bits c 30 20, 1, g⟩] else []
  (List.range 8).flatMap (fun k =>
    let c := d.rn (Reg.senBqCfg k)
    ev c (min 0xFFFF ((d.sen.bq.get {} k).y1.natAbs / 2 ^ bits c 11 8))) ++
  (List.range 4).flatMap (fun k =>
    let c := d.rn (Reg.senEnvCfg k)
    ev c (min 0xFFFF (d.rn (Reg.senEnvVal k) / 2 ^ bits c 19 16)))

/-! ## Rules (R429-R432) -/

/-- The condition of a rule in this tick, and whether the manual gives it none. -/
def senCond (d : Dev) (spikes fired : List Nat) (r : Nat) : Bool × Bool :=
  let c := d.rn (Reg.senRuleCond r)
  let kind := bits c 31 28
  let src := bits c 25 16
  let lvl := d.rn (Reg.senRuleLvl r)
  if kind = 1 then (spikes.contains src, false)
  else if kind = 2 ∧ src < 4 then (decide (lvl ≤ d.rn (Reg.senEnvVal src)), false)
  else if kind = 3 ∧ src < 4 then (decide (d.rn (Reg.senEnvVal src) < lvl), false)
  else if kind = 4 ∧ src < 4 then (bit d.sen.edges src, false)
  else if kind = 5 ∧ src < 16 then (bit d.sen.gtEvents src, false)
  else if kind = 6 ∧ src < r then (fired.contains src, false)
  else (d.freeVal.toNat % 2 == 1, true)

/-- One rule is evaluated: it fires when at least K of its last W results were true, which clears its history. -/
def senRule (spikes : List Nat) (q : Dev × List Nat) (r : Nat) : Dev × List Nat :=
  let d := q.1
  let c := d.rn (Reg.senRuleCond r)
  if bits c 31 28 = 0 then q else
  let x := d.senCond spikes q.2 r
  let d := if x.2 then d.drew else d
  let h := (x.1 :: d.sen.hist.get [] r).take (bits c 7 0)
  let fire := decide (bits c 15 8 ≤ (h.filter id).length)
  let sen : Sen := { d.sen with hist := d.sen.hist.set [] r (if fire then [] else h) }
  let d : Dev := { d with sen := sen }
  if fire then (d.bump (Reg.senRuleFired r), q.2 ++ [r]) else (d, q.2)

/-- A rule's log entry, with the time of R431; the newest 256 stay (R432). -/
def senLog (r tick : Nat) (d : Dev) : Dev :=
  let e : SenLogE := ⟨d.captureTime, r, tick, d.rn (Reg.senEnvVal 0)⟩
  let sen : Sen := { d.sen with log := (e :: d.sen.log).take 256 }
  let d : Dev := { d with sen := sen }
  d.bump Reg.senLogCount

/-- The gate action of a rule (R430). -/
def senGate (d : Dev) (r : Nat) : Dev :=
  let a := d.rn (Reg.senRuleAct r)
  let n := bits a 15 12
  let g := bits a 9 8
  if g = 0 then d else
  let v := if g = 1 then true else if g = 2 then false else !bit d.tb.senGates n
  let tb : Tb := { d.tb with senGates := putBits d.tb.senGates n n (b2n v) }
  let d : Dev := { d with tb := tb }
  d.showGt (d.gtOwner n)

/-- The actions of the rules that fired in one tick: wakes and pulses merge, gates apply in ascending order. A wake does nothing
in RUN and IDLE, and in basic mode it only counts (R421, R430). -/
def senActions (tick : Nat) (fired : List Nat) (d : Dev) : Dev :=
  let act (r b : Nat) : Bool := d.flag (Reg.senRuleAct r) b
  let lines := (List.range 16).filter (fun l => fired.any (fun r => act r 2 && d.fld (Reg.senRuleAct r) 7 4 == l))
  let wakes := fired.any (fun r => act r 0)
  let logs := fired.filter (fun r => act r 1)
  let d := fired.foldl senGate d
  let d := logs.foldl (fun d r => d.senLog r tick) d
  let d := if lines.isEmpty then d else d.crossbarPulse ((lines.map (2 ^ ·)).sum)
  if !wakes || d.pwrState ≤ psIdle then d
  else if d.basic then d.bump Reg.senWakes
  else (d.bump Reg.senWakes).wake [.sentinel]

/-- A slot of the rest sweep of R192 for a neuron of the sentinel core. -/
def senRest (t : Nat) (d : Dev) (i : Nat) : Dev :=
  let s := d.senNeu i
  let dt := (t + 2 ^ 32 - s.tlast) % 2 ^ 32
  let v := if bit (d.senPset s.pset 1) 30 then leak (d.senDecay s.pset) s.v dt else s.v
  let ath := (leak (d.senDecay (bits (d.senPset s.pset 2) 21 16)) s.ath dt).toNat
  let r := if 255 < dt then { s with v := v, ath := ath, tlast := t } else s
  let r := if 0xFFFFFF < (t + 2 ^ 32 - s.tspike) % 2 ^ 32 then { r with mlast := 0, head := false } else r
  if r = s then d else { d with sen := { d.sen with state := d.sen.state.set 0 i (neuWord r) } }

/-- The rest sweep visits the neurons without input in the tick, as the fire phase leaves its slots idle (R192, R427, log entry
133). -/
def senSweep (t : Nat) (fed : List Nat) (d : Dev) : Dev :=
  ((List.range 1024).filter (fun i => !fed.contains i)).foldl (senRest t) d

/-- A write of SEN_CTL. At an enable no edge or timer event is of the tick that begins (R429). -/
def senCtlWrite (v : Nat) (d : Dev) : Dev :=
  let was := d.senOn
  let d := if was then d.setFlag Reg.senCtl 31 (bit v 31) else d.setReg Reg.senCtl (v &&& 0x8000FFFF)
  if was || !bit v 31 then d else { d with sen := { d.sen with edges := 0, gtEvents := 0 } }

/-- A sentinel tick (R426); what the FIFO still holds has passed the sections before its end. -/
def sentinelTick (d : Dev) : Dev :=
  if !d.senOn || d.held unitSentinel then d else
  let d := d.senDrain
  let t := d.rn Reg.senTick
  let a := d.sen.next.foldl senApply (d, ⟨[]⟩, 0)
  let f := a.2.1.cells.foldl (senFire t) (a.1, [])
  let d := senSweep t (a.2.1.cells.map (·.1)) f.1
  let q := (List.range 32).foldl (senRule (f.2.map (·.1))) (d, [])
  let d := q.1
  let next := f.2.flatMap d.senSpikeEv ++ d.senChannels
  let d := senActions t q.2 d
  let sen : Sen := { d.sen with next := next, edges := 0, gtEvents := 0 }
  let d : Dev := { d with sen := sen }
  let d := d.bump Reg.senTick
  if d.fld Reg.senCtl 15 0 < a.2.2 + a.2.1.cells.length + 32 then d.bump Reg.senTickLong else d

/-! ## The Sentinel's memory (R434) -/

/-- Read a word of the memory map; two 16-bit entries share a word, the lower in the low half. -/
def senMemGet (d : Dev) (a : Nat) : Nat :=
  let two (m : SMap Nat) (i : Nat) : Nat := m.get 0 (2 * i) + m.get 0 (2 * i + 1) * 65536
  let part (m : SMap Nat) (w i : Nat) : Nat := bits (m.get 0 (i / w)) (32 * (i % w) + 31) (32 * (i % w))
  if a < 0x1000 then part d.sen.state 4 a
  else if a < 0x1040 then d.sen.pset.get 0 (a - 0x1000)
  else if 0x1100 ≤ a ∧ a < 0x1500 then two d.sen.decay (a - 0x1100)
  else if 0x1800 ≤ a ∧ a < 0x1A00 then two d.sen.axon (a - 0x1800)
  else if 0x2000 ≤ a ∧ a < 0x3000 then part d.sen.header 2 (a - 0x2000)
  else if 0x10000 ≤ a ∧ a < 0x18000 then two d.sen.syn (a - 0x10000)
  else 0

/-- Write a word of the memory map. -/
def senMemPut (d : Dev) (a v : Nat) : Dev :=
  let two (m : SMap Nat) (i : Nat) : SMap Nat := (m.set 0 (2 * i) (v % 65536)).set 0 (2 * i + 1) (v / 65536)
  let part (m : SMap Nat) (w i : Nat) : SMap Nat :=
    m.set 0 (i / w) (putBits (m.get 0 (i / w)) (32 * (i % w) + 31) (32 * (i % w)) v)
  let s := d.sen
  let s : Sen :=
    if a < 0x1000 then { s with state := part s.state 4 a }
    else if a < 0x1040 then { s with pset := s.pset.set 0 (a - 0x1000) v }
    else if 0x1100 ≤ a ∧ a < 0x1500 then { s with decay := two s.decay (a - 0x1100) }
    else if 0x1800 ≤ a ∧ a < 0x1A00 then { s with axon := two s.axon (a - 0x1800) }
    else if 0x2000 ≤ a ∧ a < 0x3000 then { s with header := part s.header 2 (a - 0x2000) }
    else if 0x10000 ≤ a ∧ a < 0x18000 then { s with syn := two s.syn (a - 0x10000) }
    else s
  { d with sen := s }

/-- An access to SEN_MEM_DATA; a write is ignored while SEN_CTL.EN is 1. The read's value is the second component. -/
def senMemAccess (isWrite : Bool) (v : Nat) (d : Dev) : Dev × Nat :=
  if isWrite && d.senOn then (d, 0) else
  let a := d.rn Reg.senMemAddr
  let r := if isWrite then 0 else d.senMemGet a
  let d := if isWrite then d.senMemPut a v else d
  (d.setReg Reg.senMemAddr ((a + 1) % 131072), r)

end Dev

open Dev

/-- SENTINEL_SAMPLE (R422-R425). -/
def execSentinelSample (v : BitVec 16) (good taken : Bool) (s : State) : Host.Outcome State Fault Refusal :=
  onDev (senSample v.toNat good taken) s

/-- SENTINEL_TICK (R426-R432). -/
def execSentinelTick (s : State) : Host.Outcome State Fault Refusal := onDev sentinelTick s

/-- SEN_MEM_ACCESS (R434): a read's value is what the master receives. -/
def execSenMemAccess (isWrite : Bool) (v : Word) (m : Master) (s : State) : Host.Outcome State Fault Refusal :=
  onDev (byMaster m isWrite fun d =>
    let d := d.activity
    if d.fenced Reg.senMemData then
      (if isWrite then d.bump Reg.glbFencedAcc else { d.bump Reg.glbFencedAcc with lastRead := [0] })
    else
      let r := d.senMemAccess isWrite v.toNat
      if isWrite then r.1 else { r.1 with lastRead := [w32 r.2] }) s

end Sys2Proof.Machine
end

