-- ==== Sys2Proof/Machine/Flags.lean ====
section
/-! DEFINITION. The lock bits of RW/L fields, and the value that every register shows: a stored value, or a view of the
state (R10, R61, R115, R185, R216, R247, R248, R272, R295, R382, R405, R433, R434, R454, R475). -/

namespace Sys2Proof.Machine

/-- Which of count registers, stride bytes apart from base, an offset is. -/
def slotOf (a base stride count : Nat) : Option Nat :=
  if base ≤ a ∧ (a - base) % stride = 0 ∧ (a - base) / stride < count then some ((a - base) / stride) else none

namespace Dev

/-- The Spillway by-pass is closed (R334). -/
def bypassClosed (d : Dev) : Bool :=
  d.flag Reg.lkCtl 1 || decide (1 < d.pwrState) || !d.pins.sysRstN || !d.pins.enCore

/-- The lock bit of a register (R10). -/
def lockBit (d : Dev) (l : Lock) (a : Nat) : Bool :=
  match l with
  | .never => false
  | .tbJob => d.flag Reg.tbStat 6
  | .sysRun => d.flag (Reg.sysStat ((a - 0x30100) / 0x20)) 0
  | .mrFlow => d.flow || (d.jobOn && !d.flag Reg.mrStat 4)
  | .laneLink => d.linkEn (d.fld a 6 4)
  | .linkEn => d.linkEn ((a - 0x50400) / 0x40)
  | .strOpen => d.flag (Reg.intkStrStat ((a - 0x51000) / 0x100)) 0
  | .strFir => d.flag (Reg.intkStrStat ((a - 0x58000) / 0x200)) 0
  | .senEn => d.senOn
  | .cdEn => d.flag (Reg.cdCtl ((a - 0x80000) / 0x40)) 0
  | .hrEn => d.flag (Reg.hrCtl ((a - 0x80800) / 0x40)) 0
  | .flmRun => d.flag Reg.flmStat 1
  | .ncJob => d.jobOn
  | .ncJob0 => d.jobOn
  | .bootStep => decide (5 ≤ d.fld Reg.secBootStat 3 0)
  | .jrnlBusy => d.flag Reg.secJrnlStat 16
  | .attBusy => d.flag Reg.secAttStat 31

/-! ## Views -/

/-- The sideband address in force: 0x58 and the sampled straps (R379, R479). -/
def sbAddr (d : Dev) : Nat := 0x58 + d.fld Reg.pwrSupplyStat 10 8

/-- R382, R361. -/
def viewGlobal (d : Dev) (a : Nat) : Nat :=
  if a = Reg.hifStat then putBits (d.rn a) 4 4 (b2n d.bme)
  else if a = Reg.sbStat then d.sbAddr
  else d.rn a

/-- R433, R499: REQ_PEND, EXITING and ENTERING; the supply pins beside the sampled straps. -/
def viewPower (d : Dev) (a : Nat) : Nat :=
  if a = Reg.pwrStat then
    putBits (putBits (putBits (d.rn a) 8 8 (b2n d.reqPend)) 2 2 (b2n d.pwr.exitTo.isSome)) 1 1 (b2n d.entering)
  else if a = Reg.pwrSupplyStat then
    putBits (d.rn a) 3 1 (b2n d.pins.enCore + b2n d.pins.enSd * 2 + b2n d.pins.pgMain * 4)
  else d.rn a

/-- R62: the live TBC, and PAST of the compare units (R53). -/
def viewTimebase (d : Dev) (a : Nat) : Nat :=
  if a = Reg.tbTbcLo then d.tb.tbc % 2 ^ 32
  else if a = Reg.tbTbcHi then d.tb.tbc / 2 ^ 32 % 2 ^ 32
  else match slotOf a (Reg.tbcmpStat 0) 0x10 4 with
    | some n => putBits (d.rn a) 1 1 (b2n (d.flag (Reg.tbcmpStat n) 0 && decide (d.tb.cmp.get 0 n ≤ d.tb.tbc)))
    | none => d.rn a

/-- R454: the log that ERR_SEL names, the slot that ERR_ENT_SEL names, and the lap that DRG_SEL names. -/
def viewErrors (d : Dev) (a : Nat) : Nat :=
  let l := d.log (d.fld Reg.errSel 8 0)
  let lap := d.laps.get {} (d.fld Reg.drgSel 3 0)
  let pend (u : Nat) : Bool := !(d.log u).todo.isEmpty
  let mask (n : Nat) (p : Nat → Bool) : Nat := (List.range n).foldl (fun v i => v + b2n (p i) * 2 ^ i) 0
  if a = Reg.errStat then putBits (d.rn a) 31 31 (b2n d.basic)
  else if a = Reg.errPendOther then mask 10 (fun i => pend (0x100 + i)) + mask 16 (fun i => pend (0x110 + i)) * 65536
  else if a = Reg.errWr then l.wr % 2 ^ 32
  else if a = Reg.errHnd then l.hnd % 2 ^ 32
  else if a = Reg.errLost then l.lost % 2 ^ 32
  else if a = Reg.errUstat then b2n (!l.todo.isEmpty) + b2n (decide (8 ≤ l.wr - l.hnd)) * 2 + b2n l.held * 4
  else if a = Reg.errCnt 0 then l.cntEvent % 2 ^ 32
  else if a = Reg.errCnt 1 then l.cntData % 2 ^ 32
  else if a = Reg.errCnt 2 then l.cntFail % 2 ^ 32
  else if a = Reg.errCnt 3 then l.cntFatal % 2 ^ 32
  else if a = Reg.drgLap then lap.last
  else if a = Reg.drgAge then min ((d.tb.tbc - lap.began) / 1600) 0xFFFFFFFF
  else if a = Reg.drgLaps then lap.laps % 2 ^ 32
  else if a = Reg.drgFound then lap.found % 2 ^ 32
  else match slotOf a (Reg.errEnt 0) 4 4, slotOf a (Reg.errPendNc 0) 4 8 with
    | some j, _ => bits (l.entries.get 0 (d.fld Reg.errEntSel 2 0)).toNat (32 * j + 31) (32 * j)
    | _, some j => mask 32 (fun i => pend (32 * j + i))
    | none, none => d.rn a

/-- R85: the coefficients of this stepping, and LAT_MISMATCH of a link. -/
def viewIntake (d : Dev) (a : Nat) : Nat :=
  match slotOf a (Reg.intkHbCoef 0) 4 6 with
  | some k => (Config.halfBandCoef k).toNat
  | none =>
  match slotOf a (Reg.intkLinkStat 0) 0x40 6 with
  | some n => putBits (d.rn a) 2 2 (b2n (d.latMismatch n))
  | none => d.rn a

/-- R423, R434: RUN, OVR while the FIFO is full, and the log entry that SEN_LOG_SEL names. -/
def viewSentinel (d : Dev) (a : Nat) : Nat :=
  let e := d.sen.log[d.fld Reg.senLogSel 7 0]?
  let g (f : SenLogE → Nat) : Nat := match e with
    | some x => f x
    | none => 0
  if a = Reg.senStat then putBits (putBits (d.rn a) 0 0 (b2n d.senOn)) 2 2 (b2n (d.sen.fifo.length == 4))
  else if a = Reg.senMemData then d.senMemGet (d.rn Reg.senMemAddr)
  else if a = Reg.senLogTbcLo then g (fun x => x.tbc % 2 ^ 32)
  else if a = Reg.senLogTbcHi then g (fun x => x.tbc / 2 ^ 32 % 2 ^ 32)
  else if a = Reg.senLogInfo then g (fun x => 2 ^ 31 + x.rule % 32 * 2 ^ 24 + x.val % 2 ^ 24)
  else if a = Reg.senLogTick then g (fun x => x.tick)
  else d.rn a

/-- R115, R185, R295: the executed cycles, the selected cell, epochs, verdicts, gauges and window counters. -/
def viewFlume (d : Dev) (a : Nat) : Nat :=
  let row := d.fld Reg.flmCellSel 14 8
  let col := d.fld Reg.flmCellSel 6 0
  -- no cell, or one in an unpowered quadrant: every cell register reads 0 (log entry 103)
  let on := d.powered row col
  let x := if on then d.cell row col else {}
  let held := if on then d.flume.faults.get (0, 0) (cellKey row col) else (0, 0)
  if a = Reg.flmStat then
    putBits (putBits (d.rn a) 5 5 (b2n (d.flume.staged.any (fun s => s.mode == .copying)))) 6 6 (b2n d.colsShort)
  else if a = Reg.flmEccLo then d.flume.ecc % 2 ^ 32
  else if a = Reg.flmEccHi then d.flume.ecc / 2 ^ 32 % 2 ^ 32
  else if a = Reg.flmInflight then d.inFlight.length
  else if a = Reg.flmCellStat then
    x.slot % 512 + held.1 * 2 ^ 16 + b2n x.failed * 2 ^ 28 + b2n on * 2 ^ 29 +
      b2n (held.1 != 0) * 2 ^ 30 + b2n x.halted * 2 ^ 31
  else if a = Reg.flmCellOcc then (List.range 8).foldl (fun v k => v + (x.chans.get [] k).length * 2 ^ (3 * k)) 0
  else if a = Reg.flmCellOrphans then if on then d.flume.orphans.get 0 (cellKey row col) else 0
  else if a = Reg.flmCellFaultEccLo then held.2 % 2 ^ 32
  else if a = Reg.flmCellFaultEccHi then held.2 / 2 ^ 32 % 2 ^ 32
  else if a = Reg.flmEpoch then putBits (d.rn a) 15 8 d.oldestEpoch
  else if a = Reg.flmEpochStat then
    let held := !d.flume.shadow.isEmpty
    b2n d.flume.swapPend + b2n d.shadowBusy * 2 + b2n (held && !d.shadowBusy) * 4 + b2n (held && d.shadowBusy) * 8
  else if a = Reg.flmLadderStat then d.rerunQueue.length % 32 + d.flume.passed.length % 32 * 256
  else if a = Reg.jnStat then
    putBits (d.rn a) 3 3 (b2n ((List.range 16).any (fun e => decide (8192 ≤ (d.jn.active.map (fun f => storeUsed f.trains e 0)).sum))))
  else if a = Reg.jnWlive then d.jn.wctr.get 0 (d.fld Reg.jnWsel 11 0)
  else if a = Reg.jnWlast then d.jn.wlast.get 0 (d.fld Reg.jnWsel 11 0)
  else if let some n := slotOf a (Reg.flmColmap 0) 4 4 then
    (List.range 32).foldl (fun v k => v + b2n (decide (32 * n + k < 100) && d.colOff (32 * n + k)) * 2 ^ k) 0
  else match slotOf a (Reg.flmGhist 0) 4 16, slotOf a (Reg.gaugeStat 0) 0x20 64 with
    | some b, _ => d.flume.hist.get 0 (d.fld Reg.flmGhistSel 5 0 * 16 + b)
    | _, some n => b2n (d.gaugeLow n) + b2n (d.gaugeHigh n) * 2 + b2n (d.gaugeDrift n) * 4
    | none, none => d.rn a

/-- R248: OVERDUE, and the tick-log entry that MR_TLOG_SEL names. -/
def viewFabric (d : Dev) (a : Nat) : Nat :=
  let e := d.bar.tlog[d.fld Reg.mrTlogSel 5 0]?
  let g (f : TlogE → Nat) : Nat := match e with
    | some x => f x
    | none => 0
  if a = Reg.mrStat then putBits (d.rn a) 2 2 (b2n (d.flow && decide (d.nominalEnd d.openTick < d.tb.tbc)))
  else if a = Reg.mrTlogTick then g (·.tick)
  else if a = Reg.mrTlogAtLo then g (fun x => x.at_ % 2 ^ 32)
  else if a = Reg.mrTlogAtHi then g (fun x => x.at_ / 2 ^ 32 % 2 ^ 32)
  else if a = Reg.mrTlogInfo then g (fun x => 2 ^ 31 + x.flags)
  else d.rn a

/-- R216, R247, R272: an NC's window. -/
def viewNc (d : Dev) (n a : Nat) : Nat :=
  let x := d.nc n
  let o := a % 0x1000
  if o = 0x04 then
    let phys := d.fld (Reg.ncMap n) 20 16
    let mapped := d.rn (Reg.ncMap 1) != 0 && decide (d.pwrState ≤ 1)
    let due (t : Nat) : Bool := decide (tickDiff t x.openTick ≤ 0)
    let waiting := x.inJob && d.flow && d.openTick == x.openTick && !x.missq.any (fun e => due e.tick) &&
      !x.peq.any (fun e => due e.tick) && !x.events.any (fun p => due (fullTick x.openTick (pkTick p)))
    let v := putBits (putBits (d.rn a) 0 0 (b2n mapped)) 1 1 (b2n d.jobOn)
    let v := putBits (putBits v 4 4 (b2n (!x.fetches.isEmpty))) 5 5 (b2n (decide (256 ≤ x.missq.length)))
    putBits (putBits v 2 2 (b2n waiting)) 6 6 (b2n (mapped && phys != n % 16))
  else if o = 0x14 then (x.dirty.cells.filter (fun c => c.2 && c.1 / 16384 == x.openTick % 2)).length
  else if o = 0x18 then x.missq.length
  else if o = 0x74 then b2n x.snap.isSome
  else if o = 0x200 then
    b2n ((List.range 8).any (fun k => d.flag (Reg.lrnCtl n k) 31)) + b2n (decide (256 ≤ x.peq.length)) * 2 +
      b2n (!x.heldUpd.isEmpty) * 4 + b2n (x.inJob && d.ckptRuns) * 8 + d.fld a 4 4 * 16
  else if o = 0x204 then x.peq.length
  else if o = 0x208 then (List.range 4).foldl (fun v b => v + (x.banks.get [] b).length * 2 ^ (8 * b)) 0
  else if o = 0x234 then x.dt.get 0 (d.fld (Reg.lrnTsel n) 11 0)
  else if o = 0x404 then
    putBits (putBits (d.rn a) 0 0 (b2n (x.failed || d.flag (Reg.ncStat n) 7))) 1 1 (b2n (d.router n).winFrom.isSome)
  else if o = 0x438 then (d.rn a + d.waited (d.router n).winFrom) % 2 ^ 32
  else if o = 0x43C then (d.rn a + d.waited (d.router n).hintFrom) % 2 ^ 32
  else if o = 0x410 then
    let y := d.router n
    let v := d.fld (Reg.rtWsel n) 3 0
    y.acked.get 0 v % 4096 + y.nextSeq.get 0 v % 4096 * 65536
  else d.rn a

/-- R475. -/
def viewSecurity (d : Dev) (a : Nat) : Nat :=
  if a = Reg.secTamper then putBits (d.rn a) 4 4 (b2n (!d.pins.tamperN)) else d.rn a

/-- What a register shows: action bits and write-only registers read 0 (R10). -/
def view (d : Dev) (a : Nat) : Nat :=
  if a < 0x10000 then d.viewGlobal a
  else if a < 0x20000 then (if (slotOf a (Reg.h2mData 0) 0x10 32).isSome then 0 else d.rn a)
  else if a < 0x30000 then d.viewPower a
  else if a < 0x40000 then d.viewTimebase a
  else if a < 0x50000 then d.viewErrors a
  else if a < 0x60000 then d.viewIntake a
  else if a < 0x70000 then d.viewSentinel a
  else if a < 0x100000 then d.rn a
  else if a < 0x200000 then d.viewFlume a
  else if a < 0x300000 then
    (if 0x600 ≤ a % 0x1000 ∧ a % 0x1000 < 0x700 then d.viewFabric a else d.viewNc ((a - 0x200000) / 0x1000) a)
  else if a < 0x500000 then d.rn a
  else d.viewSecurity a

end Dev

end Sys2Proof.Machine
end

