-- ==== Sys2Proof/Machine/Registers.lean ====
section
/-! DEFINITION. Accesses to BAR0: every register's write and read, the bit alias, refused requests and the sideband target
(R10, R302, R351-R354, R363, R379, R380). -/

namespace Sys2Proof.Machine

/-- CRC-8 of SMBus, polynomial x^8 + x^2 + x + 1 (R379). -/
def crc8 (l : List Nat) : Nat :=
  l.foldl (fun c b => (List.range 8).foldl (fun c _ =>
    if c / 128 = 1 then (c * 2 % 256) ^^^ 7 else c * 2) (c ^^^ b % 256)) 0

/-- Action bits (WS) of a register (R10). -/
def wsMask (a : Nat) : Nat :=
  if a = Reg.tbCap ∨ a = Reg.tbLoad ∨ a = Reg.flmEpochCtl ∨ a = Reg.jnRqSkip ∨ a = Reg.secBootCtl ∨ a = Reg.secSvnCommit ∨
      a = Reg.secAttCtl then 1
  else if (slotOf a (Reg.trgoCtl 0) 0x20 8).isSome then 4
  else if a = Reg.pwrCtl ∨ a = Reg.secLcCtl ∨ (slotOf a (Reg.sysCtl 0) 0x20 8).isSome ∨ (slotOf a (Reg.intkStrCtl 0) 0x100 64).isSome then
    0x80000000
  else 0

namespace Dev

/-- Bits of a register that a write sets now (R10). -/
def setMask (d : Dev) (a : Nat) : Nat :=
  match findReg a with
  | some r => r.rw ||| (if d.lockBit r.lock a then 0 else r.rwl)
  | none => 0

/-- A write of a register with no behaviour of its own. -/
def plainWrite (a v : Nat) (d : Dev) : Dev :=
  let m : Word := BitVec.ofNat 32 (d.setMask a)
  let w : Word := BitVec.ofNat 32 v
  d.setReg a ((d.reg a &&& ~~~m) ||| (w &&& m)).toNat

/-! ## Writes by block -/

/-- R361, R362, R455. -/
def writeGlobal (a v : Nat) (d : Dev) : Dev :=
  if a = Reg.glbReset then (if v = 0xA5A then d.wholeReset else d.bump Reg.glbResetBad)
  else match slotOf a (Reg.intVecSeen 0) 8 64, slotOf a (Reg.msixCtl 0) 0x10 64 with
    | some n, _ => d.seenWrite n v
    | _, some n => if d.flag a 0 && !bit v 0 then d.unmask n else d.setFlag a 0 (bit v 0)
    | none, none => d.plainWrite a v

/-- R366-R368, R383, R385. The MP's port writes M2H_n_DATA and H2M_n_ACK. -/
def writeMailbox (m : Master) (a v : Nat) (d : Dev) : Dev :=
  match slotOf a (Reg.h2mData 0) 0x10 32 with
  | some n => d.h2mWrite n m v
  | none =>
  match slotOf a (Reg.m2hData 0) 0x10 32, slotOf a (Reg.h2mAck 0) 0x10 32 with
  | some n, _ => if m = .mp then mpWord n v d else d
  | _, some n => if m = .mp then mpAck n v d else d
  | none, none =>
  match slotOf a (Reg.m2hAck 0) 0x10 32 with
  | some n => d.m2hAckWrite n m (v &&& 0x8000FFFF)
  | none =>
  match slotOf a (Reg.mbxLock 0) 4 32 with
  | some n => d.lockRelease n m v
  | none =>
  match slotOf a (Reg.vciArgs 0) 4 512 with
  | some k => d.argWrite (k / 16) (k % 16) m v
  | none => d.plainWrite a v

/-- R39, R46, R52, R53, R58-R60, R293. -/
def writeTimebase (a v : Nat) (d : Dev) : Dev :=
  if a = Reg.tbCtl then d.tbCtlWrite v
  else if a = Reg.tbCap then (if bit v 0 then d.captureTbc else d)
  else if a = Reg.tbLoad then (if bit v 0 then d.loadArm else d)
  else if a = Reg.tbPpso then d.ppsoWrite v
  else
  match slotOf a (Reg.sysCtl 0) 0x20 8 with
  | some n => d.sysCtlWrite n v
  | none =>
  match slotOf a (Reg.tbcmpLo 0) 0x10 4 with
  | some n => d.cmpArm n v
  | none =>
  match slotOf a (Reg.gtCtl 0) 0x20 16 with
  | some n => d.gtCtlWrite n v
  | none =>
  match slotOf a (Reg.gtCnt 0) 0x20 16 with
  | some n => d.gtCntWrite n v
  | none =>
  match slotOf a (Reg.gtCmp 0) 0x20 16 with
  | some n => d.gtCmpWrite n v
  | none =>
  match slotOf a (Reg.trgoCtl 0) 0x20 8 with
  | some p => d.trgoWrite p (v &&& 0xFFFF0007)
  | none => d.plainWrite a v

/-- R66, R74, R82. -/
def writeIntake (a v : Nat) (d : Dev) : Dev :=
  match slotOf a (Reg.intkLinkCtl 0) 0x40 6 with
  | some n => d.linkCtlWrite n v
  | none =>
  match slotOf a (Reg.intkStrFtwLo 0) 0x100 64 with
  | some n => d.ftwPostTo n v
  | none =>
  match slotOf a (Reg.intkStrCtl 0) 0x100 64 with
  | some n => if bit v 31 then (d.plainWrite a v).setFlag (Reg.intkStrStat n) 4 true else d.plainWrite a v
  | none => d.plainWrite a v

/-- R371-R376. -/
def writeConduit (a v : Nat) (d : Dev) : Dev :=
  match slotOf a (Reg.cdCtl 0) 0x40 16 with
  | some c => d.cdCtlWrite c v
  | none =>
  match slotOf a (Reg.cdHead 0) 0x40 16 with
  | some c => d.cdHeadWrite c v
  | none =>
  match slotOf a (Reg.hrCtl 0) 0x40 32 with
  | some r => d.ringCtlWrite r v
  | none =>
  match slotOf a (Reg.hrSize 0) 0x40 32 with
  | some _ => d.plainWrite a (max 16 (min v 0x1000000))
  | none => d.plainWrite a v

/-- R177, R289. -/
def writeFlume (a v : Nat) (d : Dev) : Dev :=
  if a = Reg.flmEpochCtl then (if bit v 0 then d.requestSwap else d)
  else if a = Reg.jnRqRd then d.rqAdvance v
  else if a = Reg.jnRqSkip then (if bit v 0 then d.rqSkip else d)
  else d.plainWrite a v

/-- R192, R227, R272. A group entry whose column mask names a column that the variant lacks is refused. -/
def writeMillrace (a v : Nat) (d : Dev) : Dev :=
  let n := (a - 0x200000) / 0x1000
  let o := a % 0x1000
  if o = 0x70 then d.nselWrite n v
  else if o = 0x234 then
    (if d.jobOn then d else d.setNc n { d.nc n with dt := (d.nc n).dt.set 0 (d.fld (Reg.lrnTsel n) 11 0) (v % 256) })
  else if 0x510 ≤ o ∧ o < 0x600 ∧ o % 16 = 8 ∧ v % 65536 / 2 ^ d.meshCols ≠ 0 then d
  else d.plainWrite a v

/-- R330, R337. -/
def writeLeat (a v : Nat) (d : Dev) : Dev :=
  match slotOf a (Reg.lkPortCfg 0) 0x80 4 with
  | some p => if d.jobOn then d else d.portCfgSet p (v &&& 0x87EF300F)
  | none =>
    let d := d.plainWrite a v
    if 0x300400 ≤ a ∧ a < 0x300500 then d.showRoutes else if a = Reg.lkSysid then d.showSysid else d

/-- R315. -/
def writeMemory (a v : Nat) (d : Dev) : Dev :=
  match slotOf a (Reg.pondPwr 0) 4 4 with
  | some j => d.pondPwrWrite j v
  | none => d.plainWrite a v

/-- R458, R469, R471, R474. -/
def writeSecurity (a v : Nat) (d : Dev) : Dev :=
  if a = Reg.secBootCtl then d.bootGo v
  else if a = Reg.secSvnCommit then (if bit v 0 then d.svnCommit else d)
  else if a = Reg.secLcCtl then d.lifeCycle v
  else if a = Reg.secAttCtl then (if bit v 0 then d.attestGo else d)
  else if Reg.secAttNonce 0 ≤ a ∧ a < Reg.secAttNonce 8 ∧ d.flag Reg.secAttStat 31 then d.bump Reg.secAttIgnored
  else d.plainWrite a v

/-- A write to an assigned register that a domain serves. -/
def regWrite (m : Master) (a v : Nat) (d : Dev) : Dev :=
  if a < 0x10000 then d.writeGlobal a v
  else if a < 0x20000 then d.writeMailbox m a v
  else if a < 0x30000 then (if a = Reg.pwrCtl then d.pwrCtlWrite v else d.plainWrite a v)
  else if a < 0x40000 then d.writeTimebase a v
  else if a < 0x50000 then d.plainWrite a v
  else if a < 0x60000 then d.writeIntake a v
  else if a < 0x70000 then (if a = Reg.senMemData then (d.senMemAccess true v).1 else if a = Reg.senCtl then d.senCtlWrite v else d.plainWrite a v)
  else if a < 0x100000 then d.writeConduit a v
  else if a < 0x200000 then d.writeFlume a v
  else if a < 0x300000 then d.writeMillrace a v
  else if a < 0x400000 then d.writeLeat a v
  else if a < 0x500000 then d.writeMemory a v
  else d.writeSecurity a v

/-! ## Accesses (R352-R354) -/

/-- The offset has a register, and its unit is present (R2, R353). -/
def assigned (d : Dev) (off : Nat) : Bool := (findReg (canonReg off)).isSome && !d.absentReg off

/-- The security block is closed to the application cores (R302). -/
def closedTo (m : Master) (a : Nat) : Bool :=
  match m with
  | .core _ => decide (0x500000 ≤ a) && decide (a < 0x600000)
  | .service _ => a != Reg.jnWsel
  | _ => false

/-- A write of one register by a master. -/
def busWrite (m : Master) (off v : Nat) (d : Dev) : Dev :=
  let a := canonReg off
  if d.fenced a then d.bump Reg.glbFencedAcc
  else if !d.assigned off || closedTo m a then d
  else d.regWrite m a v

/-- A read of one register by a master, with its effects (R353, R364, R368, R405, R434). -/
def busRead (m : Master) (off : Nat) (d : Dev) : Dev × Nat :=
  let a := canonReg off
  if d.fenced a then (d.bump Reg.glbFencedAcc, 0)
  else if !d.assigned off || closedTo m a then (d, 0)
  else
  match slotOf a (Reg.mbxLock 0) 4 32 with
  | some n =>
    let r := d.lockRead n [m]
    (r, ((r.lastRead.map (·.toNat)).headD 0))
  | none =>
  match slotOf a (Reg.m2hData 0) 0x10 32 with
  | some n =>
    let r := d.m2hRead n m
    (r, ((r.lastRead.map (·.toNat)).headD 0))
  | none =>
  match slotOf a (Reg.vciRess 0) 4 512 with
  | some k => (d, if d.pairOwner (k / 16) = ownerOf m then d.rn a else 0)
  | none => if a = Reg.senMemData then d.senMemAccess false 0 else (d, d.view a)

/-- The register and bit of an alias offset (R354). -/
def aliasOf (off : Nat) : Nat × Nat := ((off - 0x1000000) / 128 * 4, (off - 0x1000000) / 4 % 32)

/-- Registers whose alias reads 0 and ignores writes. -/
def noAlias (a : Nat) : Bool :=
  (slotOf a (Reg.mbxLock 0) 4 32).isSome || (slotOf a (Reg.h2mData 0) 0x10 32).isSome || (slotOf a (Reg.m2hData 0) 0x10 32).isSome

/-- A write through the alias: the register is written with every other bit unchanged. -/
def aliasWrite (m : Master) (off v : Nat) (d : Dev) : Dev :=
  let x := aliasOf off
  if d.fenced x.1 then d.bump Reg.glbFencedAcc
  else if noAlias x.1 then d
  else d.busWrite m x.1 (putBits (d.view x.1) x.2 x.2 (v % 2))

/-- A read through the alias. -/
def aliasRead (m : Master) (off : Nat) (d : Dev) : Dev × Nat :=
  let x := aliasOf off
  if d.fenced x.1 then (d.bump Reg.glbFencedAcc, 0)
  else if noAlias x.1 then (d, 0)
  else
    let r := d.busRead m x.1
    (r.1, bits r.2 x.2 x.2)

/-- An aligned access anywhere in BAR0. -/
def barWrite (m : Master) (off v : Nat) (d : Dev) : Dev := if 0x1000000 ≤ off then d.aliasWrite m off v else d.busWrite m off v
def barRead (m : Master) (off : Nat) (d : Dev) : Dev × Nat := if 0x1000000 ≤ off then d.aliasRead m off else d.busRead m off

/-! ## Several masters in one cycle (R363) -/

/-- Writes in the order in which they are applied. -/
def orderWrites : List RegWrite → List RegWrite
  | [] => []
  | w :: ws =>
    let l := orderWrites ws
    let before := l.takeWhile (fun x => decide (rankOf x.m < rankOf w.m))
    before ++ w :: l.drop before.length

/-- Bits that some writes set to different values; a write is given by the bits that it sets and their values. -/
def contended (ws : List (Nat × Nat)) : Nat :=
  let ones := ws.foldl (fun m w => m ||| (w.1 &&& w.2)) 0
  let zeros := ws.foldl (fun m w => m ||| (w.1 &&& (w.2 ^^^ 0xFFFFFFFF))) 0
  popcount 32 (ones &&& zeros)

/-- Where a write of the cycle goes: the offset itself, or the alias of one of its bits. A bit of a register without an alias has
no offset in BAR0 (R354). -/
def writeAt (off : Nat) (w : RegWrite) : Nat :=
  match w.bit with
  | none => off
  | some b => if off < 0x80000 then 0x1000000 + off * 32 + b * 4 else 0x2000000

/-- The bits that a write sets now, and their values: a whole register, or one bit through the alias. -/
def writeBits (d : Dev) (off : Nat) (w : RegWrite) : Nat × Nat :=
  if 0x1000000 ≤ off then
    let x := aliasOf off
    (if noAlias x.1 then 0 else 2 ^ x.2 &&& (d.setMask x.1 ||| wsMask x.1), w.value.toNat % 2 * 2 ^ x.2)
  else (d.setMask (canonReg off) ||| wsMask (canonReg off), w.value.toNat)

/-- One write of the cycle is applied; an action bit that an earlier write of 1 has started is not started again. -/
def applyWrite (off : Nat) (x : Dev × Nat) (w : RegWrite) : Dev × Nat :=
  let at_ := writeAt off w
  if 0x2000000 ≤ at_ then x else
  let b := x.1.writeBits at_ w
  let again := b.1 &&& b.2 &&& x.2
  let v := if at_ < 0x1000000 then w.value.toNat &&& (0xFFFFFFFF ^^^ again) else if again = 0 then w.value.toNat else 0
  (x.1.barWrite w.m at_ v, x.2 ||| (b.1 &&& b.2 &&& wsMask (if 0x1000000 ≤ at_ then (aliasOf at_).1 else canonReg at_)))

/-- REGISTER_WRITE: the writes of one cycle to one register, each to the whole of it or to one bit through the alias. A reset
discards the others; an action starts once. -/
def registerWrite (off : Nat) (writes : List RegWrite) (d : Dev) : Dev :=
  let at_ := if 0x1000000 ≤ off then (aliasOf off).1 else canonReg off
  let may (w : RegWrite) : Bool := d.reaches w.m || d.windowSelect w.m at_
  let ws := orderWrites (writes.filter may)
  -- the service program faults on what is not mapped for it
  let d := (writes.filter (fun w => !may w)).foldl (fun d w => d.byMaster w.m true id) d
  if ws.isEmpty then d else
  let d := d.activity
  if off % 4 ≠ 0 then d.bump Reg.glbBadacc ws.length
  else
    let apply := ws.filter (fun w => !closedTo w.m at_ && decide (writeAt off w < 0x2000000))
    let live := d.assigned (if 0x1000000 ≤ off then at_ else off) && !d.fenced at_
    let d := if live then d.bump Reg.glbContention (contended (apply.map (fun w => d.writeBits (writeAt off w) w))) else d
    if off = Reg.glbReset ∧ ws.any (fun w => w.bit.isNone && w.value.toNat == 0xA5A) then d.barWrite .host off 0xA5A
    else (ws.foldl (applyWrite off) (d, 0)).1

/-! ## Refused requests (R352) and the sideband (R379) -/

/-- A request that BAR0 accepts: one aligned DW, or two at an 8-byte-aligned address, with all byte enables. -/
def legalRequest (off dws be : Nat) : Bool := be == 15 && ((dws == 1 && off % 4 == 0) || (dws == 2 && off % 8 == 0))

/-- A BAR0 request of the host. -/
def hostRequest (isWrite : Bool) (off dws be : Nat) (data : List Nat) (d : Dev) : Dev :=
  if !d.reaches .host then d else
  let d := d.activity
  if legalRequest off dws be then
    let offs := (List.range dws).map (fun i => off + 4 * i)
    if isWrite then (offs.zip data).foldl (fun d x => d.barWrite .host x.1 x.2) d
    else
      let r := offs.foldl (fun (x : Dev × List Nat) o =>
        let y := x.1.barRead .host o
        (y.1, x.2 ++ [y.2])) (d, [])
      { r.1 with lastRead := r.2.map w32 }
  else if isWrite then d.bump Reg.glbBadacc
  else
    let r := d.barRead .host (off / 4 * 4)
    { r.1.bump Reg.glbBadacc with lastRead := w32 r.2 :: List.replicate (dws - 1) 0 }

/-- PEC of a sideband transaction: CRC-8 of the address and the bytes after it. -/
def pecOf (d : Dev) (bytes : List Nat) : Nat := crc8 (d.sbAddr * 2 :: bytes)

/-- Bytes of an offset, least significant first. -/
def offBytes (off : Nat) : List Nat := [off % 256, off / 256 % 256, off / 65536 % 256]

/-- A sideband write transaction; SB_CTL.PEC asks for a right PEC. -/
def sidebandWrite (cmd off v : Nat) (pec : Option Nat) (d : Dev) : Dev :=
  if !d.reaches .sideband then d else
  let d := d.activity
  let good := pec == some (d.pecOf (cmd :: offBytes off ++ (toBytes 4 v).map (·.toNat)))
  if d.flag Reg.sbCtl 0 && !good then d.bump Reg.sbPecErr
  else if cmd ≠ 1 ∨ off % 4 ≠ 0 then d.bump Reg.glbBadacc
  else d.busWrite .sideband off v

/-- A sideband read transaction: the word, and a PEC byte with SB_CTL.PEC. -/
def sidebandRead (cmd off : Nat) (d : Dev) : Dev :=
  if !d.reaches .sideband then d else
  let d := d.activity
  let r := d.busRead .sideband (off / 4 * 4)
  let d := if cmd ≠ 2 ∨ off % 4 ≠ 0 then r.1.bump Reg.glbBadacc else r.1
  let at_ := d.sbAddr * 2 + 1
  let pec := d.pecOf (cmd :: offBytes off ++ at_ :: (toBytes 4 r.2).map (·.toNat))
  { d with lastRead := if d.flag Reg.sbCtl 0 then [w32 r.2, w32 pec] else [w32 r.2] }

end Dev

open Dev

/-- REGISTER_WRITE (R10, R363). -/
def execRegisterWrite (off : BitVec 25) (writes : List RegWrite) (s : State) : Host.Outcome State Fault Refusal :=
  onDev (registerWrite off.toNat writes) s

/-- BAR0_BAD_ACCESS (R352). -/
def execBar0BadAccess (isWrite : Bool) (off : BitVec 25) (dws : Nat) (be : BitVec 4) (data : List Word) (s : State) :
    Host.Outcome State Fault Refusal :=
  onDev (hostRequest isWrite off.toNat dws be.toNat (data.map (·.toNat))) s

/-- BIT_ALIAS_WRITE (R354): off is an offset of the alias, from its base. -/
def execBitAliasWrite (off : BitVec 25) (value : Word) (m : Master) (s : State) : Host.Outcome State Fault Refusal :=
  onDev (byMaster m true (fun d => d.activity.aliasWrite m (0x1000000 + off.toNat % 0x1000000) value.toNat)) s

/-- SIDEBAND_WRITE (R379). -/
def execSidebandWrite (command : Byte) (off : BitVec 24) (v : Word) (pec : Option Byte) (s : State) :
    Host.Outcome State Fault Refusal :=
  onDev (sidebandWrite command.toNat off.toNat v.toNat (pec.map (·.toNat))) s

/-- SIDEBAND_READ (R379). -/
def execSidebandRead (command : Byte) (off : BitVec 24) (s : State) : Host.Outcome State Fault Refusal :=
  onDev (sidebandRead command.toNat off.toNat) s

end Sys2Proof.Machine
end

