-- ==== Sys2Proof/Machine/Dispatch.lean ====
section
/-! DEFINITION. One arm for every command of the opcode table. -/

namespace Sys2Proof.Machine

/-- The effect of a command on everything but the queue. -/
def exec (i : Instr) (s : State) : Host.Outcome State Fault Refusal :=
  match i with
  | .registerWrite off writes => Sys2Proof.Machine.execRegisterWrite off writes s
  | .bar0BadAccess isWrite off dws be data => Sys2Proof.Machine.execBar0BadAccess isWrite off dws be data s
  | .bitAliasWrite off value m => Sys2Proof.Machine.execBitAliasWrite off value m s
  | .tbCapGo => Sys2Proof.Machine.execTbCapGo s
  | .tbLoadArm => Sys2Proof.Machine.execTbLoadArm s
  | .tbCtlWrite v => Sys2Proof.Machine.execTbCtlWrite v s
  | .tbPpsInEdge fine => Sys2Proof.Machine.execTbPpsInEdge fine s
  | .referenceLost => Sys2Proof.Machine.execReferenceLost s
  | .ppsLost => Sys2Proof.Machine.execPpsLost s
  | .lockDwellExpiry => Sys2Proof.Machine.execLockDwellExpiry s
  | .timesyncExchangeStart fines => Sys2Proof.Machine.execTimesyncExchangeStart fines s
  | .timesyncReq port xseq fine2 turn fine3 => Sys2Proof.Machine.execTimesyncReq port xseq fine2 turn fine3 s
  | .timesyncReply port xseq fine4 => Sys2Proof.Machine.execTimesyncReply port xseq fine4 s
  | .timesyncFollow port xseq t1 d41 => Sys2Proof.Machine.execTimesyncFollow port xseq t1 d41 s
  | .timesyncTimeout port => Sys2Proof.Machine.execTimesyncTimeout port s
  | .sysrefModeWrite n v => Sys2Proof.Machine.execSysrefModeWrite n v s
  | .sysrefFire n => Sys2Proof.Machine.execSysrefFire n s
  | .sysrefPulse n => Sys2Proof.Machine.execSysrefPulse n s
  | .sysrefPulseEnd n => Sys2Proof.Machine.execSysrefPulseEnd n s
  | .ppsOutEdge => Sys2Proof.Machine.execPpsOutEdge s
  | .ppsOutFall => Sys2Proof.Machine.execPpsOutFall s
  | .tbClkoWrite v => Sys2Proof.Machine.execTbClkoWrite v s
  | .tbcmpArm n lo => Sys2Proof.Machine.execTbcmpArm n lo s
  | .tbcmpMatch n => Sys2Proof.Machine.execTbcmpMatch n s
  | .gtMatch n => Sys2Proof.Machine.execGtMatch n s
  | .gtOverflow n => Sys2Proof.Machine.execGtOverflow n s
  | .gtCntWrite n v => Sys2Proof.Machine.execGtCntWrite n v s
  | .gtCmpWrite n v => Sys2Proof.Machine.execGtCmpWrite n v s
  | .gtCtlWrite n v => Sys2Proof.Machine.execGtCtlWrite n v s
  | .gtWriteApply n => Sys2Proof.Machine.execGtWriteApply n s
  | .linkEnable n v => Sys2Proof.Machine.execLinkEnable n v s
  | .syncHeaderLock lane => Sys2Proof.Machine.execSyncHeaderLock lane s
  | .embLock lane => Sys2Proof.Machine.execEmbLock lane s
  | .linkRelease n lat fine => Sys2Proof.Machine.execLinkRelease n lat fine s
  | .linkDownSherr lane => Sys2Proof.Machine.execLinkDownSherr lane s
  | .linkDownEmb lane => Sys2Proof.Machine.execLinkDownEmb lane s
  | .linkDownEb lane => Sys2Proof.Machine.execLinkDownEb lane s
  | .laneCrcMismatch lane block firstOfPeriod => Sys2Proof.Machine.execLaneCrcMismatch lane block firstOfPeriod s
  | .inputSample n samples => Sys2Proof.Machine.execInputSample n samples s
  | .ncoSync n => Sys2Proof.Machine.execNcoSync n s
  | .ftwPost n lo => Sys2Proof.Machine.execFtwPost n lo s
  | .frameStart n => Sys2Proof.Machine.execFrameStart n s
  | .frameComplete n => Sys2Proof.Machine.execFrameComplete n s
  | .stagingCopyStart => Sys2Proof.Machine.execStagingCopyStart s
  | .stagingCopyDone => Sys2Proof.Machine.execStagingCopyDone s
  | .frameBoundary => Sys2Proof.Machine.execFrameBoundary s
  | .admissionResume => Sys2Proof.Machine.execAdmissionResume s
  | .flumeClockChangeDone wait => Sys2Proof.Machine.execFlumeClockChangeDone wait s
  | .nop x => Sys2Proof.Machine.execNop x s
  | .idle x => Sys2Proof.Machine.execIdle x s
  | .loop x => Sys2Proof.Machine.execLoop x s
  | .halt x => Sys2Proof.Machine.execHalt x s
  | .endSlot x => Sys2Proof.Machine.execEndSlot x s
  | .mov x => Sys2Proof.Machine.execMov x s
  | .movi x => Sys2Proof.Machine.execMovi x s
  | .add x => Sys2Proof.Machine.execAdd x s
  | .sub x => Sys2Proof.Machine.execSub x s
  | .logicAnd x => Sys2Proof.Machine.execLogicAnd x s
  | .logicOr x => Sys2Proof.Machine.execLogicOr x s
  | .logicXor x => Sys2Proof.Machine.execLogicXor x s
  | .logicAndnot x => Sys2Proof.Machine.execLogicAndnot x s
  | .shiftLsl x => Sys2Proof.Machine.execShiftLsl x s
  | .shiftLsr x => Sys2Proof.Machine.execShiftLsr x s
  | .shiftAsr x => Sys2Proof.Machine.execShiftAsr x s
  | .shiftRor x => Sys2Proof.Machine.execShiftRor x s
  | .vadd x => Sys2Proof.Machine.execVadd x s
  | .vmul x => Sys2Proof.Machine.execVmul x s
  | .vmax x => Sys2Proof.Machine.execVmax x s
  | .vmin x => Sys2Proof.Machine.execVmin x s
  | .actRelu x => Sys2Proof.Machine.execActRelu x s
  | .actClamp x => Sys2Proof.Machine.execActClamp x s
  | .actClampPos x => Sys2Proof.Machine.execActClampPos x s
  | .pwlLoad x => Sys2Proof.Machine.execPwlLoad x s
  | .pwlEval x => Sys2Proof.Machine.execPwlEval x s
  | .mag x => Sys2Proof.Machine.execMag x s
  | .log2 x => Sys2Proof.Machine.execLog2 x s
  | .scale x => Sys2Proof.Machine.execScale x s
  | .cvt x => Sys2Proof.Machine.execCvt x s
  | .ld x => Sys2Proof.Machine.execLd x s
  | .st x => Sys2Proof.Machine.execSt x s
  | .mac x => Sys2Proof.Machine.execMac x s
  | .macq x => Sys2Proof.Machine.execMacq x s
  | .gq x => Sys2Proof.Machine.execGq x s
  | .accrdFp32 x => Sys2Proof.Machine.execAccrdFp32 x s
  | .accrdBf16 x => Sys2Proof.Machine.execAccrdBf16 x s
  | .accrdInt32 x => Sys2Proof.Machine.execAccrdInt32 x s
  | .accclr x => Sys2Proof.Machine.execAccclr x s
  | .sailcfg x => Sys2Proof.Machine.execSailcfg x s
  | .sailin x => Sys2Proof.Machine.execSailin x s
  | .sailout x => Sys2Proof.Machine.execSailout x s
  | .send x => Sys2Proof.Machine.execSend x s
  | .handlerDispatch row col => Sys2Proof.Machine.execHandlerDispatch row col s
  | .arrayStop => Sys2Proof.Machine.execArrayStop s
  | .passTally => Sys2Proof.Machine.execPassTally s
  | .verdict => Sys2Proof.Machine.execVerdict s
  | .epochSwapWrite => Sys2Proof.Machine.execEpochSwapWrite s
  | .shadowWriteRelease => Sys2Proof.Machine.execShadowWriteRelease s
  | .eventReceive n => Sys2Proof.Machine.execEventReceive n s
  | .cisternFetchDone n cycles => Sys2Proof.Machine.execCisternFetchDone n cycles s
  | .hintReceive n => Sys2Proof.Machine.execHintReceive n s
  | .firePhase n => Sys2Proof.Machine.execFirePhase n s
  | .restSweep n neuron => Sys2Proof.Machine.execRestSweep n neuron s
  | .bankUpdate n bank => Sys2Proof.Machine.execBankUpdate n bank s
  | .neuronSnapshotStart n v => Sys2Proof.Machine.execNeuronSnapshotStart n v s
  | .neuronSnapshotDone n => Sys2Proof.Machine.execNeuronSnapshotDone n s
  | .routerReceive r port vc => Sys2Proof.Machine.execRouterReceive r port vc s
  | .replicationBranchSend r => Sys2Proof.Machine.execReplicationBranchSend r s
  | .sendCopy r => Sys2Proof.Machine.execSendCopy r s
  | .completionReceive r => Sys2Proof.Machine.execCompletionReceive r s
  | .land port => Sys2Proof.Machine.execLand port s
  | .completionTimer => Sys2Proof.Machine.execCompletionTimer s
  | .barrierReport r => Sys2Proof.Machine.execBarrierReport r s
  | .barrierCloseReceive r => Sys2Proof.Machine.execBarrierCloseReceive r s
  | .barrierForceReceive r => Sys2Proof.Machine.execBarrierForceReceive r s
  | .closeRepeat port => Sys2Proof.Machine.execCloseRepeat port s
  | .tickClose => Sys2Proof.Machine.execTickClose s
  | .drainPacket r port => Sys2Proof.Machine.execDrainPacket r port s
  | .fabricDrained => Sys2Proof.Machine.execFabricDrained s
  | .plasticEventApply n => Sys2Proof.Machine.execPlasticEventApply n s
  | .windowAdd => Sys2Proof.Machine.execWindowAdd s
  | .recordQueueReadAdvance v => Sys2Proof.Machine.execRecordQueueReadAdvance v s
  | .recordSkip => Sys2Proof.Machine.execRecordSkip s
  | .triggerLinePulse line => Sys2Proof.Machine.execTriggerLinePulse line s
  | .trigOutFire p => Sys2Proof.Machine.execTrigOutFire p s
  | .trgoCtlWrite p v => Sys2Proof.Machine.execTrgoCtlWrite p v s
  | .trigOutWidthEnd p => Sys2Proof.Machine.execTrigOutWidthEnd p s
  | .trigOutHoldoffEnd p => Sys2Proof.Machine.execTrigOutHoldoffEnd p s
  | .trigInEdge pin falling fine => Sys2Proof.Machine.execTrigInEdge pin falling fine s
  | .pondAtomic who op word other => Sys2Proof.Machine.execPondAtomic who op word other s
  | .pondPowerWrite j v => Sys2Proof.Machine.execPondPowerWrite j v s
  | .pondTransitionDone bank => Sys2Proof.Machine.execPondTransitionDone bank s
  | .ddrRead offset firstParity firstAddr againParity againAddr => Sys2Proof.Machine.execDdrRead offset firstParity firstAddr againParity againAddr s
  | .serviceTrap core cause pc => Sys2Proof.Machine.execServiceTrap core cause pc s
  | .recordForward => Sys2Proof.Machine.execRecordForward s
  | .hostRingPut r service => Sys2Proof.Machine.execHostRingPut r service s
  | .codewordReceive port cw => Sys2Proof.Machine.execCodewordReceive port cw s
  | .portTrain port sysid dev pport => Sys2Proof.Machine.execPortTrain port sysid dev pport s
  | .portQualify port bitErrors uncorrectable peerPass => Sys2Proof.Machine.execPortQualify port bitErrors uncorrectable peerPass s
  | .linkLos port => Sys2Proof.Machine.execLinkLos port s
  | .linkAlignLoss port => Sys2Proof.Machine.execLinkAlignLoss port s
  | .linkReplayLimit port => Sys2Proof.Machine.execLinkReplayLimit port s
  | .linkAckTimeout port => Sys2Proof.Machine.execLinkAckTimeout port s
  | .linkPartnerChange port sysid dev pport => Sys2Proof.Machine.execLinkPartnerChange port sysid dev pport s
  | .linkDownNotice port link => Sys2Proof.Machine.execLinkDownNotice port link s
  | .collectiveUp pkt => Sys2Proof.Machine.execCollectiveUp pkt s
  | .collectiveDown pkt => Sys2Proof.Machine.execCollectiveDown pkt s
  | .collectiveTimeout g => Sys2Proof.Machine.execCollectiveTimeout g s
  | .wakePatternSend => Sys2Proof.Machine.execWakePatternSend s
  | .leatWakePattern port => Sys2Proof.Machine.execLeatWakePattern port s
  | .bar2Access isWrite off len data => Sys2Proof.Machine.execBar2Access isWrite off len data s
  | .bmeRelease => Sys2Proof.Machine.execBmeRelease s
  | .poisonedWrite => Sys2Proof.Machine.execPoisonedWrite s
  | .hostSideReset why => Sys2Proof.Machine.execHostSideReset why s
  | .d3hotEntry => Sys2Proof.Machine.execD3hotEntry s
  | .vectorSeenWrite v seen => Sys2Proof.Machine.execVectorSeenWrite v seen s
  | .msixUnmask v => Sys2Proof.Machine.execMsixUnmask v s
  | .mbxLockRead n readers => Sys2Proof.Machine.execMbxLockRead n readers s
  | .mbxLockRelease n m v => Sys2Proof.Machine.execMbxLockRelease n m v s
  | .h2mDataWrite n m v => Sys2Proof.Machine.execH2mDataWrite n m v s
  | .vciArgWrite n k m v => Sys2Proof.Machine.execVciArgWrite n k m v s
  | .m2hDataRead n m => Sys2Proof.Machine.execM2hDataRead n m s
  | .m2hAckWrite n m v => Sys2Proof.Machine.execM2hAckWrite n m v s
  | .mpScan => Sys2Proof.Machine.execMpScan s
  | .vciCompletionDeliver n => Sys2Proof.Machine.execVciCompletionDeliver n s
  | .conduitEnable c v => Sys2Proof.Machine.execConduitEnable c v s
  | .conduitHeadWrite c v => Sys2Proof.Machine.execConduitHeadWrite c v s
  | .descriptorStart c => Sys2Proof.Machine.execDescriptorStart c s
  | .descriptorComplete c index => Sys2Proof.Machine.execDescriptorComplete c index s
  | .hostRingEnable r v => Sys2Proof.Machine.execHostRingEnable r v s
  | .hostRingRdWrite r v => Sys2Proof.Machine.execHostRingRdWrite r v s
  | .sidebandWrite command off v pec => Sys2Proof.Machine.execSidebandWrite command off v pec s
  | .sidebandRead command off => Sys2Proof.Machine.execSidebandRead command off s
  | .sidebandTimeout => Sys2Proof.Machine.execSidebandTimeout s
  | .sidebandAddressMatch => Sys2Proof.Machine.execSidebandAddressMatch s
  | .nopCmd tag => Sys2Proof.Machine.execNopCmd tag s
  | .describe => Sys2Proof.Machine.execDescribe s
  | .ddrConfig causes => Sys2Proof.Machine.execDdrConfig causes s
  | .setClock tag => Sys2Proof.Machine.execSetClock tag s
  | .setPowerCap tag => Sys2Proof.Machine.execSetPowerCap tag s
  | .subscribe tag => Sys2Proof.Machine.execSubscribe tag s
  | .jobLoad => Sys2Proof.Machine.execJobLoad s
  | .jobArm ms => Sys2Proof.Machine.execJobArm ms s
  | .jobRun => Sys2Proof.Machine.execJobRun s
  | .jobStart => Sys2Proof.Machine.execJobStart s
  | .jobDrain => Sys2Proof.Machine.execJobDrain s
  | .jobResume => Sys2Proof.Machine.execJobResume s
  | .jobStop => Sys2Proof.Machine.execJobStop s
  | .jobUnload => Sys2Proof.Machine.execJobUnload s
  | .checkpoint => Sys2Proof.Machine.execCheckpoint s
  | .substitute => Sys2Proof.Machine.execSubstitute s
  | .streamOpen tag => Sys2Proof.Machine.execStreamOpen tag s
  | .streamClose tag => Sys2Proof.Machine.execStreamClose tag s
  | .ringBind tag => Sys2Proof.Machine.execRingBind tag s
  | .marker tag => Sys2Proof.Machine.execMarker tag s
  | .scaleWrite tag => Sys2Proof.Machine.execScaleWrite tag s
  | .epochSwap tag => Sys2Proof.Machine.execEpochSwap tag s
  | .eligibility tag => Sys2Proof.Machine.execEligibility tag s
  | .collective tag => Sys2Proof.Machine.execCollective tag s
  | .powerTargetWrite v => Sys2Proof.Machine.execPowerTargetWrite v s
  | .idleTimeout => Sys2Proof.Machine.execIdleTimeout s
  | .napTimeout => Sys2Proof.Machine.execNapTimeout s
  | .sentinelTimeout => Sys2Proof.Machine.execSentinelTimeout s
  | .entryIdle => Sys2Proof.Machine.execEntryIdle s
  | .entryNap => Sys2Proof.Machine.execEntryNap s
  | .entrySentinel => Sys2Proof.Machine.execEntrySentinel s
  | .wake srcs => Sys2Proof.Machine.execWake srcs s
  | .exitComplete => Sys2Proof.Machine.execExitComplete s
  | .idleActivityExit => Sys2Proof.Machine.execIdleActivityExit s
  | .padRelease group agrees => Sys2Proof.Machine.execPadRelease group agrees s
  | .governorEstimate mean100us => Sys2Proof.Machine.execGovernorEstimate mean100us s
  | .governorRestore mean1ms => Sys2Proof.Machine.execGovernorRestore mean1ms s
  | .thermalSample sensors => Sys2Proof.Machine.execThermalSample sensors s
  | .sentinelSample v good taken => Sys2Proof.Machine.execSentinelSample v good taken s
  | .sentinelTick => Sys2Proof.Machine.execSentinelTick s
  | .senMemAccess isWrite v m => Sys2Proof.Machine.execSenMemAccess isWrite v m s
  | .parityError site byDredger => Sys2Proof.Machine.execParityError site byDredger s
  | .errorHandle => Sys2Proof.Machine.execErrorHandle s
  | .dredgerRead kind found => Sys2Proof.Machine.execDredgerRead kind found s
  | .ddrPatrolRead line fails => Sys2Proof.Machine.execDdrPatrolRead line fails s
  | .powerOnReset => Sys2Proof.Machine.execPowerOnReset s
  | .sysRstNAssert => Sys2Proof.Machine.execSysRstNAssert s
  | .glbResetWrite v m => Sys2Proof.Machine.execGlbResetWrite v m s
  | .bootAon => Sys2Proof.Machine.execBootAon s
  | .bootSupplies => Sys2Proof.Machine.execBootSupplies s
  | .supplyTimeout => Sys2Proof.Machine.execSupplyTimeout s
  | .pgMainLow => Sys2Proof.Machine.execPgMainLow s
  | .bootFuses => Sys2Proof.Machine.execBootFuses s
  | .bootRom => Sys2Proof.Machine.execBootRom s
  | .bootGo v => Sys2Proof.Machine.execBootGo v s
  | .bootFirmware => Sys2Proof.Machine.execBootFirmware s
  | .bootDdr5 => Sys2Proof.Machine.execBootDdr5 s
  | .bootSramBist failed noSpare => Sys2Proof.Machine.execBootSramBist failed noSpare s
  | .bootFlumeSelfTest failedColumns => Sys2Proof.Machine.execBootFlumeSelfTest failedColumns s
  | .bootNcSelfTest failedNcs => Sys2Proof.Machine.execBootNcSelfTest failedNcs s
  | .bootLeat => Sys2Proof.Machine.execBootLeat s
  | .bootRuntime ms => Sys2Proof.Machine.execBootRuntime ms s
  | .svnCommit => Sys2Proof.Machine.execSvnCommit s
  | .lifeCycleGo v => Sys2Proof.Machine.execLifeCycleGo v s
  | .tamper src => Sys2Proof.Machine.execTamper src s
  | .attestationGo => Sys2Proof.Machine.execAttestationGo s
  | .attestationDone => Sys2Proof.Machine.execAttestationDone s
  | .jtagUpdateIr ir => Sys2Proof.Machine.execJtagUpdateIr ir s
  | .headgateWord col => Sys2Proof.Machine.execHeadgateWord col s
  | .referencePresent => Sys2Proof.Machine.execReferencePresent s
  | .pcieLinkPowerStateChange state => Sys2Proof.Machine.execPcieLinkPowerStateChange state s
  | .d3hotExit => Sys2Proof.Machine.execD3hotExit s
  | .sysRstNRelease => Sys2Proof.Machine.execSysRstNRelease s
  | .pgMainHigh => Sys2Proof.Machine.execPgMainHigh s
  | .jtagTestLogicReset => Sys2Proof.Machine.execJtagTestLogicReset s

end Sys2Proof.Machine
end

