-- ==== Sys2Proof/WellFormed.lean ====
section
/-! DEFINITION. Well-formed commands: what the environment that sends a command keeps to. exec has a meaning for every
command; these are the operands that the hardware can meet. -/

namespace Sys2Proof

/-- The writes of one cycle come from different masters (R363). A PCIe request has 1 to 1,024 DW (R352). There are four leat
ports, with a stamp each (R42), at most 16 converters on a link (R63), at most 15 corrected symbols and 39 packets in a
codeword (R326), four DIMM training results (R401), and 16 sensors (R493). A clock change waits at most 2 µs (R24). -/
def Instr.wellFormed (c : Instr) : Bool :=
  match c with
  | .registerWrite _ writes => decide (writes.length ≠ 0 ∧ (writes.map (·.1)).Nodup)
  | .bar0BadAccess isWrite off dws _ data => decide (1 ≤ dws ∧ dws ≤ 1024 ∧ off.toNat + 4 * dws ≤ 0x2000000 ∧ data.length = if isWrite then dws else 0)
  | .bitAliasWrite off _ _ => decide (off.toNat < 0x1000000 ∧ off.toNat % 4 = 0)
  | .tbCapGo => true
  | .tbLoadArm => true
  | .tbCtlWrite .. => true
  | .tbPpsInEdge .. => true
  | .referenceLost => true
  | .ppsLost => true
  | .lockDwellExpiry => true
  | .timesyncExchangeStart fines => decide (fines.length = 4)
  | .timesyncReq .. => true
  | .timesyncReply .. => true
  | .timesyncFollow .. => true
  | .timesyncTimeout .. => true
  | .sysrefModeWrite .. => true
  | .sysrefFire .. => true
  | .sysrefPulse .. => true
  | .sysrefPulseEnd .. => true
  | .ppsOutEdge => true
  | .ppsOutFall => true
  | .tbClkoWrite .. => true
  | .tbcmpArm .. => true
  | .tbcmpMatch .. => true
  | .gtMatch .. => true
  | .gtOverflow .. => true
  | .gtCntWrite .. => true
  | .gtCmpWrite .. => true
  | .gtCtlWrite .. => true
  | .gtWriteApply .. => true
  | .linkEnable .. => true
  | .syncHeaderLock .. => true
  | .embLock .. => true
  | .linkRelease .. => true
  | .linkDownSherr .. => true
  | .linkDownEmb .. => true
  | .linkDownEb .. => true
  | .laneCrcMismatch _ block _ => decide (1 ≤ block.samples)
  | .inputSample _ samples => decide (1 ≤ samples.length ∧ samples.length ≤ 16)
  | .ncoSync .. => true
  | .ftwPost .. => true
  | .frameStart .. => true
  | .frameComplete .. => true
  | .stagingCopyStart => true
  | .stagingCopyDone => true
  | .frameBoundary => true
  | .admissionResume => true
  | .flumeClockChangeDone wait => decide (wait ≤ 3200)
  | .nop .. => true
  | .idle .. => true
  | .loop .. => true
  | .halt .. => true
  | .endSlot .. => true
  | .mov .. => true
  | .movi .. => true
  | .add .. => true
  | .sub .. => true
  | .logicAnd .. => true
  | .logicOr .. => true
  | .logicXor .. => true
  | .logicAndnot .. => true
  | .shiftLsl .. => true
  | .shiftLsr .. => true
  | .shiftAsr .. => true
  | .shiftRor .. => true
  | .vadd .. => true
  | .vmul .. => true
  | .vmax .. => true
  | .vmin .. => true
  | .actRelu .. => true
  | .actClamp .. => true
  | .actClampPos .. => true
  | .pwlLoad .. => true
  | .pwlEval .. => true
  | .mag .. => true
  | .log2 .. => true
  | .scale .. => true
  | .cvt .. => true
  | .ld .. => true
  | .st .. => true
  | .mac .. => true
  | .macq .. => true
  | .gq .. => true
  | .accrdFp32 .. => true
  | .accrdBf16 .. => true
  | .accrdInt32 .. => true
  | .accclr .. => true
  | .sailcfg .. => true
  | .sailin .. => true
  | .sailout .. => true
  | .send .. => true
  | .handlerDispatch .. => true
  | .arrayStop => true
  | .passTally => true
  | .verdict => true
  | .epochSwapWrite => true
  | .shadowWriteRelease => true
  | .eventReceive .. => true
  | .cisternFetchDone _ cycles => decide (1 ≤ cycles)
  | .hintReceive .. => true
  | .firePhase .. => true
  | .restSweep .. => true
  | .bankUpdate .. => true
  | .neuronSnapshotStart .. => true
  | .neuronSnapshotDone .. => true
  | .routerReceive .. => true
  | .replicationBranchSend .. => true
  | .sendCopy .. => true
  | .completionReceive .. => true
  | .land .. => true
  | .completionTimer => true
  | .barrierReport .. => true
  | .barrierCloseReceive .. => true
  | .barrierForceReceive .. => true
  | .closeRepeat .. => true
  | .tickClose => true
  | .drainPacket .. => true
  | .fabricDrained => true
  | .plasticEventApply .. => true
  | .windowAdd => true
  | .recordQueueReadAdvance .. => true
  | .recordSkip => true
  | .triggerLinePulse .. => true
  | .trigOutFire .. => true
  | .trgoCtlWrite .. => true
  | .trigOutWidthEnd .. => true
  | .trigOutHoldoffEnd .. => true
  | .trigInEdge .. => true
  | .pondAtomic .. => true
  | .pondPowerWrite .. => true
  | .pondTransitionDone .. => true
  | .ddrRead .. => true
  | .serviceTrap .. => true
  | .recordForward => true
  | .hostRingPut _ service => decide (service.length % 64 = 0)
  | .codewordReceive _ cw => decide (cw.corrected ≤ 15 ∧ cw.packets.length ≤ 39)
  | .portTrain .. => true
  | .portQualify .. => true
  | .linkLos .. => true
  | .linkAlignLoss .. => true
  | .linkReplayLimit .. => true
  | .linkAckTimeout .. => true
  | .linkPartnerChange .. => true
  | .linkDownNotice .. => true
  | .collectiveUp .. => true
  | .collectiveDown .. => true
  | .collectiveTimeout .. => true
  | .wakePatternSend => true
  | .leatWakePattern .. => true
  | .bar2Access isWrite off len data => decide (1 ≤ len ∧ off.toNat + len ≤ 0x400000000 ∧ data.length = if isWrite then len else 0)
  | .bmeRelease => true
  | .poisonedWrite => true
  | .hostSideReset .. => true
  | .d3hotEntry => true
  | .vectorSeenWrite .. => true
  | .msixUnmask .. => true
  | .mbxLockRead _ readers => decide (readers.length ≠ 0 ∧ readers.Nodup)
  | .mbxLockRelease .. => true
  | .h2mDataWrite .. => true
  | .vciArgWrite .. => true
  | .m2hDataRead .. => true
  | .m2hAckWrite .. => true
  | .mpScan => true
  | .vciCompletionDeliver .. => true
  | .conduitEnable .. => true
  | .conduitHeadWrite .. => true
  | .descriptorStart .. => true
  | .descriptorComplete .. => true
  | .hostRingEnable .. => true
  | .hostRingRdWrite .. => true
  | .sidebandWrite .. => true
  | .sidebandRead .. => true
  | .sidebandTimeout => true
  | .sidebandAddressMatch => true
  | .nopCmd .. => true
  | .describe => true
  | .ddrConfig causes => decide (causes.length = 4)
  | .setClock .. => true
  | .setPowerCap .. => true
  | .subscribe .. => true
  | .jobLoad => true
  | .jobArm .. => true
  | .jobRun => true
  | .jobStart => true
  | .jobDrain => true
  | .jobResume => true
  | .jobStop => true
  | .jobUnload => true
  | .checkpoint => true
  | .substitute => true
  | .streamOpen .. => true
  | .streamClose .. => true
  | .ringBind .. => true
  | .marker .. => true
  | .scaleWrite .. => true
  | .epochSwap .. => true
  | .eligibility .. => true
  | .collective .. => true
  | .powerTargetWrite .. => true
  | .idleTimeout => true
  | .napTimeout => true
  | .sentinelTimeout => true
  | .entryIdle => true
  | .entryNap => true
  | .entrySentinel => true
  | .wake srcs => decide (srcs.length ≠ 0 ∧ srcs.Nodup)
  | .exitComplete => true
  | .idleActivityExit => true
  | .padRelease .. => true
  | .governorEstimate .. => true
  | .governorRestore .. => true
  | .thermalSample sensors => decide (sensors.length = 16)
  | .sentinelSample .. => true
  | .sentinelTick => true
  | .senMemAccess .. => true
  | .parityError .. => true
  | .errorHandle => true
  | .dredgerRead .. => true
  | .ddrPatrolRead .. => true
  | .powerOnReset => true
  | .sysRstNAssert => true
  | .glbResetWrite .. => true
  | .bootAon => true
  | .bootSupplies => true
  | .supplyTimeout => true
  | .pgMainLow => true
  | .bootFuses => true
  | .bootRom => true
  | .bootGo .. => true
  | .bootFirmware => true
  | .bootDdr5 => true
  | .bootSramBist failed _ => decide ((failed.map (fun x => (x.1, x.2.1))).Nodup)
  | .bootFlumeSelfTest failedColumns => decide ((failedColumns.map (fun x => x.1)).Nodup)
  | .bootNcSelfTest failedNcs => decide ((failedNcs.map (fun x => x.1)).Nodup)
  | .bootLeat => true
  | .bootRuntime .. => true
  | .svnCommit => true
  | .lifeCycleGo .. => true
  | .tamper .. => true
  | .attestationGo => true
  | .attestationDone => true
  | .jtagUpdateIr .. => true
  | .headgateWord .. => true
  | .referencePresent => true
  | .pcieLinkPowerStateChange .. => true
  | .d3hotExit => true
  | .sysRstNRelease => true
  | .pgMainHigh => true
  | .jtagTestLogicReset => true

end Sys2Proof
end

