-- ==== Sys2Proof/Safety.lean ====
section
/-! DEFINITION. What counts as a sound state of the model, in the words that statements use: the memories and the register
bank in their canonical form, and a queue of well-formed commands. -/

namespace Sys2Proof.Machine

/-- A memory lists its bytes at strictly rising addresses, and no byte equal to what an unlisted address reads as (R307). -/
def Memory.wf (m : SMap Byte) : Bool := SMap.wf 0 m

/-- The bytes whose check fails, in the same form (R440). -/
def Memory.badWf (m : SMap Bool) : Bool := SMap.wf false m

/-- Keys strictly rising above a bound, and no entry equal to its register's reset value (R10). -/
def Registers.canon : Option Nat → List (Nat × Word) → Bool
  | _, [] => true
  | lo, c :: m =>
    (match lo with | none => true | some l => decide (l < c.1)) && decide (c.2 ≠ regReset c.1) && canon (some c.1) m

/-- The register bank lists its registers at strictly rising offsets, and none that holds its reset value. -/
def Registers.wf (m : SMap Word) : Bool := Registers.canon none m.cells

/-- The canonical form of everything a run may compare: memory, the bytes that fail, registers. -/
def Dev.sound (d : Dev) : Bool := Memory.wf d.mem && Memory.badWf d.badMem && Registers.wf d.regs

/-- Every command that waits is one that the environment may send. -/
def State.queueOk (s : State) : Bool := s.pending.all Instr.wellFormed

/-- A sound state. -/
def State.sound (s : State) : Bool := s.dev.sound && s.queueOk

/-- A command completes: exec answers a next state, whose queue is the one before and whose device has a property. -/
def Does (c : Instr) (s : State) (P : Dev → Prop) : Prop := ∃ t, exec c s = .next t ∧ t.pending = s.pending ∧ P t.dev

/-- The frame of registers: every register outside a list reads as before. -/
def keepsRegs (as : List Nat) (d e : Dev) : Prop := ∀ a, a ∉ as → e.reg a = d.reg a

/-- The frame of memory: every byte of Pond memory, DDR5 and host memory reads as before. -/
def keepsMem (d e : Dev) : Prop := ∀ a, e.byte a = d.byte a

/-- The frame of a store: every byte of Pond memory and DDR5 outside n bytes from an address reads as before. -/
def keepsMemBut (lo n : Nat) (d e : Dev) : Prop := ∀ a, a < Dev.hostBase → (a < lo ∨ lo + n ≤ a) → e.byte a = d.byte a

/-- Nothing differs but registers of a list. -/
def onlyRegs (as : List Nat) (d e : Dev) : Prop := e = { d with regs := e.regs } ∧ keepsRegs as d e ∧ keepsMem d e

/-- Nothing differs but registers of a list and the time of the last activity, which an access sets (R408). -/
def onlyRegsAct (as : List Nat) (d e : Dev) : Prop :=
  e = { d with regs := e.regs, pwr := e.pwr } ∧ e.pwr = d.activity.pwr ∧ keepsRegs as d e ∧ keepsMem d e

/-! ## Timers (R55) -/

/-- No governing timer but one runs or waits for its clock, and no compare unit is armed. -/
def Dev.onlyTimer (d : Dev) (n : Nat) : Bool :=
  d.gtOwners.all (fun m => m == n || (!d.gtRun m && !d.gtWaiting m)) && (List.range 4).all (fun c => !d.cmpArmed c)

/-! ## Schedule slots (R100, R120, R128) -/

/-- The device in which a slot of a unit takes its sources: its cycle is reached, and the main stream has taken the unit. -/
def Dev.atIssue (d : Dev) (x : Slot) (unit : Nat) : Dev :=
  let d := d.slotBegin x
  if x.handler then d else d.updX x (fun c => { c with units := c.units ||| unit })

/-- A slot command of a unit issues and executes: it is its lane's next slot, neither suppressed nor displaced. -/
def Dev.executes (d : Dev) (i : Instr) (x : Slot) (unit : Nat) : Bool :=
  d.canIssue i x && !(d.slotBegin x).suppressed x && !(x.handler && (((d.slotBegin x).xcell x).units &&& unit) != 0)

/-- A result of a slot is on its way: readable lat cycles after the slot's. -/
def Dev.hasResult (e : Dev) (x : Slot) (t lat : Nat) (dest : Dest) (v : Nat) : Prop :=
  (⟨t + lat, t, x.handler, dest, v⟩ : PendWrite) ∈ (e.xcell x).pend

/-- The lane of a slot goes on in a cycle. -/
def Dev.laneAt (e : Dev) (x : Slot) (t : Nat) : Prop :=
  (if x.handler then (e.xcell x).handAt else (e.xcell x).mainAt) = t

/-- The increment of a base register and the result meet in one register (R117). -/
def Dev.clash (x : Slot) : Prop := x.am = 2 ∧ x.rd.val = 8 + x.rb.val ∧ (x.sa.toNat / 16 = 3 ∨ x.sb.toNat / 16 = 3)

/-- The two sources of a slot of a unit, as 64-bit words. -/
def Dev.operands (d : Dev) (x : Slot) (unit : Nat) : Nat × Nat := ((d.atIssue x unit).sources x (d.issueAt x)).2

/-- What a scalar slot leaves: S[RD] and the ALU result register one cycle on, and the lane in the next cycle. -/
def Dev.scalarDone (d : Dev) (x : Slot) (v : DWord) (e : Dev) : Prop :=
  e.hasResult x (d.issueAt x) 1 .alu v.toNat ∧ (¬ Dev.clash x → e.hasResult x (d.issueAt x) 1 (.reg x.rd.val) v.toNat) ∧
    e.laneAt x (d.issueAt x + 1)

/-- Nothing but some results to come differs, in what a slot's cell holds from its sources' cycle on: its scalar registers, its
result registers, its data SRAM and its accumulators. -/
def Dev.keepsCell (b : Dev) (x : Slot) (e : Dev) : Prop :=
  let c := b.xcell x
  let f := e.xcell x
  f.regs = c.regs ∧ f.aluRes = c.aluRes ∧ f.macRes = c.macRes ∧ f.sailRes = c.sailRes ∧ f.sram = c.sram ∧ f.accF = c.accF ∧
    f.accG = c.accG

/-- What a lane slot that took its sources in b leaves: v in the ALU result register some cycles on, no other result, and the
lane in the next cycle. -/
def Dev.laneDone (d : Dev) (x : Slot) (b : Dev) (lat v : Nat) (e : Dev) : Prop :=
  let r : PendWrite := ⟨d.issueAt x + lat, d.issueAt x, x.handler, .alu, v % 2 ^ 64⟩
  r ∈ (e.xcell x).pend ∧ (∀ p ∈ (e.xcell x).pend, p ∈ (b.xcell x).pend ∨ p = r) ∧ b.keepsCell x e ∧
    e.laneAt x (d.issueAt x + 1)

/-- The device after a lane slot has taken both its sources, and after one that has one. -/
def Dev.took2 (d : Dev) (x : Slot) : Dev := ((d.atIssue x uAlu).sources x (d.issueAt x)).1
def Dev.took1 (d : Dev) (x : Slot) : Dev := ((d.atIssue x uAlu).source x (d.issueAt x) x.sa.toNat).1

/-! ## Commands of the command interface (R387) -/

/-- A command has ended: nothing of it waits, and its completion stands last in its pair's queue, unless the pair has passed
to another owner. -/
def Dev.answered (d : Dev) (c : VciCmd) (code : Nat) (res : List Nat) (e : Dev) : Prop :=
  (∀ x ∈ e.vci.jobq ++ e.vci.active, x.tag ≠ c.tag) ∧
    ((d.pairOwner c.pair = 0 ∨ d.pairOwner c.pair = c.owner) →
      (e.vci.replies.get [] c.pair).getLast? = some ⟨c.tag, c.op, code, res, c.owner, false⟩)

/-- A command outside the job queue starts: it is accepted, has not begun, and the service executes every command. -/
def Dev.starts (d : Dev) (op tag : Nat) (c : VciCmd) : Prop := d.activeCmd op tag = some c ∧ c.begun = false ∧ d.ready = true

end Sys2Proof.Machine
end

