-- ==== Sys2Proof/Certificates/Slice0/Obligations.lean ====
section
/-! DEFINITION. The statements about the model, each a proposition over its definitions. A statement of several parts names
each part first. -/

open Sys2Proof Sys2Proof.Machine Sys2Proof.Machine.Dev

/-- TB_CAP.GO copies the TBC (R35); nothing else changes. -/
def Piece.CaptureCopiesTheCount : Prop := ∀ s : State, s.dev.fenced Reg.tbCap = false →
  Does .tbCapGo s fun e =>
    e.rn64 Reg.tbCapLo Reg.tbCapHi = s.dev.tb.tbc % 2 ^ 64 ∧ e.rn Reg.tbCapFine = 0 ∧
    onlyRegsAct [Reg.tbCapLo, Reg.tbCapHi, Reg.tbCapFine] s.dev e

/-- TB_LOAD.ARM is accepted between jobs alone, and replaces a pending value; the load takes effect at the next PPS edge, at
which the TBC becomes the loaded value plus 6 periods and the edge carries the loaded value (R39). Every edge is captured and
counted (R40). -/
def Piece.LoadTakesEffectAtThePpsEdge : Prop :=
  (∀ s : State, s.dev.fenced Reg.tbLoad = false → s.dev.tbJob = false →
    Does .tbLoadArm s fun e =>
      e.tb = { s.dev.tb with loadPend := some (s.dev.rn64 Reg.tbLoadLo Reg.tbLoadHi) } ∧ e.flag Reg.tbStat 7 = true ∧
      e = { s.dev with regs := e.regs, tb := e.tb, pwr := s.dev.activity.pwr } ∧ keepsRegs [Reg.tbStat] s.dev e) ∧
  (∀ s : State, s.dev.fenced Reg.tbLoad = false → s.dev.tbJob = true →
    Does .tbLoadArm s fun e => e = s.dev.activity) ∧
  (∀ (s : State) (fine : BitVec 8) (v : Nat), s.dev.tbOn = true → s.dev.tb.loadPend = some v → v < 2 ^ 64 - 6 →
    Does (.tbPpsInEdge fine) s fun e =>
      e.tb.tbc = v + 6 ∧ e.tb.loadPend = none ∧ e.flag Reg.tbStat 7 = false ∧
      e.rn64 Reg.tbPpsCapLo Reg.tbPpsCapHi = v ∧ e.rn Reg.tbPpsCapFine = fine.toNat ∧
      e.rn Reg.tbPpsSeq = (s.dev.rn Reg.tbPpsSeq + 1) % 2 ^ 32) ∧
  (∀ (s : State) (fine : BitVec 8), s.dev.tbOn = true → s.dev.tb.loadPend = none →
    Does (.tbPpsInEdge fine) s fun e =>
      e.tb.tbc = s.dev.tb.tbc ∧ e.rn64 Reg.tbPpsCapLo Reg.tbPpsCapHi = s.dev.tb.tbc % 2 ^ 64 ∧
      e.rn Reg.tbPpsCapFine = fine.toNat ∧ e.rn Reg.tbPpsSeq = (s.dev.rn Reg.tbPpsSeq + 1) % 2 ^ 32)

/-- The states of TB_STAT as a reference is selected, present, kept and lost, and the entries into HOLDOVER (R36, R37). -/
def Piece.TimebaseStates : Prop :=
  (∀ (s : State) (v : Word), s.dev.fenced Reg.tbCtl = false → s.dev.tbJob = false →
    Does (.tbCtlWrite v) s fun e =>
      e.rn Reg.tbCtl = v.toNat % 8 ∧
      (v.toNat % 4 = s.dev.refsel → e.tbState = s.dev.tbState) ∧
      (v.toNat % 4 ≠ s.dev.refsel → v.toNat % 4 = 0 → s.dev.pwrState ≠ psNap → e.tbState = 0 ∧ e.rn Reg.tbFreqAdj = 0) ∧
      (v.toNat % 4 ≠ s.dev.refsel → v.toNat % 4 ≠ 0 → v.toNat % 4 ≠ 3 → s.dev.tbState ≠ 3 → e.tbState = 1) ∧
      (v.toNat % 4 ≠ s.dev.refsel → v.toNat % 4 = 3 → s.dev.tbState = 0 → e.tbState = 0) ∧
      (v.toNat % 4 ≠ 0 → s.dev.tbState = 3 → e.tbState = 3 ∧ e.rn Reg.tbFreqAdj = s.dev.rn Reg.tbFreqAdj) ∧
      e = { s.dev with regs := e.regs, pwr := s.dev.activity.pwr, free := e.free } ∧
      keepsRegs [Reg.tbCtl, Reg.tbStat, Reg.tbFreqAdj] s.dev e) ∧
  (∀ (s : State) (v : Word), s.dev.fenced Reg.tbCtl = false → s.dev.tbJob = true →
    Does (.tbCtlWrite v) s fun e => e = s.dev.activity) ∧
  (∀ s : State, Does .referencePresent s fun e =>
    e.flag Reg.tbStat 3 = true ∧ e.tbState = s.dev.tbState ∧ onlyRegs [Reg.tbStat] s.dev e) ∧
  (∀ s : State, Does .referenceLost s fun e =>
    e.flag Reg.tbStat 3 = false ∧
    ((s.dev.refsel = 1 ∨ s.dev.refsel = 2) → s.dev.tbState = 2 →
      e.tbState = 3 ∧ e.rn Reg.tbHoldEntries = (s.dev.rn Reg.tbHoldEntries + 1) % 2 ^ 32) ∧
    (¬ ((s.dev.refsel = 1 ∨ s.dev.refsel = 2) ∧ s.dev.tbState = 2) →
      e.tbState = s.dev.tbState ∧ onlyRegs [Reg.tbStat] s.dev e)) ∧
  (∀ s : State, Does .ppsLost s fun e =>
    e.flag Reg.tbStat 4 = false ∧
    (s.dev.flag Reg.tbCtl 2 = true → s.dev.tbState = 2 →
      e.tbState = 3 ∧ e.rn Reg.tbHoldEntries = (s.dev.rn Reg.tbHoldEntries + 1) % 2 ^ 32) ∧
    (¬ (s.dev.flag Reg.tbCtl 2 = true ∧ s.dev.tbState = 2) →
      e.tbState = s.dev.tbState ∧ onlyRegs [Reg.tbStat] s.dev e)) ∧
  (∀ s : State, s.dev.sourcePresent = true →
    Does .lockDwellExpiry s fun e =>
      (s.dev.tbState = 1 → e.tbState = if s.dev.refsel = 3 then 4 else 2) ∧ (s.dev.tbState = 3 → e.tbState = 1) ∧
      (s.dev.tbState ≠ 1 → s.dev.tbState ≠ 3 → e = s.dev) ∧
      e = { s.dev with regs := e.regs, free := e.free } ∧ keepsRegs [Reg.tbStat, Reg.tbFreqAdj] s.dev e) ∧
  (∀ s : State, s.dev.sourcePresent = false → Does .lockDwellExpiry s fun e => e = s.dev)

/-- Captures, loads and state changes of the timebase. Choices of the model in it: a command whose conditions do not hold leaves
the machine as it was (log entry 7); commands that stand for a moment set the time, and an idle step is one period (log entry
10). -/
def Obligations.TimebaseCommands : Prop := Piece.CaptureCopiesTheCount ∧ Piece.LoadTakesEffectAtThePpsEdge ∧ Piece.TimebaseStates

/-- TIMESYNC exchanges (R42, R43): the parent stamps t1, the child t2 and t3, the parent returns t1 and t4 − t1, and the child
forms offset and delay. A packet that may leave at once is stamped with the given moment (R340). -/
def Piece.TimesyncExchange : Prop :=
  (∀ (s : State) (f : List (BitVec 8)) (p : Fin 4), p.val ∈ s.dev.syncChildren →
    Does (.timesyncExchangeStart f) s fun e =>
      (e.xch p).isOpen = true ∧ (e.xch p).xseq = s.dev.tb.xseq ∧
      ((s.dev.port p).times = [] → (s.dev.port p).used.get 0 3 < 64 → (s.dev.port p).replay.length < 64 →
        (e.xch p).first = s.dev.tb.tbc * 256 + (f.getD p 0).toNat) ∧ e.tb.xseq = (s.dev.tb.xseq + 1) % 256 ∧
      keepsMem s.dev e) ∧
  (∀ (s : State) (p : Fin 4) (x f2 : BitVec 8) (turn : Nat) (f3 : BitVec 8), s.dev.fromParent p = true →
    Does (.timesyncReq p x f2 turn f3) s fun e =>
      (e.xch p).isOpen = true ∧ (e.xch p).xseq = x.toNat ∧ (e.xch p).first = s.dev.tb.tbc * 256 + f2.toNat ∧
      ((s.dev.port p).times = [] → (s.dev.port p).used.get 0 3 < 64 → (s.dev.port p).replay.length < 64 →
        (e.xch p).third = (s.dev.tb.tbc + turn) * 256 + f3.toNat) ∧ keepsMem s.dev e) ∧
  (∀ (s : State) (p : Fin 4) (x f2 : BitVec 8) (turn : Nat) (f3 : BitVec 8), s.dev.fromParent p = false →
    Does (.timesyncReq p x f2 turn f3) s fun e => e = s.dev) ∧
  (∀ (s : State) (p : Fin 4) (x f4 : BitVec 8), p.val ∈ s.dev.syncChildren → (s.dev.xch p).isOpen = true →
    (s.dev.xch p).xseq = x.toNat →
    Does (.timesyncReply p x f4) s fun e =>
      (e.xch p).isOpen = false ∧ (e.xch p).first = (s.dev.xch p).first ∧ e.tb.syncFails = s.dev.tb.syncFails ∧
      keepsMem s.dev e) ∧
  (∀ (s : State) (p : Fin 4) (x : BitVec 8) (t1 : BitVec 56) (d41 : BitVec 32), s.dev.fromParent p = true →
    (s.dev.xch p).isOpen = true → (s.dev.xch p).xseq = x.toNat →
    Does (.timesyncFollow p x t1 d41) s fun e =>
      let s1 := nearest56 t1.toNat (s.dev.xch p).first
      let fwd := ((s.dev.xch p).first : Int) - s1
      let rev := s1 + (d41.toNat : Int) - ((s.dev.xch p).third : Int)
      let asym := signedOf 32 (s.dev.rn (Reg.tbAsym p))
      e.rn Reg.tbSyncOffset = unsignedOf 32 (fwd - rev - asym) ∧ e.rn Reg.tbSyncDelay = unsignedOf 32 (fwd + rev + asym) ∧
      (e.xch p).isOpen = false ∧ e.tb.syncFails = 0 ∧ e.flag Reg.tbStat 5 = true ∧ keepsMem s.dev e ∧
      (s.dev.refsel = 3 → s.dev.tbState = 0 → s.dev.tbJob = false → e.tbState = 1) ∧
      (s.dev.tbState = 3 → e.tbState = 3 ∧ e.rn Reg.tbFreqAdj = s.dev.rn Reg.tbFreqAdj)) ∧
  (∀ (s : State) (p : Fin 4), s.dev.flag Reg.lkTsync 31 = false → s.dev.syncPort = p → s.dev.tb.syncFails + 1 < 3 →
    Does (.timesyncTimeout p) s fun e =>
      e.tb.syncFails = s.dev.tb.syncFails + 1 ∧ (e.xch p).isOpen = false ∧
      e = { s.dev with tb := { s.dev.tb with xch := e.tb.xch, syncFails := e.tb.syncFails } }) ∧
  (∀ (s : State) (p : Fin 4), s.dev.flag Reg.lkTsync 31 = false → s.dev.syncPort = p → 2 ≤ s.dev.tb.syncFails →
    Does (.timesyncTimeout p) s fun e =>
      e.flag Reg.tbStat 5 = false ∧ e.tb.syncFails = 3 ∧
      (s.dev.refsel = 3 → s.dev.tbState = 4 →
        e.tbState = 3 ∧ e.rn Reg.tbHoldEntries = (s.dev.rn Reg.tbHoldEntries + 1) % 2 ^ 32) ∧
      (¬ (s.dev.refsel = 3 ∧ s.dev.tbState = 4) → e.tbState = s.dev.tbState))

/-- SYSREF channels (R45-R47): MODE and FIRE, the pulse at a grid point, its end after WIDTH periods, and DONE. -/
def Piece.SysrefChannels : Prop :=
  (∀ (s : State) (n : Fin 8) (v : Word), s.dev.fenced (Reg.sysCtl n) = false → bit v.toNat 31 = false →
    Does (.sysrefModeWrite n v) s fun e =>
      e.sysMode n = v.toNat % 4 ∧ e.flag (Reg.sysStat n) 1 = false ∧
      (v.toNat % 4 = 0 → s.dev.sysMode n ≠ 0 → (e.sys n).next = none ∧ (e.sys n).pulseEnd = (s.dev.sys n).pulseEnd) ∧
      (v.toNat % 4 = 1 → s.dev.sysMode n ≠ 1 → (e.sys n).next = s.dev.gridAt n (s.dev.tb.tbc + 16)) ∧
      e = { s.dev with regs := e.regs, tb := e.tb, pwr := s.dev.activity.pwr } ∧
      keepsRegs [Reg.sysCtl n, Reg.sysStat n] s.dev e) ∧
  (∀ (s : State) (n : Fin 8), s.dev.fenced (Reg.sysCtl n) = false → s.dev.sysMode n = 3 → (s.dev.sys n).next = none →
    ((s.dev.sys n).shot = false ∨ (s.dev.sys n).pulseEnd = none) →
    Does (.sysrefFire n) s fun e =>
      (e.sys n).next = s.dev.gridAt n (s.dev.tb.tbc + 16) ∧ e.flag (Reg.sysStat n) 1 = false ∧
      e.rn (Reg.sysIgnored n) = s.dev.rn (Reg.sysIgnored n)) ∧
  (∀ (s : State) (n : Fin 8), s.dev.fenced (Reg.sysCtl n) = false →
    (s.dev.sysMode n ≠ 3 ∨ (s.dev.sys n).next ≠ none ∨ ((s.dev.sys n).shot = true ∧ (s.dev.sys n).pulseEnd ≠ none)) →
    Does (.sysrefFire n) s fun e =>
      e.rn (Reg.sysIgnored n) = (s.dev.rn (Reg.sysIgnored n) + 1) % 2 ^ 32 ∧ onlyRegsAct [Reg.sysIgnored n] s.dev e) ∧
  (∀ (s : State) (n : Fin 8) (g : Nat), s.dev.tbOn = true → (s.dev.sys n).next = some g → s.dev.tb.tbc < g →
    s.dev.sysMode n ≠ 2 →
    Does (.sysrefPulse n) s fun e => e.tb.tbc = g) ∧
  (∀ (s : State) (n : Fin 8) (t : Nat), s.dev.tbOn = true → (s.dev.sys n).pulseEnd = some t → s.dev.tb.tbc < t →
    Does (.sysrefPulseEnd n) s fun e => e.tb.tbc = t) ∧
  (∀ (s : State) (n : Fin 8), s.dev.tbOn = false →
    (Does (.sysrefPulse n) s fun e => e = s.dev) ∧ Does (.sysrefPulseEnd n) s fun e => e = s.dev)

/-- What a channel does as the count comes to t (R45, R46): a pulse that ends has DONE after ONE_SHOT, and a grid point begins a
pulse of WIDTH periods, which ends at once where WIDTH is 0, counts it and sets the next grid point one PERIOD on, or passes
silent in a GAPPED sequence. At the grid point a channel held from NAP or SENTINEL waits for, its pad is released, and the
last channel's clears the group's HOLD bit (R416). -/
def Piece.SysrefGridPoints : Prop :=
  (∀ (d : Dev) (n t : Nat), (d.sys n).pulseEnd = some t → (d.sys n).next ≠ some t → (d.sys n).held ≠ some t →
    (sysAt n t d).sys n = { d.sys n with pulseEnd := none, shot := false } ∧
    (n < 8 → (d.sys n).shot = true → (sysAt n t d).flag (Reg.sysStat n) 1 = true)) ∧
  (∀ (d : Dev) (n t : Nat), n < 8 → d.sysMode n ≠ 2 → (d.sys n).next = some t → (d.sys n).pulseEnd ≠ some t → (d.sys n).held ≠ some t →
    ((sysAt n t d).sys n).next = (if d.sysMode n = 3 then none else some (t + max 1 (d.rn (Reg.sysPeriod n)))) ∧
    (d.fld (Reg.sysCtl n) 15 8 ≠ 0 →
      ((sysAt n t d).sys n).pulseEnd = some (t + d.fld (Reg.sysCtl n) 15 8) ∧
      (((sysAt n t d).sys n).shot = true ↔ d.sysMode n = 3)) ∧
    (d.fld (Reg.sysCtl n) 15 8 = 0 →
      ((sysAt n t d).sys n).pulseEnd = none ∧ (d.sysMode n = 3 → (sysAt n t d).flag (Reg.sysStat n) 1 = true)) ∧
    (sysAt n t d).rn (Reg.sysPulses n) = (d.rn (Reg.sysPulses n) + 1) % 2 ^ 32) ∧
  (∀ (d : Dev) (n t : Nat), n < 8 → d.sysMode n = 2 → (d.sys n).next = some t → (d.sys n).pulseEnd ≠ some t → (d.sys n).held ≠ some t →
    max 1 (d.fld (Reg.sysGap n) 7 0) ≤ (d.sys n).gapPos →
    sysAt n t d = d.setSys n { d.sys n with
      next := some (t + max 1 (d.rn (Reg.sysPeriod n)))
      gapPos := ((d.sys n).gapPos + 1) % (max 1 (d.fld (Reg.sysGap n) 7 0) + d.fld (Reg.sysGap n) 31 16) }) ∧
  (∀ (d : Dev) (n t : Nat), (d.sys n).next ≠ some t → (d.sys n).pulseEnd ≠ some t → (d.sys n).held ≠ some t →
    sysAt n t d = d) ∧
  (∀ (d : Dev) (n t : Nat), n < 8 → (d.sys n).held = some t → (d.sys n).next ≠ some t → (d.sys n).pulseEnd ≠ some t →
    ((sysAt n t d).sys n).held = none ∧
    ((∀ m, m < 8 → m ≠ n → (d.sys m).held = none) → (sysAt n t d).flag Reg.pwrPadHold 0 = false)) ∧
  (∀ (d : Dev) (n t g : Nat), d.gridAt n t = some g →
    t ≤ g ∧ g < t + d.rn (Reg.sysPeriod n) ∧
    g % d.rn (Reg.sysPeriod n) = d.rn (Reg.sysPhase n) % d.rn (Reg.sysPeriod n))

/-- TIMESYNC exchanges and SYSREF channels. Choices of the model in it: a command whose conditions do not hold leaves the machine
as it was (log entry 7); commands that stand for a moment set the time, and an idle step is one period (log entry 10); a
SYSREF mode written again keeps its grid (log entry 11). -/
def Obligations.TimesyncAndSysref : Prop := Piece.TimesyncExchange ∧ Piece.SysrefChannels ∧ Piece.SysrefGridPoints

/-- PPS and clock outputs: their edges as time passes, and their levels at a count (R51, R52). -/
def Piece.ClockOutputs : Prop :=
  (∀ s : State, s.dev.flag Reg.tbPpso 0 = true → s.dev.tbOn = true →
    Does .ppsOutEdge s fun e =>
      e.pins.ppsOut = true ∧ s.dev.tb.tbc < e.tb.tbc ∧ e.tb.tbc ≤ s.dev.tb.tbc + 1600000000 ∧
      e.tb.tbc % 1600000000 = s.dev.fld Reg.tbPpso 31 15 * 2 ^ 14 % 1600000000 ∧
      e.tb.ppsFall = some (e.tb.tbc + s.dev.fld Reg.tbPpso 9 1 * 1600000)) ∧
  (∀ (s : State) (t : Nat), s.dev.tb.ppsFall = some t →
    s.dev.tbOn = true → s.dev.tb.tbc < t →
    Does .ppsOutFall s fun e => e.tb.tbc = t) ∧
  (∀ (s : State) (v : Word), s.dev.fenced Reg.tbClko = false →
    Does (.tbClkoWrite v) s fun e =>
      e.rn Reg.tbClko = v.toNat % 65536 ∧ e.tb = s.dev.tb ∧ onlyRegsAct [Reg.tbClko] s.dev e) ∧
  (∀ (d : Dev) (t : Nat), d.tb.ppsFall = some t → d.flag Reg.tbPpso 0 = false →
    ppsAt t d = { d with pins := { d.pins with ppsOut := false }, tb := { d.tb with ppsFall := none } }) ∧
  (∀ (d : Dev) (t : Nat), d.tb.clkRise ≤ t → t < d.tb.clkRise + max 1 d.tb.clkDiv →
    ((d.setTime t).pins.clkOut = true ↔ t - d.tb.clkRise < (max 1 d.tb.clkDiv + 1) / 2)) ∧
  (∀ (d : Dev), (d.setTime (d.tb.clkRise + max 1 d.tb.clkDiv)).pins.clkOut = true ∧
    (d.setTime (d.tb.clkRise + max 1 d.tb.clkDiv)).tb.clkRise = d.tb.clkRise + max 1 d.tb.clkDiv ∧
    (d.setTime (d.tb.clkRise + max 1 d.tb.clkDiv)).tb.clkDiv = max 1 (d.fld Reg.tbClko 15 0))

/-- A compare unit is armed by its low word; it fires as the TBC steps into its value, and disarms (R53). -/
def Piece.CompareUnits : Prop :=
  (∀ (s : State) (n : Fin 4) (lo : Word), s.dev.fenced (Reg.tbcmpLo n) = false →
    Does (.tbcmpArm n lo) s fun e =>
      e.flag (Reg.tbcmpStat n) 0 = true ∧ e.cmpValue n = s.dev.rn (Reg.tbcmpHi n) * 2 ^ 32 + lo.toNat ∧
      e = { s.dev with regs := e.regs, tb := e.tb, pwr := s.dev.activity.pwr } ∧
      keepsRegs [Reg.tbcmpLo n, Reg.tbcmpStat n] s.dev e) ∧
  (∀ (s : State) (n : Fin 4), s.dev.tbOn = true → s.dev.flag (Reg.tbcmpStat n) 0 = true → s.dev.tb.tbc < s.dev.cmpValue n →
    Does (.tbcmpMatch n) s fun e => e.tb.tbc = s.dev.cmpValue n ∧ e.flag (Reg.tbcmpStat n) 0 = false) ∧
  (∀ (s : State) (n : Fin 4), (s.dev.flag (Reg.tbcmpStat n) 0 = false ∨ s.dev.cmpValue n ≤ s.dev.tb.tbc) →
    Does (.tbcmpMatch n) s fun e => e = s.dev) ∧
  (∀ (d : Dev) (n : Fin 4), d.cmpArmed n = true → d.cmpValue n = d.tb.tbc + 1 →
    (tbTick d).tb.tbc = d.tb.tbc + 1 ∧ (tbTick d).cmpArmed n = false) ∧
  (∀ (d : Dev) (n : Fin 4), d.cmpArmed n = true → d.cmpValue n ≠ d.tb.tbc + 1 → (tbTick d).cmpArmed n = true)

/-- PPS and clock outputs, and compare units. Choices of the model in it: a command whose conditions do not hold leaves the
machine as it was (log entry 7); commands that stand for a moment set the time, and an idle step is one period (log entry
10). -/
def Obligations.ClockOutputsAndCompareUnits : Prop := Piece.ClockOutputs ∧ Piece.CompareUnits

/-- Writes of general timer registers (R59, R60): a count or compare value waits for the timer's clock with PEND = 1, the high
half of a linked pair is held, the high word of a write still pending stays, and LINK on an odd timer is ignored. -/
def Piece.TimerRegisterWrites : Prop :=
  (∀ (s : State) (n : Fin 16) (v : Word), s.dev.fenced (Reg.gtCnt n) = false → s.dev.gtOwner n = n →
    Does (.gtCntWrite n v) s fun e =>
      (e.gt n).pendCnt = some (if s.dev.gtLinked n then
        (((s.dev.gt n).heldCnt <|> (s.dev.gt n).pendCnt.map (· / 2 ^ 32)).getD (s.dev.rn (Reg.gtCnt (n + 1)))) * 2 ^ 32 + v.toNat else v.toNat) ∧
      e.flag (Reg.gtStat n) 1 = true ∧ e.rn (Reg.gtCnt n) = s.dev.rn (Reg.gtCnt n) ∧
      e = { s.dev with regs := e.regs, tb := e.tb, pwr := s.dev.activity.pwr } ∧
      keepsRegs [Reg.gtStat n, Reg.gtStat (n + 1)] s.dev e) ∧
  (∀ (s : State) (n : Fin 16) (v : Word), s.dev.fenced (Reg.gtCnt n) = false → s.dev.gtOwner n ≠ n →
    Does (.gtCntWrite n v) s fun e =>
      (e.gt (s.dev.gtOwner n)).heldCnt = some v.toNat ∧
      e = { s.dev with tb := { s.dev.tb with gts := e.tb.gts }, pwr := s.dev.activity.pwr }) ∧
  (∀ (s : State) (n : Fin 16) (v : Word), s.dev.fenced (Reg.gtCmp n) = false → s.dev.gtOwner n = n →
    Does (.gtCmpWrite n v) s fun e =>
      (e.gt n).pendCmp = some (if s.dev.gtLinked n then
        (((s.dev.gt n).heldCmp <|> (s.dev.gt n).pendCmp.map (· / 2 ^ 32)).getD (s.dev.rn (Reg.gtCmp (n + 1)))) * 2 ^ 32 + v.toNat else v.toNat) ∧
      e.flag (Reg.gtStat n) 1 = true ∧ e.rn (Reg.gtCmp n) = s.dev.rn (Reg.gtCmp n) ∧
      e = { s.dev with regs := e.regs, tb := e.tb, pwr := s.dev.activity.pwr } ∧
      keepsRegs [Reg.gtStat n, Reg.gtStat (n + 1)] s.dev e) ∧
  (∀ (s : State) (n : Fin 16) (v : Word), s.dev.fenced (Reg.gtCmp n) = false → s.dev.gtOwner n ≠ n →
    Does (.gtCmpWrite n v) s fun e =>
      (e.gt (s.dev.gtOwner n)).heldCmp = some v.toNat ∧
      e = { s.dev with tb := { s.dev.tb with gts := e.tb.gts }, pwr := s.dev.activity.pwr }) ∧
  (∀ (s : State) (n : Fin 16) (v : Word), s.dev.fenced (Reg.gtCtl n) = false →
    Does (.gtCtlWrite n v) s fun e =>
      (∀ i : Fin 32, e.flag (Reg.gtCtl n) i =
        (bit v.toNat i && decide (i.val < 16 ∧ i.val ≠ 2 ∧ i.val ≠ 3) && !(i.val == 1 && n.val % 2 == 1))) ∧
      e.rn (Reg.gtCnt n) = s.dev.rn (Reg.gtCnt n) ∧ e.rn (Reg.gtCmp n) = s.dev.rn (Reg.gtCmp n) ∧
      keepsRegs [Reg.gtCtl n, Reg.gtStat n, Reg.gtStat (n + 1)] s.dev e ∧ keepsMem s.dev e)

/-- What the passage of time brings to a general timer that nothing else acts on (R56, R60): a pending count replaces a step; a
match is counted as the count steps into the compare value, an overflow as it steps to 0. In SENTINEL time passes by whole
XT32 periods. -/
def Piece.TimerEvents : Prop :=
  (∀ (s : State) (n : Fin 16) (v : Nat), s.dev.gtOwner n = n → s.dev.gtClocked n = true → (s.dev.gt n).pendCnt = some v →
    v < 2 ^ s.dev.gtBits n → s.dev.onlyTimer n = true →
    Does (.gtWriteApply n) s fun e =>
      (e.gt n).pendCnt = none ∧
      (s.dev.inSentinel = false → e.gtCount n = v ∧ e.rn (Reg.gtMatches n) = s.dev.rn (Reg.gtMatches n))) ∧
  (∀ (s : State) (n : Fin 16), s.dev.gtOwner n = n → (s.dev.gtWaiting n = false ∨ s.dev.gtClocked n = false) →
    Does (.gtWriteApply n) s fun e => e = s.dev) ∧
  (∀ (s : State) (n : Fin 16), s.dev.gtOwner n = n → s.dev.gtCounting n = true → s.dev.gtClocked n = true →
    s.dev.gtWaiting n = false → s.dev.onlyTimer n = true → s.dev.fld (Reg.gtAct n) 12 8 = 0 → s.dev.inSentinel = false →
    Does (.gtMatch n) s fun e =>
      e.rn (Reg.gtMatches n) = (s.dev.rn (Reg.gtMatches n) + 1) % 2 ^ 32 ∧ e.gtCount n = s.dev.gtCompare n) ∧
  (∀ (s : State) (n : Fin 16), s.dev.gtOwner n = n → s.dev.gtCounting n = true → s.dev.gtClocked n = true →
    s.dev.gtWaiting n = false → s.dev.onlyTimer n = true → s.dev.fld (Reg.gtAct n) 4 0 = 0 → s.dev.inSentinel = false →
    Does (.gtOverflow n) s fun e =>
      e.rn (Reg.gtOvfs n) = (s.dev.rn (Reg.gtOvfs n) + 1) % 2 ^ 32 ∧ e.gtCount n = 0) ∧
  (∀ (s : State) (n : Fin 16), (s.dev.gtOwner n ≠ n ∨ s.dev.gtCounting n = false ∨ s.dev.gtClocked n = false) →
    (Does (.gtMatch n) s fun e => e = s.dev) ∧ Does (.gtOverflow n) s fun e => e = s.dev)

/-- One active edge of a timer's clock (R56, R57, R60): the count steps, and is compared with the value before any pending write;
a reset replaces the step by 0, with no overflow; a pending count replaces it with no match. -/
def Piece.TimerSteps : Prop :=
  (∀ (d : Dev) (o : Fin 16), d.gtOwner o = o → d.gtCounting o = true → d.gt o = {} →
    (d.gtStep o).1.gtCount o = (d.gtCount o + 1) % 2 ^ d.gtBits o ∧
    (d.gtStep o).1.rn (Reg.gtMatches o) =
      (d.rn (Reg.gtMatches o) + if (d.gtCount o + 1) % 2 ^ d.gtBits o = d.gtCompare o then 1 else 0) % 2 ^ 32 ∧
    (d.gtStep o).1.rn (Reg.gtOvfs o) =
      (d.rn (Reg.gtOvfs o) + if d.gtCount o + 1 = 2 ^ d.gtBits o then 1 else 0) % 2 ^ 32) ∧
  (∀ (d : Dev) (o : Fin 16), d.gtOwner o = o → d.gtCounting o = true → d.gt o = { rst := true } →
    (d.gtStep o).1.gtCount o = 0 ∧ (d.gtStep o).1.gt o = {} ∧
    (d.gtStep o).1.rn (Reg.gtOvfs o) = d.rn (Reg.gtOvfs o)) ∧
  (∀ (d : Dev) (o : Fin 16) (v : Nat), d.gtOwner o = o → (d.gt o).pendCnt = some v → v < 2 ^ d.gtBits o →
    (d.gtStep o).1.gtCount o = v ∧ (d.gtStep o).2 = 0 ∧
    (d.gtStep o).1.rn (Reg.gtMatches o) = d.rn (Reg.gtMatches o) ∧
    (d.gtStep o).1.rn (Reg.gtOvfs o) = d.rn (Reg.gtOvfs o)) ∧
  (∀ (d : Dev) (o : Fin 16), d.gtCounting o = false → d.gt o = {} →
    (d.gtStep o).1.gtCount o = d.gtCount o ∧ (d.gtStep o).2 = 0)

/-- General timers: register writes, events and steps. Choices of the model in it: a command whose conditions do not hold leaves
the machine as it was (log entry 7); commands that stand for a moment set the time, and an idle step is one period (log entry
10); the nominal ratio and phase of the clocks beside TB_CLK (log entry 104). -/
def Obligations.TimerCommands : Prop := Piece.TimerRegisterWrites ∧ Piece.TimerEvents ∧ Piece.TimerSteps

/-- Enabling a link checks its settings; the lanes lock, the link waits for SYSREF, is released and is UP (R65, R66, R68, R71). -/
def Piece.LinkBringUp : Prop :=
  (∀ (s : State) (n : Fin 6) (v : Word), s.dev.fenced (Reg.intkLinkCtl n) = false → s.dev.linkEn n = false →
    bit v.toNat 0 = true →
    Does (.linkEnable n v) s fun e =>
      e.linkEn n = true ∧ e.fld (Reg.intkLinkCtl n) 31 20 = bits v.toNat 31 20 ∧
      e.fld (Reg.intkLinkCtl n) 15 8 = bits v.toNat 15 8 ∧
      e.flag (Reg.intkLinkStat n) 3 = !s.dev.linkCfgOk n (bits v.toNat 31 20) ∧
      onlyRegsAct [Reg.intkLinkCtl n, Reg.intkLinkStat n] s.dev e) ∧
  (∀ (s : State) (n : Fin 6) (v : Word), s.dev.fenced (Reg.intkLinkCtl n) = false → s.dev.linkEn n = true →
    bit v.toNat 0 = false →
    Does (.linkEnable n v) s fun e =>
      e.linkEn n = false ∧ e.linkUp n = false ∧ (e.link n).lemc = none ∧
      ∀ m : Fin 24, m.val ∈ s.dev.lanesOf n → e.rn (Reg.intkLaneStat m) = 0) ∧
  (∀ (s : State) (m : Fin 24) (n : Nat), s.dev.laneLink m = some n → s.dev.linkEn n = true →
    s.dev.flag (Reg.intkLinkStat n) 3 = false → s.dev.clocksOn = true →
    Does (.syncHeaderLock m) s fun e =>
      e.flag (Reg.intkLaneStat m) 0 = true ∧
      onlyRegs [Reg.intkLaneStat m, Reg.intkLanesUp, Reg.intkLinkStat n] s.dev e) ∧
  (∀ (s : State) (m : Fin 24) (n : Nat), s.dev.laneLink m = some n → s.dev.linkEn n = true →
    s.dev.flag (Reg.intkLinkStat n) 3 = false → s.dev.flag (Reg.intkLaneStat m) 0 = true → s.dev.clocksOn = true →
    Does (.embLock m) s fun e =>
      e.laneUp m = true ∧
      ((∀ k : Fin 24, k.val ∈ s.dev.lanesOf n → k ≠ m → s.dev.laneUp k = true) → s.dev.linkUp n = false →
        (s.dev.link n).lemc = none → e.flag (Reg.intkLinkStat n) 4 = true) ∧
      onlyRegs [Reg.intkLaneStat m, Reg.intkLanesUp, Reg.intkLinkStat n] s.dev e) ∧
  (∀ (s : State) (n : Fin 6) (lat : Word) (fine : BitVec 8), s.dev.linkEn n = true → s.dev.linkUp n = false →
    (s.dev.link n).lemc ≠ none → s.dev.clocksOn = true →
    Does (.linkRelease n lat fine) s fun e =>
      e.linkUp n = true ∧ e.rn (Reg.intkLinkLat n) = lat.toNat ∧
      e.latMismatch n = (s.dev.rn (Reg.intkLinkLatExp n) != 0 && s.dev.rn (Reg.intkLinkLatExp n) != lat.toNat) ∧
      (e.link n).tLemc = ((s.dev.tb.tbc * 256 + fine.toNat : Nat) - (lat.toNat * 256 : Nat) -
        (s.dev.rn (Reg.intkLinkAdcLat n) : Nat) : Int) * 65536 ∧ (e.link n).j = 0 ∧ keepsMem s.dev e)

/-- What takes a link down, and what is only marked (R69); while INTAKE is not clocked the intake does nothing (R407). -/
def Piece.LinkLoss : Prop :=
  (∀ (s : State) (m : Fin 24) (n : Nat), s.dev.laneLink m = some n → s.dev.linkEn n = true → s.dev.linkUp n = true → s.dev.clocksOn = true →
    Does (.linkDownSherr m) s fun e =>
      e.linkUp n = false ∧ (e.link n).lemc = none ∧ e.rn (Reg.intkLaneStat m) = 0 ∧
      e.rn (Reg.intkLaneSherr m) = (s.dev.rn (Reg.intkLaneSherr m) + 1) % 2 ^ 32 ∧
      e.rn (Reg.intkLinkRealigns n) = (s.dev.rn (Reg.intkLinkRealigns n) + 1) % 2 ^ 32) ∧
  (∀ (s : State) (m : Fin 24) (n : Nat), s.dev.laneLink m = some n → s.dev.linkEn n = true → s.dev.linkUp n = true → s.dev.clocksOn = true →
    Does (.linkDownEmb m) s fun e =>
      e.linkUp n = false ∧ (e.link n).lemc = none ∧ e.flag (Reg.intkLaneStat m) 1 = false ∧
      e.rn (Reg.intkLinkRealigns n) = (s.dev.rn (Reg.intkLinkRealigns n) + 1) % 2 ^ 32) ∧
  (∀ (s : State) (m : Fin 24) (n : Nat), s.dev.laneLink m = some n → s.dev.linkEn n = true → s.dev.linkUp n = true → s.dev.clocksOn = true →
    Does (.linkDownEb m) s fun e =>
      e.linkUp n = false ∧ (e.link n).lemc = none ∧
      e.rn (Reg.intkLinkEbErr n) = (s.dev.rn (Reg.intkLinkEbErr n) + 1) % 2 ^ 32 ∧
      e.rn (Reg.intkLinkRealigns n) = (s.dev.rn (Reg.intkLinkRealigns n) + 1) % 2 ^ 32) ∧
  (∀ (s : State) (m : Fin 24) (n samples : Nat) (convs : BitVec 16) (first : Bool), s.dev.laneLink m = some n →
    s.dev.linkUp n = true → s.dev.clocksOn = true →
    Does (.laneCrcMismatch m ⟨samples, convs⟩ first) s fun e =>
      e.linkUp n = true ∧
      (∀ c : Fin 16, (e.link n).crcLeft.get 0 c =
        if bit convs.toNat c then max ((s.dev.link n).crcLeft.get 0 c) samples else (s.dev.link n).crcLeft.get 0 c) ∧
      e.rn (Reg.intkLaneCrcerr m) = (s.dev.rn (Reg.intkLaneCrcerr m) + 1) % 2 ^ 32 ∧
      e.rn (Reg.intkLinkCrcBlocks n) = (s.dev.rn (Reg.intkLinkCrcBlocks n) + b2n first) % 2 ^ 32 ∧
      e = { s.dev with regs := e.regs, links := e.links } ∧
      keepsRegs [Reg.intkLaneCrcerr m, Reg.intkLinkCrcBlocks n] s.dev e) ∧
  (∀ (s : State) (m : Fin 24), s.dev.clocksOn = false →
    (Does (.syncHeaderLock m) s fun e => e = s.dev) ∧ (Does (.embLock m) s fun e => e = s.dev) ∧
    (Does (.linkDownSherr m) s fun e => e = s.dev) ∧ (Does (.linkDownEmb m) s fun e => e = s.dev) ∧
    Does (.linkDownEb m) s fun e => e = s.dev) ∧
  (∀ (s : State) (m : Fin 24) (samples : Nat) (convs : BitVec 16) (first : Bool), s.dev.clocksOn = false →
    Does (.laneCrcMismatch m ⟨samples, convs⟩ first) s fun e => e = s.dev) ∧
  (∀ (s : State) (n : Fin 6) (lat : Word) (fine : BitVec 8), s.dev.clocksOn = false →
    Does (.linkRelease n lat fine) s fun e => e = s.dev) ∧
  (∀ (s : State) (n : Fin 6) (x : List (BitVec 16)), s.dev.clocksOn = false →
    Does (.inputSample n x) s fun e => e = s.dev) ∧
  (∀ (s : State) (k : Fin 64), s.dev.clocksOn = false →
    (Does (.frameStart k) s fun e => e = s.dev) ∧ Does (.frameComplete k) s fun e => e = s.dev)

/-- Intake links come up and are lost. Choices of the model in it: a command whose conditions do not hold leaves the machine as
it was (log entry 7); commands that stand for a moment set the time, and an idle step is one period (log entry 10). -/
def Obligations.IntakeLinks : Prop := Piece.LinkBringUp ∧ Piece.LinkLoss

/-- Samples and tuning words (R71, R74, R82): each sample of a link counts on its stamp and steps the NCO of each stream. -/
def Piece.StreamSamples : Prop :=
  (∀ (s : State) (n : Fin 6) (x : List (BitVec 16)), s.dev.linkUp n = true → s.dev.clocksOn = true →
    Does (.inputSample n x) s fun e =>
      (e.link n).j = (s.dev.link n).j + 1 ∧ (∀ c : Fin 16, (e.link n).crcLeft.get 0 c = (s.dev.link n).crcLeft.get 0 c - 1) ∧
      (∀ k : Fin 64, k.val ∈ s.dev.streamsOf n → s.dev.strOpen k = true →
        (e.strm k).acc = ((s.dev.strm k).acc + (s.dev.strm k).ftw) % 2 ^ 48) ∧
      (∀ k : Fin 64, k.val ∈ s.dev.streamsOf n → s.dev.strOpen k = false →
        (e.strm k).ftw = (s.dev.strm k).ftwPend.getD (s.dev.strm k).ftw ∧ (e.strm k).ftwPend = none ∧
        (e.strm k).acc = ((s.dev.strm k).acc + (e.strm k).ftw) % 2 ^ 48) ∧
      (∀ k : Fin 64, k.val ∉ s.dev.streamsOf n → e.strm k = s.dev.strm k)) ∧
  (∀ (s : State) (n : Fin 64), s.dev.fenced (Reg.intkStrCtl n) = false →
    Does (.ncoSync n) s fun e =>
      e.flag (Reg.intkStrStat n) 4 = true ∧ onlyRegsAct [Reg.intkStrStat n] s.dev e) ∧
  (∀ (s : State) (n : Fin 64) (lo : Word), s.dev.fenced (Reg.intkStrFtwLo n) = false →
    Does (.ftwPost n lo) s fun e =>
      (e.strm n).ftwPend = some (s.dev.fld (Reg.intkStrFtwHi n) 15 0 * 2 ^ 32 + lo.toNat) ∧
      (e.strm n).ftw = (s.dev.strm n).ftw ∧ e.flag (Reg.intkStrStat n) 1 = true ∧
      keepsRegs [Reg.intkStrFtwLo n, Reg.intkStrStat n] s.dev e ∧ keepsMem s.dev e)

/-- Frames start at hop points in a free slot, or are dropped, and are complete with their descriptor (R77-R80). -/
def Piece.StreamFrames : Prop :=
  (∀ (s : State) (n : Fin 64) (k : Nat), s.dev.strOpen n = true → (s.dev.strm n).closing = false →
    (s.dev.strm n).gather = false → s.dev.flag (Reg.intkStrStat n) 2 = false → (s.dev.strm n).resume = none →
    s.dev.atHop n (s.dev.strm n) = true → s.dev.held unitIntake = false → s.dev.pickSlot n = some k →
    (s.dev.strm n).outq = [] → s.dev.clocksOn = true →
    Does (.frameStart n) s fun e =>
      (e.strm n).nextFrame = (s.dev.strm n).nextFrame + 1 ∧ (e.strm n).busy = (s.dev.strm n).busy ++ [k] ∧
      (e.strm n).filling.map (·.frame) = (s.dev.strm n).filling.map (·.frame) ++ [(s.dev.strm n).nextFrame] ∧
      e.rn (Reg.intkStrFrameNo n) = ((s.dev.strm n).nextFrame + 1) % 2 ^ 32 ∧
      e.rn (Reg.intkStrDropped n) = s.dev.rn (Reg.intkStrDropped n)) ∧
  (∀ (s : State) (n : Fin 64), s.dev.strOpen n = true → (s.dev.strm n).closing = false →
    (s.dev.strm n).gather = false → s.dev.flag (Reg.intkStrStat n) 2 = false → (s.dev.strm n).resume = none →
    s.dev.atHop n (s.dev.strm n) = true → s.dev.pickSlot n = none → (s.dev.strm n).outq = [] → s.dev.clocksOn = true →
    Does (.frameStart n) s fun e =>
      (e.strm n).nextFrame = (s.dev.strm n).nextFrame + 1 ∧ (e.strm n).busy = (s.dev.strm n).busy ∧
      e.rn (Reg.intkStrFrameNo n) = ((s.dev.strm n).nextFrame + 1) % 2 ^ 32 ∧
      e.rn (Reg.intkStrDropped n) = (s.dev.rn (Reg.intkStrDropped n) + 1) % 2 ^ 32) ∧
  (∀ (s : State) (n : Fin 64) (f : Filling),
    (s.dev.strm n).filling.find? (fun f => decide (s.dev.frameLen n ≤ f.count)) = some f →
    s.dev.lineBad (s.dev.slotAddr n f.slot) = false → s.dev.slotAddr n f.slot + 64 ≤ hostBase → s.dev.clocksOn = true →
    Does (.frameComplete n) s fun e =>
      e.bytes (s.dev.slotAddr n f.slot) 64 = descriptor n f
        (f.flags ||| (8 * b2n (s.dev.latMismatch (s.dev.fld (Reg.intkStrSrc n) 18 16)))) ∧
      keepsMemBut (s.dev.slotAddr n f.slot) 64 s.dev e ∧
      (e.strm n).filling = (s.dev.strm n).filling.filter (fun g => g.frame != f.frame) ∧
      e.rn (Reg.intkStrFrames n) = (s.dev.rn (Reg.intkStrFrames n) + 1) % 2 ^ 32)

/-- Samples and frames of an intake stream. Choices of the model in it: a command whose conditions do not hold leaves the machine
as it was (log entry 7); a free slot is taken in ring order (log entry 8). -/
def Obligations.IntakeStreams : Prop := Piece.StreamSamples ∧ Piece.StreamFrames

/-- The scalar operations write S[RD] and the ALU result register one cycle on, modulo 2^64 (R122). Choices of the model in it: a
command whose conditions do not hold leaves the machine as it was (log entry 7). -/
def Obligations.ScalarSlots : Prop :=
  (∀ (s : State) (x : Slot), s.dev.executes (.mov x) x uAlu = true →
    Does (.mov x) s (s.dev.scalarDone x (BitVec.ofNat 64 ((s.dev.atIssue x uAlu).source x (s.dev.issueAt x) x.sa.toNat).2))) ∧
  (∀ (s : State) (x : Slot), s.dev.executes (.movi x) x uAlu = true →
    Does (.movi x) s (s.dev.scalarDone x (x.func.signExtend 64))) ∧
  (∀ (s : State) (x : Slot), s.dev.executes (.add x) x uAlu = true →
    Does (.add x) s (s.dev.scalarDone x
      (BitVec.ofNat 64 (s.dev.operands x uAlu).1 + BitVec.ofNat 64 (s.dev.operands x uAlu).2))) ∧
  (∀ (s : State) (x : Slot), s.dev.executes (.sub x) x uAlu = true →
    Does (.sub x) s (s.dev.scalarDone x
      (BitVec.ofNat 64 (s.dev.operands x uAlu).1 - BitVec.ofNat 64 (s.dev.operands x uAlu).2))) ∧
  (∀ (s : State) (x : Slot), s.dev.executes (.logicAnd x) x uAlu = true →
    Does (.logicAnd x) s (s.dev.scalarDone x
      (BitVec.ofNat 64 (s.dev.operands x uAlu).1 &&& BitVec.ofNat 64 (s.dev.operands x uAlu).2))) ∧
  (∀ (s : State) (x : Slot), s.dev.executes (.logicOr x) x uAlu = true →
    Does (.logicOr x) s (s.dev.scalarDone x
      (BitVec.ofNat 64 (s.dev.operands x uAlu).1 ||| BitVec.ofNat 64 (s.dev.operands x uAlu).2))) ∧
  (∀ (s : State) (x : Slot), s.dev.executes (.logicXor x) x uAlu = true →
    Does (.logicXor x) s (s.dev.scalarDone x
      (BitVec.ofNat 64 (s.dev.operands x uAlu).1 ^^^ BitVec.ofNat 64 (s.dev.operands x uAlu).2))) ∧
  (∀ (s : State) (x : Slot), s.dev.executes (.logicAndnot x) x uAlu = true →
    Does (.logicAndnot x) s (s.dev.scalarDone x
      (BitVec.ofNat 64 (s.dev.operands x uAlu).1 &&& ~~~ BitVec.ofNat 64 (s.dev.operands x uAlu).2))) ∧
  (∀ (s : State) (x : Slot), s.dev.executes (.shiftLsl x) x uAlu = true →
    Does (.shiftLsl x) s (s.dev.scalarDone x
      (BitVec.ofNat 64 (s.dev.operands x uAlu).1 <<< ((s.dev.operands x uAlu).2 % 64)))) ∧
  (∀ (s : State) (x : Slot), s.dev.executes (.shiftLsr x) x uAlu = true → (s.dev.operands x uAlu).1 < 2 ^ 64 →
    Does (.shiftLsr x) s (s.dev.scalarDone x
      (BitVec.ofNat 64 (s.dev.operands x uAlu).1 >>> ((s.dev.operands x uAlu).2 % 64)))) ∧
  (∀ (s : State) (x : Slot), s.dev.executes (.shiftAsr x) x uAlu = true →
    Does (.shiftAsr x) s (s.dev.scalarDone x
      ((BitVec.ofNat 64 (s.dev.operands x uAlu).1).sshiftRight ((s.dev.operands x uAlu).2 % 64)))) ∧
  (∀ (s : State) (x : Slot), s.dev.executes (.shiftRor x) x uAlu = true → (s.dev.operands x uAlu).1 < 2 ^ 64 →
    Does (.shiftRor x) s (s.dev.scalarDone x
      ((BitVec.ofNat 64 (s.dev.operands x uAlu).1).rotateRight ((s.dev.operands x uAlu).2 % 64))))

/-- The lane operations write the ALU result register alone, after their latency: S[RD] and the other registers of the cell stay
as they are (R122, R123, R127, R154). PWL's load writes its segment and no result. LOG2 forms both FP32 lanes: −128 of a
zero, +∞ of an infinity, the canonical NaN of a NaN (R127). Choices of the model in it: BF16 and FP32 results are rounded
once (log entry 6); a command whose conditions do not hold leaves the machine as it was (log entry 7). -/
def Obligations.LaneSlots : Prop :=
  (∀ (s : State) (x : Slot), s.dev.executes (.vadd x) x uAlu = true →
    Does (.vadd x) s (s.dev.laneDone x (s.dev.took2 x) 2
      (laneWise (laneFmt x) Flt.add (s.dev.operands x uAlu).1 (s.dev.operands x uAlu).2))) ∧
  (∀ (s : State) (x : Slot), s.dev.executes (.vmul x) x uAlu = true →
    Does (.vmul x) s (s.dev.laneDone x (s.dev.took2 x) 2
      (laneWise (laneFmt x) Flt.mul (s.dev.operands x uAlu).1 (s.dev.operands x uAlu).2))) ∧
  (∀ (s : State) (x : Slot), s.dev.executes (.vmax x) x uAlu = true →
    Does (.vmax x) s (s.dev.laneDone x (s.dev.took2 x) 2
      (laneWise (laneFmt x) numMax (s.dev.operands x uAlu).1 (s.dev.operands x uAlu).2))) ∧
  (∀ (s : State) (x : Slot), s.dev.executes (.vmin x) x uAlu = true →
    Does (.vmin x) s (s.dev.laneDone x (s.dev.took2 x) 2
      (laneWise (laneFmt x) numMin (s.dev.operands x uAlu).1 (s.dev.operands x uAlu).2))) ∧
  (∀ (s : State) (x : Slot), s.dev.executes (.actRelu x) x uAlu = true →
    Does (.actRelu x) s (s.dev.laneDone x (s.dev.took2 x) 2
      (laneWise (laneFmt x) (fun a _ => numMax a Flt.zero) (s.dev.operands x uAlu).1 (s.dev.operands x uAlu).2))) ∧
  (∀ (s : State) (x : Slot), s.dev.executes (.actClamp x) x uAlu = true →
    Does (.actClamp x) s (s.dev.laneDone x (s.dev.took2 x) 2
      (laneWise (laneFmt x) (fun a b => numMin (numMax a b.negate) b) (s.dev.operands x uAlu).1 (s.dev.operands x uAlu).2))) ∧
  (∀ (s : State) (x : Slot), s.dev.executes (.actClampPos x) x uAlu = true →
    Does (.actClampPos x) s (s.dev.laneDone x (s.dev.took2 x) 2
      (laneWise (laneFmt x) (fun a b => numMin (numMax a Flt.zero) b) (s.dev.operands x uAlu).1 (s.dev.operands x uAlu).2))) ∧
  (∀ (s : State) (x : Slot), s.dev.executes (.pwlLoad x) x uAlu = true →
    Does (.pwlLoad x) s fun e =>
      (e.xcell x).pwl.get 0 (funcFld x 13 10) =
        ((s.dev.atIssue x uAlu).source x (s.dev.issueAt x) x.sa.toNat).2 % 2 ^ 32 ∧
      (∀ i : Fin 16, i.val ≠ funcFld x 13 10 → (e.xcell x).pwl.get 0 i = ((s.dev.took1 x).xcell x).pwl.get 0 i) ∧
      (e.xcell x).pend = ((s.dev.took1 x).xcell x).pend ∧ (s.dev.took1 x).keepsCell x e ∧ e.laneAt x (s.dev.issueAt x + 1)) ∧
  (∀ (s : State) (x : Slot), s.dev.executes (.pwlEval x) x uAlu = true →
    Does (.pwlEval x) s (s.dev.laneDone x (s.dev.took2 x) 3
      (pwlLanes ((List.range 16).map (fun i => ((s.dev.atIssue x uAlu).xcell x).pwl.get 0 i))
        (s.dev.operands x uAlu).1 (s.dev.operands x uAlu).2))) ∧
  (∀ (s : State) (x : Slot), s.dev.executes (.mag x) x uAlu = true →
    Does (.mag x) s (s.dev.laneDone x (s.dev.took1 x) 2
      (magLanes (laneFmt x) ((s.dev.atIssue x uAlu).source x (s.dev.issueAt x) x.sa.toNat).2))) ∧
  (∀ (s : State) (x : Slot), s.dev.executes (.log2 x) x uAlu = true →
    let v := ((s.dev.atIssue x uAlu).source x (s.dev.issueAt x) x.sa.toNat).2
    Does (.log2 x) s (s.dev.laneDone x (s.dev.took1 x) 3 (log2Lane (v % 2 ^ 32) + log2Lane (v / 2 ^ 32 % 2 ^ 32) * 2 ^ 32))) ∧
  (∀ v : BitVec 32, (v.toNat % 2 ^ 31 = 0 → log2Lane v.toNat = 0xC3000000) ∧
    (v.toNat % 2 ^ 31 = 0x7F800000 → log2Lane v.toNat = 0x7F800000) ∧
    (0x7F800000 < v.toNat % 2 ^ 31 → log2Lane v.toNat = 0x7FC00000)) ∧
  (∀ (s : State) (x : Slot), s.dev.executes (.scale x) x uAlu = true →
    Does (.scale x) s (s.dev.laneDone x (s.dev.took2 x) 2
      (scaleLanes (laneFmt x) (s.dev.operands x uAlu).1 (s.dev.operands x uAlu).2))) ∧
  (∀ (s : State) (x : Slot), s.dev.executes (.cvt x) x uAlu = true →
    Does (.cvt x) s (s.dev.laneDone x (s.dev.took2 x) 2 (cvtResult x (s.dev.operands x uAlu).1 (s.dev.operands x uAlu).2).1))

/-- Loads and stores of the data SRAM, accumulators, and messages (R92, R117, R122, R124, R125, R93). -/
def Piece.MemoryAndMacSlots : Prop :=
  (∀ (s : State) (x : Slot), s.dev.executes (.ld x) x uLsu = true →
    let b := s.dev.atIssue x uLsu
    bit (b.xcell x).banks (b.sramAddr x / 1024) = false →
    Does (.ld x) s fun e =>
      e.hasResult x (s.dev.issueAt x) 2 (.reg x.rd.val) ((b.xcell x).sram.get 0 (b.sramAddr x) % 2 ^ 64) ∧
      e.laneAt x (s.dev.issueAt x + 1)) ∧
  (∀ (s : State) (x : Slot), s.dev.executes (.st x) x uLsu = true →
    let r := (s.dev.atIssue x uLsu).source x (s.dev.issueAt x) x.sa.toNat
    bit (r.1.xcell x).banks (r.1.sramAddr x / 1024) = false →
    Does (.st x) s fun e =>
      (e.xcell x).sram.get 0 (r.1.sramAddr x) = r.2 % 2 ^ 64 ∧
      (∀ a : Fin 3072, a.val ≠ r.1.sramAddr x → (e.xcell x).sram.get 0 a = (r.1.xcell x).sram.get 0 a)) ∧
  (∀ (s : State) (x : Slot), s.dev.executes (.mac x) x uMac = true →
    let r := (s.dev.atIssue x uMac).macSources x (s.dev.issueAt x)
    Does (.mac x) s fun e =>
      (∀ q : Fin 32, acc (e.xcell x) q = acc (macAll x r.2.1 r.2.2 (r.1.xcell x)) q) ∧ e.laneAt x (s.dev.issueAt x + 1)) ∧
  (∀ (s : State) (x : Slot), s.dev.executes (.macq x) x uMac = true →
    let r := (s.dev.atIssue x uMac).macSources x (s.dev.issueAt x)
    let m := if x.sa = x.sb ∧ x.sa.toNat / 16 = 2 then (r.1, r.2.2) else r.1.source x (s.dev.issueAt x) x.sa.toNat
    let c := macAll x r.2.1 r.2.2 (m.1.xcell x)
    Does (.macq x) s fun e =>
      acc (e.xcell x) (funcFld x 9 5) = accClose (m.2 % 2 ^ 32) (acc c (funcFld x 9 5)) ∧
      (∀ q : Fin 32, q.val ≠ funcFld x 9 5 → acc (e.xcell x) q = acc c q)) ∧
  (∀ (s : State) (x : Slot), s.dev.executes (.gq x) x uMac = true →
    let m := (s.dev.atIssue x uMac).source x (s.dev.issueAt x) x.sa.toNat
    Does (.gq x) s fun e =>
      acc (e.xcell x) (funcFld x 15 11) = accClose (m.2 % 2 ^ 32) (acc (m.1.xcell x) (funcFld x 15 11)) ∧
      (∀ q : Fin 32, q.val ≠ funcFld x 15 11 → acc (e.xcell x) q = acc (m.1.xcell x) q)) ∧
  (∀ (s : State) (x : Slot), s.dev.executes (.accrdFp32 x) x uMac = true →
    let c := (s.dev.atIssue x uMac).xcell x
    Does (.accrdFp32 x) s fun e => e.hasResult x (s.dev.issueAt x) 4 .mac
      (((acc c (funcFld x 15 11)).f + (acc c (funcFld x 15 11 + 1)).f * 2 ^ 32) % 2 ^ 64)) ∧
  (∀ (s : State) (x : Slot), s.dev.executes (.accrdBf16 x) x uMac = true →
    let c := (s.dev.atIssue x uMac).xcell x
    Does (.accrdBf16 x) s fun e => ∃ v, e.hasResult x (s.dev.issueAt x) 4 .mac v ∧ ∀ k : Fin 4,
      v / 2 ^ (16 * k.val) % 2 ^ 16 = (encodeSat bf16 (decodeFp fp32 (acc c (funcFld x 15 11 + k)).f)).1 % 2 ^ 16) ∧
  (∀ (s : State) (x : Slot), s.dev.executes (.accrdInt32 x) x uMac = true →
    let c := (s.dev.atIssue x uMac).xcell x
    Does (.accrdInt32 x) s fun e => e.hasResult x (s.dev.issueAt x) 4 .mac
      (unsignedOf 32 (acc c (funcFld x 15 11)).g + unsignedOf 32 (acc c (funcFld x 15 11 + 1)).g * 2 ^ 32)) ∧
  (∀ (s : State) (x : Slot), s.dev.executes (.accclr x) x uMac = true →
    Does (.accclr x) s fun e =>
      ∀ q : Fin 32, acc (e.xcell x) q =
        if (q.val + 32 - funcFld x 15 11) % 32 ≤ funcFld x 10 6 then {} else acc ((s.dev.atIssue x uMac).xcell x) q) ∧
  (∀ (s : State) (x : Slot), s.dev.executes (.send x) x uSend = true →
    let r := (s.dev.atIssue x uSend).source x (s.dev.issueAt x) x.sa.toNat
    Does (.send x) s fun e =>
      e.flume.flights = r.1.flume.flights ++ (if bit (func x) 0 then
        [⟨x.row.val, x.col.val, signedOf 8 (bits (func x) 19 12), signedOf 8 (bits (func x) 11 4), bits (func x) 3 1, r.2, 4,
          r.1.flume.ecc⟩] else []) ∧ e.laneAt x (s.dev.issueAt x + 1))

/-- The Sail unit (R126, R163). -/
def Piece.SailSlots : Prop :=
  (∀ (s : State) (x : Slot), s.dev.executes (.sailcfg x) x uSail = true →
    Does (.sailcfg x) s fun e =>
      (e.xcell x).sailLg = 5 + funcFld x 19 18 ∧ (e.xcell x).sailFmt = funcFld x 17 16 ∧
      (e.xcell x).lfsr = funcFld x 15 0 ∧ (e.xcell x).sailIn = [] ∧
      (e.xcell x).sailOut = ((s.dev.atIssue x uSail).xcell x).sailOut ∧
      (e.xcell x).sailOutFmt = ((s.dev.atIssue x uSail).xcell x).sailOutFmt) ∧
  (∀ (s : State) (x : Slot), s.dev.executes (.sailin x) x uSail = true →
    let r := (s.dev.atIssue x uSail).source x (s.dev.issueAt x) x.sa.toNat
    let c := r.1.xcell x
    Does (.sailin x) s fun e =>
      (c.sailIn.length + 64 / sailWidth c.sailFmt < 2 ^ c.sailLg →
        (e.xcell x).sailIn.length = c.sailIn.length + 64 / sailWidth c.sailFmt ∧ (e.xcell x).sailNext = c.sailNext) ∧
      (2 ^ c.sailLg ≤ c.sailIn.length + 64 / sailWidth c.sailFmt →
        (e.xcell x).sailIn = [] ∧ (e.xcell x).sailAt = s.dev.issueAt x + c.sailLg + 1) ∧
      (e.xcell x).lfsr = lfsrAfter (64 / sailWidth c.sailFmt) c.lfsr) ∧
  (∀ (s : State) (x : Slot), s.dev.executes (.sailout x) x uSail = true →
    let c := sailPromote (s.dev.issueAt x) ((s.dev.atIssue x uSail).xcell x)
    Does (.sailout x) s fun e =>
      e.hasResult x (s.dev.issueAt x) 1 .sail (packLanes (sailWidth c.sailOutFmt) (c.sailOut.take (64 / sailWidth c.sailOutFmt)) % 2 ^ 64) ∧
      (e.xcell x).sailOut = c.sailOut.drop (64 / sailWidth c.sailOutFmt))

/-- Memory, accumulator and Sail slots. Choices of the model in it: BF16 and FP32 results are rounded once (log entry 6); a
command whose conditions do not hold leaves the machine as it was (log entry 7). -/
def Obligations.MemoryMacAndSailSlots : Prop := Piece.MemoryAndMacSlots ∧ Piece.SailSlots

/-- Control slots (R99, R101, R121, R122): they take their cycles and change only their lane. Choices of the model in it: a
command whose conditions do not hold leaves the machine as it was (log entry 7). -/
def Obligations.ControlSlots : Prop :=
  (∀ (s : State) (x : Slot), s.dev.canIssue (.nop x) x = true →
    Does (.nop x) s fun e => e.laneAt x (s.dev.issueAt x + 1) ∧ e.flume.flights = (s.dev.slotBegin x).flume.flights) ∧
  (∀ (s : State) (x : Slot), s.dev.canIssue (.idle x) x = true →
    Does (.idle x) s fun e => e.laneAt x (s.dev.issueAt x + func x + 1)) ∧
  (∀ (s : State) (x : Slot), s.dev.canIssue (.loop x) x = true → x.handler = false → 0 < funcFld x 7 0 →
    Does (.loop x) s fun e =>
      (e.xcell x).loops = ⟨((s.dev.slotBegin x).xcell x).slot + 1, funcFld x 7 0, funcFld x 19 8⟩ ::
        ((s.dev.slotBegin x).xcell x).loops) ∧
  (∀ (s : State) (x : Slot), s.dev.canIssue (.loop x) x = true → x.handler = true →
    Does (.loop x) s fun e => e.laneAt x (s.dev.issueAt x + 1)) ∧
  (∀ (s : State) (x : Slot), s.dev.canIssue (.halt x) x = true →
    Does (.halt x) s fun e => (e.xcell x).halted = true ∧ (e.xcell x).hand = false) ∧
  (∀ (s : State) (x : Slot), s.dev.canIssue (.endSlot x) x = true →
    Does (.endSlot x) s fun e =>
      (x.handler = true → (e.xcell x).hand = false) ∧ (x.handler = false → (e.xcell x).hand = ((s.dev.slotBegin x).xcell x).hand) ∧
      e.laneAt x (s.dev.issueAt x + 1)) ∧
  (∀ (s : State) (r c : Fin 96) (e e' : Nat × Nat), nextDispatch (s.dev.cell r c).queue = some e →
    let t := dispatchAt (s.dev.cell r c) e
    let b := s.dev.arrayTo t
    s.dev.executing t = true → b.standsAt t = true → nextDispatch (b.cell r c).queue = some e' →
    (b.cell r c).halted = false → (b.cell r c).hand = false → dispatchAt (b.cell r c) e' ≤ t →
    Does (.handlerDispatch r c) s fun d =>
      (d.cell r c).hand = true ∧ (d.cell r c).handAt = t ∧ (d.cell r c).handSlot = (b.cell r c).binds.get 0 e'.2 % 512 ∧
      (d.cell r c).queue = (b.cell r c).queue.erase e' ∧ d = { b with flume := d.flume }) ∧
  (∀ (s : State) (r c : Fin 96), nextDispatch (s.dev.cell r c).queue = none →
    Does (.handlerDispatch r c) s fun d => d = s.dev)

/-- Staging copies, headgate words and the array's stops (R104, R108, R113, R114). -/
def Piece.StagingAndStops : Prop :=
  (∀ (s : State) (f : Staged), s.dev.flume.staged.find? (fun s => s.mode == .waitCopy) = some f →
    s.dev.flume.head ≠ [] → s.dev.banksUsed < 2 →
    Does .stagingCopyStart s fun e =>
      e.flume.staged = s.dev.flume.staged.map (fun t => if t = f then { t with mode := .copying } else t) ∧
      keepsMem s.dev e) ∧
  (∀ (s : State) (f : Staged), s.dev.flume.staged.find? (fun s => s.mode == .copying) = some f →
    Does .stagingCopyDone s fun e =>
      e.flume = { s.dev.flume with staged := s.dev.flume.staged.map (fun t => if t = f then
        { s.dev.stageCopy f with fr := { (s.dev.stageCopy f).fr with fullAt := s.dev.tb.tbc }, mode := .ready } else t) } ∧
      e.tb = s.dev.tb ∧ keepsMemBut 0 0 s.dev e) ∧
  (∀ (d : Dev) (f : Staged) (c : Fin 96) (k : Nat), c.val ∈ d.headCols → k < (d.flume.staging.get (0, 0) c).2 →
    let a := f.fr.addr + (d.flume.staging.get (0, 0) c).1 + k
    (d.stageCopy f).bytes.get 0 ((d.flume.staging.get (0, 0) c).1 + k) =
      if d.lineBad a || d.readBad (a / 64 * 64) 64 then 0 else (d.byte a).toNat) ∧
  (∀ (s : State) (c : Fin 96) (t : Nat) (r : AdmitRec) (h : HeadEntry), s.dev.nextHead c = some (t, r, h) →
    let b := s.dev.arrayTo t
    s.dev.executing t = true → b.standsAt t = true →
    Does (.headgateWord c) s fun e =>
      e.flume.headDone.get 0 c = t + 1 ∧ e = { b with flume := e.flume } ∧
      e.flume.flights = b.flume.flights ++ (if bit h.hdr 0 then
        [⟨-1, c.val, signedOf 8 (bits h.hdr 19 12), signedOf 8 (bits h.hdr 11 4), bits h.hdr 3 1,
          (r.fr.words.get [] c).getD h.word 0, 4, t⟩] else [])) ∧
  (∀ (s : State) (c : Fin 96), s.dev.nextHead c = none → Does (.headgateWord c) s fun e => e = s.dev) ∧
  (∀ s : State, s.dev.flmRun = true → s.dev.flume.failing = true → s.dev.flume.stopAt = none →
    let b := s.dev.arrayTo s.dev.boundaryAt
    Does .arrayStop s fun e =>
      e.flmRun = false ∧ e.flag Reg.flmStat 3 = true ∧ e.flume.flights = [] ∧ e.flume.failing = false ∧ e.inFlight = [] ∧
      (0 < b.fld Reg.jnLedgerCfg 15 0 → b.flume.staged.filter (fun t => t.fr.passes != 0) = [] →
        b.undone.length = 1 → ∀ fr ∈ b.undone, bit (e.ledgerEntry fr.stream fr.frame).stages stNotDone = true)) ∧
  (∀ (s : State) (t : Nat), s.dev.flmRun = true → s.dev.flume.failing = false → s.dev.flume.stopAt = some t →
    t ≤ s.dev.boundaryAt →
    Does .arrayStop s fun e =>
      e.flmRun = false ∧ e.flag Reg.flmStat 3 = true ∧ e.flume.stopAt = none ∧ e.inFlight = [])

/-- A frame boundary (R19, R20, R103, R105): a staged frame is admitted where there is room, a bubble where there is none and
frames are in flight, and otherwise, or while a staged frame is still in copy, the array waits. -/
def Piece.FrameBoundaries : Prop :=
  (∀ (s : State) (f : Staged), s.dev.flmRun = true → s.dev.flume.clkBusy = false →
    let b := s.dev.arrayTo s.dev.boundaryAt
    b.standsAt s.dev.boundaryAt = true → b.flume.failing = false → b.flume.clkPend = none → b.held unitFlume = false → b.flmFaulted = false →
    b.pickStaged = some f → b.roomOut = true →
    Does .frameBoundary s fun e =>
      e.rn Reg.flmAdmits = (b.rn Reg.flmAdmits + 1) % 2 ^ 32 ∧
      e.rn Reg.flmReruns = (b.rn Reg.flmReruns + b2n (f.fr.passes != 0)) % 2 ^ 32 ∧
      e.flume.staged = b.flume.staged.filter (fun t => t != f) ∧ e.flume.lastAdmit = some e.flume.ecc ∧
      (0 < b.flume.d → ∃ r rs, e.flume.recs = r :: rs ∧ r.kind = .frame ∧ r.fr.stream = f.fr.stream ∧
        r.fr.frame = f.fr.frame ∧ r.fr.passes = f.fr.passes + 1 ∧
        (f.fr.passes = 0 → ∀ g : Fin 16, rungOf r.fr g = if b.lgDeclared g then b.lgBase g else 0)) ∧ keepsMemBut 0 0 s.dev e) ∧
  (∀ s : State, s.dev.flmRun = true → s.dev.flume.clkBusy = false →
    let b := s.dev.arrayTo s.dev.boundaryAt
    b.standsAt s.dev.boundaryAt = true → b.flume.failing = false → b.flume.clkPend = none → b.held unitFlume = false → b.pickStaged = none →
    b.inFlight.any (fun r => r.kind == .frame) = true → b.inCopy = false →
    Does .frameBoundary s fun e =>
      e.rn Reg.flmBubbles = (b.rn Reg.flmBubbles + 1) % 2 ^ 32 ∧ e.flume.lastAdmit = some e.flume.ecc ∧
      (0 < b.flume.d → ∃ r rs, e.flume.recs = r :: rs ∧ r.kind = .bubble)) ∧
  (∀ s : State, s.dev.flmRun = true → s.dev.flume.clkBusy = false →
    let b := s.dev.arrayTo s.dev.boundaryAt
    b.standsAt s.dev.boundaryAt = true → b.flume.failing = false → b.flume.clkPend = none → b.held unitFlume = false → b.pickStaged = none →
    b.inFlight = [] →
    Does .frameBoundary s fun e => e.flume.waitFrom ≠ none ∧ e.inFlight = []) ∧
  (∀ s : State, s.dev.flmRun = true → s.dev.flume.clkBusy = false →
    let b := s.dev.arrayTo s.dev.boundaryAt
    b.standsAt s.dev.boundaryAt = true → b.flume.failing = false → b.flume.clkPend = none → b.held unitFlume = false →
    b.pickStaged = none → b.inFlight.any (fun r => r.kind == .frame) = true → b.inCopy = true →
    Does .frameBoundary s fun e =>
      e.flume.waitFrom ≠ none ∧ e.flume.lastAdmit = b.flume.lastAdmit ∧ e.rn Reg.flmBubbles = b.rn Reg.flmBubbles) ∧
  (∀ s : State, s.dev.flmRun = true → s.dev.flume.clkBusy = false →
    (s.dev.arrayTo s.dev.boundaryAt).standsAt s.dev.boundaryAt = false →
    Does .frameBoundary s fun e => e = s.dev.arrayTo s.dev.boundaryAt) ∧
  (∀ s : State, (s.dev.flmRun = false ∨ s.dev.flume.clkBusy = true) → Does .frameBoundary s fun e => e = s.dev) ∧
  (∀ (s : State) (f : Staged), s.dev.flmRun = true → s.dev.flume.waitFrom ≠ none → s.dev.flume.clkBusy = false →
    s.dev.flume.failing = false → s.dev.flume.clkPend = none → s.dev.held unitFlume = false → s.dev.flmFaulted = false →
    s.dev.pickStaged = some f → s.dev.roomOut = true →
    Does .admissionResume s fun e =>
      e.flume.waitFrom = none ∧ e.rn Reg.flmAdmits = (s.dev.rn Reg.flmAdmits + 1) % 2 ^ 32) ∧
  (∀ (s : State) (wait mhz : Nat), s.dev.flume.clkPend = some mhz → s.dev.flume.clkBusy = true →
    Does (.flumeClockChangeDone wait) s fun e =>
      e.flume.clkPend = none ∧ e.flume.clkBusy = false ∧ e.rn Reg.pwrFlumeMhz = mhz % 2 ^ 32 ∧
      e.tb.tbc = s.dev.tb.tbc + min wait 3200)

/-- The array: staging, stops, frame boundaries and admission. Choices of the model in it: a command whose conditions do not hold
leaves the machine as it was (log entry 7); a free slot is taken in ring order (log entry 8). -/
def Obligations.StagingStopsAndFrameBoundaries : Prop := Piece.StagingAndStops ∧ Piece.FrameBoundaries

/-- Registers that a schedule fault can change: the fault record and counts of the array (R112, R115), the log's append count and
the error vector (R447). -/
def slotRegs : List Nat :=
  [Reg.flmStat, Reg.flmFaultCells, Reg.flmFaultCell, Reg.flmFaultCause, Reg.flmFaultEccLo, Reg.flmFaultEccHi, Reg.errAppends,
    Reg.intVecCount 0, Reg.msixPba 0, Reg.hifBmeHeld] ++ (List.range 7).map Reg.flmFaultCount

/-- The frame of every schedule slot: one that its lane does not issue next changes nothing (log entry 7); another changes the
array, and through a schedule fault the fault record, the error log, the ledger and what they send to the host; no byte of
device memory and no other unit. -/
def Obligations.SlotsKeepToTheArray : Prop :=
  ∀ (s : State) (x : Slot), ∀ c ∈ [Instr.nop x, .idle x, .loop x, .halt x, .endSlot x, .mov x, .movi x, .add x, .sub x,
      .logicAnd x, .logicOr x, .logicXor x, .logicAndnot x, .shiftLsl x, .shiftLsr x, .shiftAsr x, .shiftRor x, .vadd x,
      .vmul x, .vmax x, .vmin x, .actRelu x, .actClamp x, .actClampPos x, .pwlLoad x, .pwlEval x, .mag x, .log2 x, .scale x,
      .cvt x, .ld x, .st x, .mac x, .macq x, .gq x, .accrdFp32 x, .accrdBf16 x, .accrdInt32 x, .accclr x, .sailcfg x,
      .sailin x, .sailout x, .send x],
    Does c s fun e =>
      e = { s.dev with
        regs := e.regs, mem := e.mem, badMem := e.badMem, hostWait := e.hostWait, free := e.free, flume := e.flume
        errs := e.errs, ledger := e.ledger } ∧
      keepsRegs slotRegs s.dev e ∧ keepsMemBut 0 0 s.dev e ∧ (s.dev.canIssue c x = false → e = s.dev)

/-- Groups that misfit for a frame, and those of them that can climb (R166, R167). -/
def misfits (d : Dev) (fr : Frame) : List Nat :=
  ((List.range 16).filter d.lgDeclared).filter (fun g => d.misfitSat fr g || d.misfitDrift fr g)
def climbers (d : Dev) (fr : Frame) : List Nat := (misfits d fr).filter (fun g => decide (rungOf fr g < d.lgTop g))

/-- The device at a verdict: the frame leaves the passes, and a first pass updates the gauges (R173). -/
def atVerdict (d : Dev) (p : Frame × Bool) : Dev :=
  let d : Dev := { d with flume := { d.flume with passed := d.flume.passed.erase p } }
  if p.1.passes = 1 then (List.range 64).foldl (gaugeUpdate p.1) d else d

/-- Verdicts (R165, R167-R170): the tallies of an ended pass come, the array running to the pass's end first, and a frame with a
layer group that misfits and can climb runs again one rung up, at most three passes in all; any other frame is FINAL. -/
def Piece.Verdicts : Prop :=
  (∀ (s : State) (i : Nat), s.dev.flume.passed.findIdx? (fun p => !p.2) = some i →
    Does .passTally s fun e =>
      e = { s.dev with flume := { s.dev.flume with passed := s.dev.flume.passed.modify i (fun p => (p.1, true)) } }) ∧
  (∀ (s : State) (i : Nat), s.dev.flume.passed.all (·.2) = true → s.dev.flmRun = true → s.dev.flume.waitFrom = none →
    let ends := (s.dev.flume.recs.filter (fun r => r.kind == .frame && !r.ovr && !r.fr.doomed)).map (fun r => r.e0 + s.dev.flmL)
    let t := ends.foldl min (ends.getD 0 0)
    let b := s.dev.arrayTo t
    ends ≠ [] → t ≤ s.dev.boundaryAt → b.flume.passed.findIdx? (fun p => !p.2) = some i →
    Does .passTally s fun e =>
      e = { b with flume := { b.flume with passed := b.flume.passed.modify i (fun p => (p.1, true)) } }) ∧
  (∀ (s : State) (p : Frame × Bool), s.dev.flume.passed.find? (·.2) = some p → p.1.passes < 3 →
    let b := atVerdict s.dev p
    climbers b p.1 ≠ [] → b.rerunQueue.length < 16 → b.flmFaulted = false → b.flume.failing = false →
    b.flag Reg.flmStat 3 = false →
    Does .verdict s fun e =>
      ∃ f, e.flume.staged = b.flume.staged ++ [{ fr := f, mode := .waitCopy }] ∧ f.stream = p.1.stream ∧ f.frame = p.1.frame ∧
        f.passes = p.1.passes ∧ f.epoch = p.1.epoch ∧
        (∀ g : Fin 16, rungOf f g = if g.val ∈ climbers b p.1 then (rungOf p.1 g + 1) % 4 else rungOf p.1 g) ∧
        e.jn.eligible = s.dev.jn.eligible) ∧
  (∀ (s : State) (p : Frame × Bool), s.dev.flume.passed.find? (·.2) = some p →
    let b := atVerdict s.dev p
    (climbers b p.1 = [] ∨ 3 ≤ p.1.passes ∨ 16 ≤ b.rerunQueue.length ∨ b.flmFaulted = true ∨ b.flume.failing = true ∨
      b.flag Reg.flmStat 3 = true) →
    Does .verdict s fun e =>
      e.flume.staged = b.flume.staged ∧
      (∃ f, e.jn.eligible = enqueue s.dev.jn.eligible f ∧ f.fr.stream = p.1.stream ∧ f.fr.frame = p.1.frame ∧
        f.fr.uncal = maskOf (misfits b p.1) ∧ f.since = s.dev.tb.tbc) ∧
      p.1.slot ∉ (e.strm p.1.stream).busy)

/-- Epoch swaps and shadow writes (R176-R179). A swap takes effect at a boundary once every earlier shadow write has completed;
one requested in the cycle of a boundary, or while the array waits at one, which lasts as long as the wait, waits for the
following boundary (log entry 117). -/
def Piece.EpochsAndShadowWrites : Prop :=
  (∀ s : State, s.dev.fenced Reg.flmEpochCtl = false → s.dev.flume.swapPend = false →
    Does .epochSwapWrite s fun e =>
      e = { s.dev with
        flume := { s.dev.flume with
          swapPend := true
          swapFrom := s.dev.flume.ecc +
            b2n (s.dev.flmRun && (s.dev.flume.waitFrom.isSome || s.dev.flume.ecc == s.dev.boundaryAt)) }
        pwr := s.dev.activity.pwr }) ∧
  (∀ s : State, s.dev.fenced Reg.flmEpochCtl = false → s.dev.flume.swapPend = false → s.dev.flume.waitFrom ≠ none →
    s.dev.flmRun = true →
    Does .epochSwapWrite s fun e =>
      e.flume.swapPend = true ∧ e.flume.swapFrom = s.dev.flume.ecc + 1 ∧ e.applySwap = e ∧
      e.fld Reg.flmEpoch 7 0 = s.dev.fld Reg.flmEpoch 7 0) ∧
  (∀ (d : Dev), d.flume.swapPend = true → d.flume.swapFrom ≤ d.flume.ecc → d.shadowOwed = false →
    d.applySwap.fld Reg.flmEpoch 7 0 = (d.fld Reg.flmEpoch 7 0 + 1) % 256 ∧ d.applySwap.flume.swapPend = false ∧
    d.applySwap.rn Reg.flmSwaps = (d.rn Reg.flmSwaps + 1) % 2 ^ 32) ∧
  (∀ (d : Dev), (d.flume.swapPend = false ∨ d.flume.ecc < d.flume.swapFrom ∨ d.shadowOwed = true) → d.applySwap = d) ∧
  (∀ s : State, s.dev.fenced Reg.flmEpochCtl = false → s.dev.flume.swapPend = true →
    Does .epochSwapWrite s fun e =>
      e.rn Reg.flmSwapsIgnored = (s.dev.rn Reg.flmSwapsIgnored + 1) % 2 ^ 32 ∧
      onlyRegsAct [Reg.flmSwapsIgnored] s.dev e) ∧
  (∀ (s : State) (w : ShadowWrite) (ws : List ShadowWrite), s.dev.flume.shadow = w :: ws → s.dev.shadowBusy = false →
    Does .shadowWriteRelease s fun e =>
      let c := s.dev.cell w.row w.col
      let a := (if (s.dev.fld Reg.flmEpoch 7 0 + 1) % 2 = 0 then c.page0 else c.page1) + w.word
      e.flume.shadow = ws ∧ (∀ i, i < w.words.length → (e.cell w.row w.col).sram.get 0 (a + i) = w.words.getD i 0) ∧
      e.flag Reg.flmStat 1 = s.dev.flag Reg.flmStat 1) ∧
  (∀ s : State, s.dev.flume.shadow ≠ [] → s.dev.shadowBusy = true → Does .shadowWriteRelease s fun e => e = s.dev)

/-- Rung verdicts, epochs and shadow writes. Choices of the model in it: a command whose conditions do not hold leaves the
machine as it was (log entry 7). -/
def Obligations.VerdictsEpochsAndShadowWrites : Prop := Piece.Verdicts ∧ Piece.EpochsAndShadowWrites

/-- An NC takes its next event (R197, R204, R208): a row on the die is applied word by word into the page of its tick, an axon
without a valid header is counted, a Cistern row that is not cached is fetched while the event waits. -/
def Piece.EventsOfANeuronCore : Prop :=
  (∀ (s : State) (n : Fin 256) (p : Nat) (ps : List Nat), (s.dev.nc n).events = p :: ps → (s.dev.nc n).failed = false →
    s.dev.ncTakes n = true → pkAxon p % 65536 ∉ (s.dev.nc n).badHeaders → pkAxon p % 65536 < s.dev.ncH n →
    let h := headerOf (s.dev.nc n) (pkAxon p % 65536)
    let k := tickDiff (fullTick (s.dev.nc n).openTick (pkTick p)) (s.dev.nc n).openTick
    let tick := if k ≤ 0 then (s.dev.nc n).openTick else ((s.dev.nc n).openTick + 1) % 2 ^ 32
    hdValid h = true → hdCist h = false → hdPlastic h = false →
    Does (.eventReceive n) s fun e =>
      (e.nc n).events = ps ∧
      e.rn64 (Reg.ncSopsLo n) (Reg.ncSopsHi n) = (s.dev.rn64 (Reg.ncSopsLo n) (Reg.ncSopsHi n) + hdLen h) % 2 ^ 64 ∧
      e.rn (Reg.ncLate n) = (s.dev.rn (Reg.ncLate n) + b2n (decide (k < 0))) % 2 ^ 32 ∧
      e.rn (Reg.ncEarly n) = (s.dev.rn (Reg.ncEarly n) + b2n (decide (1 < k))) % 2 ^ 32 ∧
      (∀ y ∈ (rowSyns (s.dev.nc n) (pkAxon p % 65536)).1, (e.nc n).dirty.get false (accKey tick y.tgt) = true) ∧
      (∀ y, (rowSyns (s.dev.nc n) (pkAxon p % 65536)).1 = [y] →
        (e.nc n).acc.get 0 (accKey tick y.tgt) = clampI (-0x800000) 0x7FFFFF ((s.dev.nc n).acc.get 0 (accKey tick y.tgt) +
          truncDiv (y.w * (pkMult p * (if hdGraded h then pkPay p else 256) *
            2 ^ s.dev.psWexp n (s.dev.neu n y.tgt).pset : Nat)) 256))) ∧
  (∀ (s : State) (n : Fin 256) (p : Nat) (ps : List Nat), (s.dev.nc n).events = p :: ps → (s.dev.nc n).failed = false →
    s.dev.ncTakes n = true → pkAxon p % 65536 ∉ (s.dev.nc n).badHeaders →
    (s.dev.ncH n ≤ pkAxon p % 65536 ∨ hdValid (headerOf (s.dev.nc n) (pkAxon p % 65536)) = false) →
    Does (.eventReceive n) s fun e =>
      (e.nc n).events = ps ∧ e.rn (Reg.ncBadAxon n) = (s.dev.rn (Reg.ncBadAxon n) + 1) % 2 ^ 32 ∧
      (e.nc n).acc = (s.dev.nc n).acc) ∧
  (∀ (s : State) (n : Fin 256) (p : Nat) (ps : List Nat), (s.dev.nc n).events = p :: ps → (s.dev.nc n).failed = false →
    s.dev.ncTakes n = true → pkAxon p % 65536 ∉ (s.dev.nc n).badHeaders → pkAxon p % 65536 < s.dev.ncH n →
    let h := headerOf (s.dev.nc n) (pkAxon p % 65536)
    hdValid h = true → hdCist h = true → hdPlastic h = false → rowHere (s.dev.nc n) (pkAxon p % 65536) = false →
    Does (.eventReceive n) s fun e =>
      (e.nc n).events = ps ∧ e.rn (Reg.ncCistMisses n) = (s.dev.rn (Reg.ncCistMisses n) + 1) % 2 ^ 32 ∧
      (∃ q, (e.nc n).missq = (s.dev.nc n).missq ++ [q] ∧ q.axon = pkAxon p % 65536 ∧ q.mult = pkMult p) ∧
      fetching (e.nc n) (pkAxon p % 65536) = true ∧
      bit (e.viewNc n (Reg.ncStat n)) 4 = !(e.nc n).fetches.isEmpty) ∧
  (∀ (s : State) (n : Fin 256), ((s.dev.nc n).failed = true ∨ s.dev.ncTakes n = false) →
    Does (.eventReceive n) s fun e => e = s.dev)

/-- Learning (R205, R254, R255, R261-R264): a plastic event queues its prefix write; the bank ALU applies the oldest update of a
bank, and a word that is free, a marker or no longer free is counted and left. Updates formed together reach a bank in the
order of its words, those of one word by ascending target neuron (R207). A failed NC applies none (R190). -/
def Piece.PlasticUpdates : Prop :=
  (∀ (s : State) (n : Fin 256) (ev : NcEvent), (s.dev.nc n).failed = false → nextPlastic (s.dev.nc n) = some ev →
    Does (.plasticEventApply n) s fun e =>
      (e.nc n).peq = (s.dev.nc n).peq.erase ev ∧ e.viewNc n (Reg.lrnPeq n) = ((s.dev.nc n).peq.erase ev).length ∧
      (bit (s.dev.nc n).enNow (hdRule (headerOf (s.dev.nc n) ev.axon)) = true →
        queuedFor (e.nc n) ev.axon (fun u => match u.kind with | .pre _ => true | _ => false) = true) ∧
      (bit (s.dev.nc n).enNow (hdRule (headerOf (s.dev.nc n) ev.axon)) = false →
        (e.nc n).banks = (s.dev.nc n).banks ∧ (e.nc n).heldUpd = (s.dev.nc n).heldUpd)) ∧
  (∀ (s : State) (n : Fin 256) (b : Fin 4) (u : Upd) (us : List Upd), (s.dev.nc n).banks.get [] b = u :: us →
    (s.dev.nc n).failed = false → (s.dev.nc n).heldUpd = [] → hdCist (headerOf (s.dev.nc n) u.header) = false →
    Does (.bankUpdate n b) s fun e =>
      let x := s.dev.nc n
      let a := hdAddr (headerOf x u.header) + u.word
      let v := x.syn.get 0 a
      (e.nc n).banks.get [] b = us ∧
      match u.kind with
      | .pre _ => True
      | .sprout w _ =>
        if v = 0x80FF then
          (e.nc n).syn = x.syn.set 0 a w ∧ e.rn (Reg.lrnSprouts n) = (s.dev.rn (Reg.lrnSprouts n) + 1) % 2 ^ 32
        else (e.nc n).syn = x.syn ∧ e.rn (Reg.lrnSproutLost n) = (s.dev.rn (Reg.lrnSproutLost n) + 1) % 2 ^ 32
      | .delta _ k =>
        if v = 0x80FF then
          (e.nc n).syn = x.syn ∧ e.rn (Reg.lrnFreeUpd n) = (s.dev.rn (Reg.lrnFreeUpd n) + 1) % 2 ^ 32
        else if v / 256 = 0x80 then
          (e.nc n).syn = x.syn ∧ e.rn (Reg.ncMarkerUpd n) = (s.dev.rn (Reg.ncMarkerUpd n) + 1) % 2 ^ 32
        else k < 8 →
          e.rn (Reg.lrnUpdates n k) = (s.dev.rn (Reg.lrnUpdates n k) + 1) % 2 ^ 32 ∧
          (e.nc n).syn = x.syn.set 0 a ((e.nc n).syn.get 0 a)) ∧
  (∀ (s : State) (n : Fin 256) (b : Fin 4), (s.dev.nc n).failed = true →
    (Does (.bankUpdate n b) s fun e => e = s.dev) ∧ Does (.plasticEventApply n) s fun e => e = s.dev) ∧
  (∀ (base : Nat) (l : List Syn),
    (bankOrder base l).Perm l ∧
    (bankOrder base l).Pairwise (fun a b => (base + a.ix) / 4 < (base + b.ix) / 4 ∨
      (base + a.ix) / 4 = (base + b.ix) / 4 ∧ a.tgt ≤ b.tgt))

/-- Events and plastic updates of a neuron core. Choices of the model in it: a command whose conditions do not hold leaves the
machine as it was (log entry 7). -/
def Obligations.EventsAndPlasticUpdates : Prop := Piece.EventsOfANeuronCore ∧ Piece.PlasticUpdates

/-- Cistern fetches and hints (R190, R208, R210-R212, R443). A failed NC applies nothing; a fetch that receives an error response
is retried once. -/
def Piece.CisternRowsAndHints : Prop :=
  (∀ (s : State) (n : Fin 256) (cycles : Nat) (f : Fetch) (fs : List Fetch), (s.dev.nc n).fetches = f :: fs →
    (s.dev.nc n).failed = false → cycles < 2 ^ 32 →
    let h := headerOf (s.dev.nc n) f.header
    s.dev.readBad (s.dev.cistAddr h) (2 * hdLen h) = false → s.dev.placeOf (s.dev.cistAddr h) (2 * hdLen h) = .ddr →
    Does (.cisternFetchDone n cycles) s fun e =>
      (e.nc n).missq = (s.dev.nc n).missq.filter (fun q => q.axon != f.header) ∧
      e.rn (Reg.ncCistLatMax n) = max (s.dev.rn (Reg.ncCistLatMax n)) cycles ∧
      ((s.dev.nc n).fetchQ = [] → (s.dev.nc n).hintQ = [] →
        (e.nc n).fetches = fs ∧ (e.nc n).cached.any (fun c => c.header == f.header) = true)) ∧
  (∀ (s : State) (n : Fin 256) (cycles : Nat) (f : Fetch) (fs : List Fetch), (s.dev.nc n).fetches = f :: fs →
    (s.dev.nc n).failed = true →
    Does (.cisternFetchDone n cycles) s fun e =>
      e.nc n = { s.dev.nc n with fetches := fs } ∧ e.regs = s.dev.regs ∧ keepsMem s.dev e) ∧
  (∀ (s : State) (n : Fin 256) (cycles : Nat) (f : Fetch) (fs : List Fetch), (s.dev.nc n).fetches = f :: fs →
    (s.dev.nc n).failed = false → f.again = false →
    let h := headerOf (s.dev.nc n) f.header
    (s.dev.placeOf (s.dev.cistAddr h) (2 * hdLen h) ≠ .ddr ∨ s.dev.readBad (s.dev.cistAddr h) (2 * hdLen h) = true) →
    Does (.cisternFetchDone n cycles) s fun e =>
      e.nc n = { s.dev.nc n with fetches := { f with again := true } :: fs }) ∧
  (∀ (s : State) (n : Fin 256) (p : Nat) (ps : List Nat), (s.dev.nc n).hints = p :: ps →
    let hix := pkAxon p % 65536
    let h := headerOf (s.dev.nc n) hix
    let fits := s.dev.rowFits n (rowLines (hdLen h))
    Does (.hintReceive n) s fun e =>
      (e.nc n).hints = ps ∧ e.rn (Reg.ncHintsRx n) = (s.dev.rn (Reg.ncHintsRx n) + 1) % 2 ^ 32 ∧
      (e.nc n).events = (s.dev.nc n).events ∧ (e.nc n).acc = (s.dev.nc n).acc ∧ (fits = true → keepsMem s.dev e) ∧
      ((s.dev.nc n).failed = false → hix < s.dev.ncH n → hdValid h = true → hdCist h = true →
        rowHere (s.dev.nc n) hix = false → fetching (s.dev.nc n) hix = false →
        ((s.dev.nc n).hintQ = [] → (s.dev.nc n).fetches.length < 1 + Config.fetchSlots.toNat → fits = true →
          (e.nc n).fetches = (s.dev.nc n).fetches ++ [{ header := hix, hinted := true, used := (s.dev.nc n).cacheAge }] ∧
          e.rn (Reg.ncHintFetches n) = (s.dev.rn (Reg.ncHintFetches n) + 1) % 2 ^ 32) ∧
        ((s.dev.nc n).hintQ ≠ [] →
          (e.nc n).fetches = (s.dev.nc n).fetches ∧
          if 64 ≤ (s.dev.nc n).hintQ.length then
            (e.nc n).hintQ = (s.dev.nc n).hintQ ∧ e.rn (Reg.ncHintDrops n) = (s.dev.rn (Reg.ncHintDrops n) + 1) % 2 ^ 32
          else (e.nc n).hintQ = (s.dev.nc n).hintQ ++ [hix] ∧ e.rn (Reg.ncHintDrops n) = s.dev.rn (Reg.ncHintDrops n))))

/-- Snapshots of a neuron (R217). -/
def Piece.NeuronSnapshots : Prop :=
  (∀ (s : State) (n : Fin 256) (v : Word), s.dev.fenced (Reg.ncNsel n) = false →
    Does (.neuronSnapshotStart n v) s fun e =>
      e.viewNc n (Reg.ncNsnapStat n) = 1 ∧ e.rn (Reg.ncNsel n) = v.toNat % 16384 ∧
      (e.nc n).snap = some (v.toNat % 16384) ∧ keepsRegs [Reg.ncNsel n] s.dev e ∧ keepsMem s.dev e) ∧
  (∀ (s : State) (n : Fin 256) (i : Nat), (s.dev.nc n).snap = some i →
    Does (.neuronSnapshotDone n) s fun e =>
      (∀ k : Fin 4, e.rn (Reg.ncNsnap n k) = bits ((s.dev.nc n).state.get 0 i) (32 * k + 31) (32 * k)) ∧
      e.viewNc n (Reg.ncNsnapStat n) = 0 ∧ (e.nc n).state = (s.dev.nc n).state ∧ keepsMem s.dev e)

/-- Cistern rows, prefetch hints and neuron snapshots. Choices of the model in it: a command whose conditions do not hold leaves
the machine as it was (log entry 7). -/
def Obligations.CisternAndSnapshots : Prop := Piece.CisternRowsAndHints ∧ Piece.NeuronSnapshots

/-- The fire phase and the rest sweep (R192, R198, R199): every dirty neuron of the tick is updated, its page is cleared, and the
next tick opens in the NC. Choices of the model in it: a command whose conditions do not hold leaves the machine as it was
(log entry 7). -/
def Obligations.FirePhaseAndRestSweep : Prop :=
  (∀ (s : State) (n : Fin 256), s.dev.mayFire n = true → (s.dev.nc n).openTick < 2 ^ 32 →
    Does (.firePhase n) s fun e =>
      e.rn (Reg.ncTick n) = (s.dev.nc n).openTick ∧ (e.nc n).openTick = ((s.dev.nc n).openTick + 1) % 2 ^ 32 ∧
      (∀ i ∈ dirtyOf (s.dev.nc n) (s.dev.nc n).openTick,
        (e.nc n).acc.get 0 (accKey (s.dev.nc n).openTick i) = 0 ∧
        (e.nc n).dirty.get false (accKey (s.dev.nc n).openTick i) = false)) ∧
  (∀ (s : State) (n : Fin 256) (i : Nat), s.dev.mayFire n = true → (s.dev.nc n).openTick < 2 ^ 32 →
    dirtyOf (s.dev.nc n) (s.dev.nc n).openTick = [i] →
    let t := (s.dev.nc n).openTick
    let z := s.dev.aged n t (s.dev.neu n i)
    let v := clampI (s.dev.psVmin n z.pset) 0x7FFFFF (z.v + (s.dev.nc n).acc.get 0 (accKey t i))
    s.dev.refractory n t z = false → (s.dev.nc n).badAxons = [] →
    Does (.firePhase n) s fun e =>
      (v < (s.dev.psTheta n z.pset + z.ath : Nat) →
        (e.neu n i).v = v ∧ (e.neu n i).tspike = z.tspike ∧ e.rn (Reg.ncSpikes n) = s.dev.rn (Reg.ncSpikes n)) ∧
      ((s.dev.psTheta n z.pset + z.ath : Nat) ≤ v →
        (e.neu n i).tspike = t ∧ (e.neu n i).head = false ∧
        (0 < s.dev.psTheta n z.pset + z.ath → 1 ≤ (e.neu n i).mlast) ∧
        (s.dev.psRmode n z.pset = false → (e.neu n i).v = 0) ∧
        e.rn (Reg.ncSpikes n) = (s.dev.rn (Reg.ncSpikes n) + 1) % 2 ^ 32)) ∧
  (∀ (s : State) (n : Fin 256) (i : Fin 16384), (s.dev.nc n).failed = false →
    (s.dev.nc n).dirty.get false (accKey 0 i) = false → (s.dev.nc n).dirty.get false (accKey 1 i) = false →
    Does (.restSweep n i) s fun e =>
      let t := s.dev.rn (Reg.ncTick n)
      let z := s.dev.neu n i
      (255 < (t + 2 ^ 32 - z.tlast) % 2 ^ 32 → (e.neu n i).tlast = t ∧ (e.neu n i).ath = 0) ∧
      ((t + 2 ^ 32 - z.tlast) % 2 ^ 32 ≤ 255 → (e.neu n i).v = z.v ∧ (e.neu n i).tlast = z.tlast) ∧
      (0xFFFFFF < (t + 2 ^ 32 - z.tspike) % 2 ^ 32 → (e.neu n i).mlast = 0 ∧ (e.neu n i).head = false) ∧
      e = { s.dev with ncs := e.ncs } ∧ ∀ m : Fin 256, m ≠ n → e.nc m = s.dev.nc m)

/-- A write of one register by one master (R10, R352, R353): the bits that the register's types and locks leave writable take the
value written, in a block whose registers have no further behaviour; a misaligned offset, a fenced block and an offset with
no register are refused. The service program has the select of the window counters mapped, and faults elsewhere (R304, log
entry 126); a core that does not run writes nothing (R303). -/
def Piece.RegisterWrites : Prop :=
  (∀ (s : State) (m : Master) (off : BitVec 25) (v : Word), s.dev.reaches m = true → off.toNat % 4 = 0 →
    0x40000 ≤ off.toNat → off.toNat < 0x50000 → s.dev.fenced off.toNat = false → s.dev.assigned off.toNat = true →
    Does (.registerWrite off [{ m := m, value := v }]) s fun e =>
      (∀ b : Fin 32, (e.reg off.toNat).getLsbD b =
        if bit (s.dev.setMask off.toNat) b then v.getLsbD b else (s.dev.reg off.toNat).getLsbD b) ∧
      onlyRegsAct [off.toNat] s.dev e) ∧
  (∀ (s : State) (m : Master) (off : BitVec 25) (v : Word), s.dev.reaches m = true → off.toNat % 4 ≠ 0 →
    Does (.registerWrite off [{ m := m, value := v }]) s fun e =>
      e.rn Reg.glbBadacc = (s.dev.rn Reg.glbBadacc + 1) % 2 ^ 32 ∧ onlyRegsAct [Reg.glbBadacc] s.dev e) ∧
  (∀ (s : State) (m : Master) (off : BitVec 25) (v : Word), s.dev.reaches m = true → off.toNat % 4 = 0 →
    off.toNat < 0x1000000 → off.toNat ≠ Reg.glbReset → s.dev.fenced (canonReg off.toNat) = true →
    Does (.registerWrite off [{ m := m, value := v }]) s fun e =>
      e.rn Reg.glbFencedAcc = (s.dev.rn Reg.glbFencedAcc + 1) % 2 ^ 32 ∧ onlyRegsAct [Reg.glbFencedAcc] s.dev e) ∧
  (∀ (s : State) (m : Master) (off : BitVec 25) (v : Word), s.dev.reaches m = true → off.toNat % 4 = 0 →
    off.toNat < 0x1000000 → s.dev.fenced (canonReg off.toNat) = false → s.dev.assigned off.toNat = false →
    Does (.registerWrite off [{ m := m, value := v }]) s fun e => e = s.dev.activity) ∧
  (∀ (s : State) (k : Fin 16) (v : Word), s.dev.serves k = true → s.dev.fenced Reg.jnWsel = false →
    Does (.registerWrite (BitVec.ofNat 25 Reg.jnWsel) [{ m := .service k, value := v }]) s fun e =>
      (∀ b : Fin 32, (e.reg Reg.jnWsel).getLsbD b =
        if bit (s.dev.setMask Reg.jnWsel) b then v.getLsbD b else (s.dev.reg Reg.jnWsel).getLsbD b) ∧
      onlyRegsAct [Reg.jnWsel] s.dev e) ∧
  (∀ (s : State) (k : Fin 16) (off : BitVec 25) (v : Word), s.dev.serves k = true → off.toNat < 0x1000000 →
    canonReg off.toNat ≠ Reg.jnWsel →
    Does (.registerWrite off [{ m := .service k, value := v }]) s fun e =>
      e.serviceOn = false ∧ (e.hart k).mode = .m ∧ (e.hart k).csr.get 0 0x342 = 15 ∧
      (e.hart k).pc = (s.dev.hart k).csr.get 0 0x305 / 4 * 4 ∧
      keepsRegs [Reg.vciStat, Reg.vciEvtSeq, Reg.vciEvtLost] s.dev e ∧ keepsMem s.dev e) ∧
  (∀ (s : State) (k : Fin 16) (off : BitVec 25) (v : Word), s.dev.serves k = false →
    Does (.registerWrite off [{ m := .service k, value := v }]) s fun e => e = s.dev) ∧
  (∀ (s : State) (k : Fin 16) (off : BitVec 25) (v : Word), s.dev.coreRuns k = false →
    Does (.registerWrite off [{ m := .core k, value := v }]) s fun e => e = s.dev)

/-- Two masters write one register in a cycle (R363): the value applied last is kept, in the order sideband, host, MP, cores,
Sentinel, and each bit the two set to different values counts once as contention; so too where one of them writes one bit
through the alias. -/
def Piece.ContendingWrites : Prop :=
  (∀ (s : State) (m k : Master) (off : BitVec 25) (v w : Word), s.dev.reaches m = true → s.dev.reaches k = true →
    rankOf m < rankOf k → off.toNat % 4 = 0 → 0x40000 ≤ off.toNat → off.toNat < 0x50000 →
    s.dev.fenced off.toNat = false → s.dev.assigned off.toNat = true → s.dev.lockBit ((findReg off.toNat).elim .never (·.lock)) off.toNat = false →
    ∀ ws ∈ [[⟨m, v, none⟩, ⟨k, w, none⟩], [⟨k, w, none⟩, ⟨m, v, none⟩]],
      Does (.registerWrite off ws) s fun e =>
        (∀ b : Fin 32, (e.reg off.toNat).getLsbD b =
          if bit (s.dev.setMask off.toNat) b then w.getLsbD b else (s.dev.reg off.toNat).getLsbD b) ∧
        e.rn Reg.glbContention =
          (s.dev.rn Reg.glbContention + popcount 32 ((v.toNat ^^^ w.toNat) &&& s.dev.setMask off.toNat)) % 2 ^ 32 ∧
        onlyRegsAct [off.toNat, Reg.glbContention] s.dev e) ∧
  (∀ (s : State) (m k : Master) (off : BitVec 25) (v w : Word) (n : Fin 32), s.dev.reaches m = true → s.dev.reaches k = true →
    rankOf m < rankOf k → off.toNat % 4 = 0 → 0x40000 ≤ off.toNat → off.toNat < 0x50000 →
    s.dev.fenced off.toNat = false → s.dev.assigned off.toNat = true → s.dev.lockBit ((findReg off.toNat).elim .never (·.lock)) off.toNat = false →
    ∀ ws ∈ [[⟨m, v, none⟩, ⟨k, w, some n⟩], [⟨k, w, some n⟩, ⟨m, v, none⟩]],
      Does (.registerWrite off ws) s fun e =>
        (e.reg off.toNat).getLsbD n =
          (if bit (s.dev.setMask off.toNat) n then w.getLsbD 0 else (s.dev.reg off.toNat).getLsbD n) ∧
        e.rn Reg.glbContention = (s.dev.rn Reg.glbContention +
          b2n (bit (s.dev.setMask off.toNat) n && v.getLsbD n != w.getLsbD 0)) % 2 ^ 32)

/-- Register writes, and writes of several masters in one cycle. Choices of the model in it: a command whose conditions do not
hold leaves the machine as it was (log entry 7); which blocks each power state fences (log entry 16). -/
def Obligations.RegisterWrites : Prop := Piece.RegisterWrites ∧ Piece.ContendingWrites

/-- BAR0 requests (R352): a request it refuses counts once in GLB_BADACC; a write is ignored in full, a read returns one DW and
zeros. One of two DW at an 8-byte-aligned address is two writes, the lower address first. -/
def Piece.RequestsOfTheHost : Prop :=
  (∀ (s : State) (off : BitVec 25) (dws : Nat) (be : BitVec 4) (data : List Word), s.dev.reaches .host = true →
    legalRequest off.toNat dws be.toNat = false →
    Does (.bar0BadAccess true off dws be data) s fun e =>
      e.rn Reg.glbBadacc = (s.dev.rn Reg.glbBadacc + 1) % 2 ^ 32 ∧ onlyRegsAct [Reg.glbBadacc] s.dev e) ∧
  (∀ (s : State) (off : BitVec 25) (dws : Nat) (be : BitVec 4) (data : List Word), s.dev.reaches .host = true →
    legalRequest off.toNat dws be.toNat = false → 0x40000 ≤ off.toNat → off.toNat < 0x50000 →
    s.dev.fenced (off.toNat / 4 * 4) = false → s.dev.assigned (off.toNat / 4 * 4) = true →
    Does (.bar0BadAccess false off dws be data) s fun e =>
      e.lastRead = BitVec.ofNat 32 (s.dev.view (off.toNat / 4 * 4)) :: List.replicate (dws - 1) 0 ∧
      e.rn Reg.glbBadacc = (s.dev.rn Reg.glbBadacc + 1) % 2 ^ 32 ∧
      onlyRegsAct [Reg.glbBadacc] s.dev { e with lastRead := s.dev.lastRead }) ∧
  (∀ (s : State) (off : BitVec 25) (v w : Word), s.dev.reaches .host = true → off.toNat % 8 = 0 →
    0x40000 ≤ off.toNat → off.toNat < 0x50000 →
    Does (.bar0BadAccess true off 2 15 [v, w]) s fun e =>
      e = (s.dev.activity.busWrite .host off.toNat v.toNat).busWrite .host (off.toNat + 4) w.toNat)

/-- The bit alias (R354): a write uses bit 0 of its value and applies to its one bit as the bit's type says; the alias of a lock
and of a mailbox's data ignores it. -/
def Piece.BitAlias : Prop :=
  (∀ (s : State) (m : Master) (off : BitVec 25) (v : Word), s.dev.reaches m = true → off.toNat < 0x1000000 →
    let a := off.toNat / 128 * 4
    let b := off.toNat / 4 % 32
    0x40000 ≤ a → a < 0x50000 → s.dev.fenced a = false → s.dev.assigned a = true →
    Does (.bitAliasWrite off v m) s fun e =>
      (e.reg a).getLsbD b = (if bit (s.dev.setMask a) b then v.getLsbD 0 else (s.dev.reg a).getLsbD b) ∧
      (∀ k : Fin 32, k.val ≠ b → bit (s.dev.setMask a) k = false → (e.reg a).getLsbD k = (s.dev.reg a).getLsbD k) ∧
      (s.dev.view a = s.dev.rn a → ∀ k : Fin 32, k.val ≠ b → (e.reg a).getLsbD k = (s.dev.reg a).getLsbD k) ∧
      onlyRegsAct [a] s.dev e) ∧
  (∀ (s : State) (m : Master) (n : Fin 32) (b : Fin 32) (v : Word), s.dev.reaches m = true →
    s.dev.fenced (Reg.mbxLock n) = false →
    Does (.bitAliasWrite (BitVec.ofNat 25 (Reg.mbxLock n * 32 + b * 4)) v m) s fun e => e = s.dev.activity) ∧
  (∀ (s : State) (m : Master) (v : Word), s.dev.reaches m = true → s.dev.fenced Reg.tbCap = false → v.getLsbD 0 = true →
    Does (.bitAliasWrite (BitVec.ofNat 25 (Reg.tbCap * 32)) v m) s fun e =>
      e.rn64 Reg.tbCapLo Reg.tbCapHi = s.dev.tb.tbc % 2 ^ 64)

/-- The sideband target (R379): its accesses, the PEC that SB_CTL asks for, and misaligned offsets; a transaction past its time
(R380) counts. -/
def Piece.SidebandTransactions : Prop :=
  (∀ (s : State) (off : BitVec 24) (v : Word) (pec : Option Byte), s.dev.reaches .sideband = true → off.toNat % 4 = 0 →
    (s.dev.flag Reg.sbCtl 0 = false ∨
      pec.map (·.toNat) = some (s.dev.pecOf (1 :: offBytes off.toNat ++ (toBytes 4 v.toNat).map (·.toNat)))) →
    Does (.sidebandWrite 1 off v pec) s fun e => e = s.dev.activity.busWrite .sideband off.toNat v.toNat) ∧
  (∀ (s : State) (c : Byte) (off : BitVec 24) (v : Word) (pec : Option Byte), s.dev.reaches .sideband = true →
    s.dev.flag Reg.sbCtl 0 = true →
    pec.map (·.toNat) ≠ some (s.dev.pecOf (c.toNat :: offBytes off.toNat ++ (toBytes 4 v.toNat).map (·.toNat))) →
    Does (.sidebandWrite c off v pec) s fun e =>
      e.rn Reg.sbPecErr = (s.dev.rn Reg.sbPecErr + 1) % 2 ^ 32 ∧ onlyRegsAct [Reg.sbPecErr] s.dev e) ∧
  (∀ (s : State) (c : Byte) (off : BitVec 24) (v : Word) (pec : Option Byte), s.dev.reaches .sideband = true →
    s.dev.flag Reg.sbCtl 0 = false → (c ≠ 1 ∨ off.toNat % 4 ≠ 0) →
    Does (.sidebandWrite c off v pec) s fun e =>
      e.rn Reg.glbBadacc = (s.dev.rn Reg.glbBadacc + 1) % 2 ^ 32 ∧ onlyRegsAct [Reg.glbBadacc] s.dev e) ∧
  (∀ (s : State) (c : Byte) (off : BitVec 24), s.dev.reaches .sideband = true →
    0x40000 ≤ off.toNat → off.toNat < 0x50000 →
    s.dev.fenced (off.toNat / 4 * 4) = false → s.dev.assigned (off.toNat / 4 * 4) = true →
    Does (.sidebandRead c off) s fun e =>
      e.lastRead.head? = some (BitVec.ofNat 32 (s.dev.view (off.toNat / 4 * 4))) ∧
      e.lastRead.length = (if s.dev.flag Reg.sbCtl 0 then 2 else 1) ∧
      e.rn Reg.glbBadacc = (s.dev.rn Reg.glbBadacc + if c ≠ 2 ∨ off.toNat % 4 ≠ 0 then 1 else 0) % 2 ^ 32 ∧
      onlyRegsAct [Reg.glbBadacc] s.dev { e with lastRead := s.dev.lastRead }) ∧
  (∀ s : State, Does .sidebandTimeout s fun e =>
    e.rn Reg.sbTimeouts = (s.dev.rn Reg.sbTimeouts + 1) % 2 ^ 32 ∧ keepsMem s.dev e)

/-- Misaligned requests, the bit window and the sideband. Choices of the model in it: a command whose conditions do not hold
leaves the machine as it was (log entry 7); which blocks each power state fences (log entry 16). -/
def Obligations.OtherRegisterAccesses : Prop := Piece.RequestsOfTheHost ∧ Piece.BitAlias ∧ Piece.SidebandTransactions

/-- A router takes the head of an input buffer (R219, R222, R226): a class it does not know is counted; a copy bound for its own
NC is delivered and counted in the barrier; one with a single output goes to the neighbour's facing buffer once the output is
granted to it; one with several takes an entry of the replication buffer (R223, R228). -/
def Piece.PacketsAtARouter : Prop :=
  (∀ (s : State) (r : Fin 256) (port : Fin 7) (vc : Fin 5) (p : Nat) (ps : List Nat), s.dev.inBuf r port vc = p :: ps →
    (pkClass p = 0 ∨ 8 < pkClass p) →
    Does (.routerReceive r port vc) s fun e =>
      e.inBuf r port vc = ps ∧ e.rn Reg.mrBadClass = (s.dev.rn Reg.mrBadClass + 1) % 2 ^ 32 ∧
      keepsRegs [Reg.mrBadClass] s.dev e ∧ e.ncs = s.dev.ncs ∧ keepsMem s.dev e) ∧
  (∀ (s : State) (r : Fin 256) (port : Fin 7) (p : Nat) (ps : List Nat), s.dev.inBuf r port 0 = p :: ps →
    pkClass p = clsEvt → tagPort p = 0 → treeOuts r port p = [pL] → s.dev.granted r pL 0 port = true → (s.dev.nc r).failed = false → s.dev.ncTakes r = true →
    pkTick p = (s.dev.router r).openTick % 65536 → (s.dev.router r).openTick < 2 ^ 32 →
    Does (.routerReceive r port 0) s fun e =>
      e.inBuf r port 0 = ps ∧ (e.nc r).events = (s.dev.nc r).events ++ [p % 2 ^ 128] ∧
      e.rn (Reg.rtDelivered r) = (s.dev.rn (Reg.rtDelivered r) + 1) % 2 ^ 32 ∧
      (e.router r).recv.get 0 ((s.dev.router r).openTick % 2) =
        ((s.dev.router r).recv.get 0 ((s.dev.router r).openTick % 2) + 1) % 2 ^ 32 ∧
      keepsRegs [Reg.rtDelivered r] s.dev e ∧ keepsMem s.dev e) ∧
  (∀ (s : State) (r : Fin 256) (port : Fin 7) (p : Nat) (ps : List Nat), s.dev.inBuf r port 0 = p :: ps →
    pkClass p = clsEvt → tagPort p = 0 → treeOuts r port p = [pL] → s.dev.granted r pL 0 port = true → (s.dev.nc r).failed = true →
    Does (.routerReceive r port 0) s fun e =>
      e.inBuf r port 0 = ps ∧ (e.nc r).events = (s.dev.nc r).events ∧
      e.rn (Reg.rtUndeliv r) = (s.dev.rn (Reg.rtUndeliv r) + 1) % 2 ^ 32) ∧
  (∀ (s : State) (r m : Fin 256) (port : Fin 7) (p o : Nat) (ps : List Nat), s.dev.inBuf r port 0 = p :: ps →
    pkClass p = clsEvt → tagPort p = 0 → treeOuts r port p = [o] → s.dev.neighbour r o = some m.val → o < 4 →
    (s.dev.granted r o 0 port = true → Does (.routerReceive r port 0) s fun e =>
      e.inBuf r port 0 = ps ∧ e.inBuf m (farPort o) 0 = s.dev.inBuf m (farPort o) 0 ++ [p] ∧
      e = { s.dev with routers := e.routers }) ∧
    (s.dev.granted r o 0 port = false → Does (.routerReceive r port 0) s fun e => e = s.dev)) ∧
  (∀ (s : State) (r : Fin 256) (port : Fin 7) (p : Nat) (ps : List Nat), s.dev.inBuf r port 0 = p :: ps →
    pkClass p = clsEvt → tagPort p = 0 → 2 ≤ (treeOuts r port p).length →
    let n := ((s.dev.router r).repl.filter (fun e => e.vc == 0)).length
    (32 ≤ n → Does (.routerReceive r port 0) s fun e => e = s.dev) ∧
    (n < 32 → (∀ o ∈ treeOuts r port p, s.dev.outRoom r o 0 = false) → Does (.routerReceive r port 0) s fun e =>
      e.inBuf r port 0 = ps ∧
      (e.router r).repl = (s.dev.router r).repl ++ [⟨0, (treeOuts r port p).map (fun o => (o, p))⟩] ∧
      e.rn (Reg.rtBranchWaits r) = (s.dev.rn (Reg.rtBranchWaits r) + (treeOuts r port p).length) % 2 ^ 32 ∧
      e.rn (Reg.rtReplMax r) = max (s.dev.rn (Reg.rtReplMax r))
        (((s.dev.router r).repl.filter (fun e => decide (e.vc ≤ 1))).length + 1) % 2 ^ 32 ∧
      keepsRegs [Reg.rtStat r, Reg.rtReplMax r, Reg.rtBranchWaits r] s.dev e)) ∧
  (∀ (s : State) (r m : Fin 256) (o : Fin 4) (p : Nat) (bs : List (Nat × Nat)) (rs : List Repl),
    (s.dev.router r).repl = ⟨0, (o.val, p) :: bs⟩ :: rs → s.dev.neighbour r o = some m.val → s.dev.granted r o 0 7 = true →
    Does (.replicationBranchSend r) s fun e =>
      (e.router r).repl = (if bs = [] then rs else ⟨0, bs⟩ :: rs) ∧
      e.inBuf m (farPort o) 0 = s.dev.inBuf m (farPort o) 0 ++ [p] ∧
      keepsRegs [Reg.rtStat r, Reg.rtReplMax r] s.dev e ∧ e.ncs = s.dev.ncs ∧ keepsMem s.dev e)

/-- The injection port (R229-R232): a packet without a group reaches it, a group's delay keeps it in the pond; an EVENT copy
enters the mesh with its sequence number and is counted, unless its window is full or its device has no route; a COMPLETION
moves the window or is counted as stale. -/
def Piece.InjectionAndWindows : Prop :=
  (∀ (s : State) (r : Fin 256) (p : Nat) (ps : List Nat), (s.dev.router r).inject = [] → (s.dev.router r).fromNc = p :: ps →
    (s.dev.router r).pond.length < 4096 →
    let g := bits p 79 76
    let q := putBits p 79 76 0
    (g = 0 → s.dev.devList (pkDev q) ≠ [] → Does (.sendCopy r) s fun e =>
      (e.router r).inject = [⟨q, s.dev.devList (pkDev q), pL⟩] ∧ (e.router r).fromNc = ps ∧
      e = { s.dev with routers := e.routers }) ∧
    (g ≠ 0 → s.dev.flag (Reg.rtGrpCtl r g) 31 = false → Does (.sendCopy r) s fun e =>
      e.rn (Reg.rtGrpInvalid r) = (s.dev.rn (Reg.rtGrpInvalid r) + 1) % 2 ^ 32 ∧ (e.router r).fromNc = ps ∧
      keepsRegs [Reg.rtGrpInvalid r] s.dev e) ∧
    (g ≠ 0 → s.dev.flag (Reg.rtGrpCtl r g) 31 = true → s.dev.flag (Reg.rtGrpCtl r g) 30 = false →
      s.dev.fld (Reg.rtGrpCtl r g) 5 0 ≠ 0 → Does (.sendCopy r) s fun e =>
        (∃ x, (e.router r).pond = (s.dev.router r).pond ++ [x] ∧
          pkTick x.pkt = (pkTick q + s.dev.fld (Reg.rtGrpCtl r g) 5 0) % 65536) ∧ (e.router r).inject = [] ∧
        e.rn (Reg.rtPond r) = (s.dev.router r).pond.length + 1)) ∧
  (∀ (s : State) (r : Fin 256) (i : Inject) (is : List Inject), (s.dev.router r).inject = i :: is → i.port = pL →
    tagPort i.pkt = 0 → i.devs = [s.dev.ownDev] → pkClass i.pkt = clsEvt → s.dev.bufRoom r pL 0 = true →
    pkTick i.pkt = (s.dev.router r).openTick % 65536 → (s.dev.router r).openTick < 2 ^ 32 → s.dev.outIdle r 6 = true →
    Does (.sendCopy r) s fun e =>
      let seq := (s.dev.router r).nextSeq.get 0 s.dev.ownDev
      (e.router r).inject = is ∧ (e.router r).nextSeq.get 0 s.dev.ownDev = (seq + 1) % 4096 ∧
      (e.router r).sent.get 0 ((s.dev.router r).openTick % 2) =
        ((s.dev.router r).sent.get 0 ((s.dev.router r).openTick % 2) + deliveries i.pkt) % 2 ^ 32 ∧
      (∃ q, e.inBuf r pL 0 = s.dev.inBuf r pL 0 ++ [q] ∧ (seq < 4096 → pkSeq q = seq) ∧ pkAxon q = pkAxon i.pkt) ∧
      e.rn (Reg.rtInjected r) = (s.dev.rn (Reg.rtInjected r) + 1) % 2 ^ 32 ∧
      e.rn (Reg.rtWinWaits r) = (s.dev.rn (Reg.rtWinWaits r) + s.dev.waited (s.dev.router r).winFrom) % 2 ^ 32 ∧
      (e.router r).winFrom = none ∧
      keepsRegs [Reg.rtInjected r, Reg.rtWinWaits r, Reg.rtHintWaits r] s.dev e ∧ keepsMem s.dev e) ∧
  (∀ (s : State) (r : Fin 256) (i : Inject) (is : List Inject) (v : Nat), (s.dev.router r).inject = i :: is →
    tagPort i.pkt = 0 → i.devs = [v] → v ≠ s.dev.ownDev → pkClass i.pkt = clsEvt → s.dev.outIdle r 6 = true →
    let out := ((s.dev.router r).nextSeq.get 0 v + 4096 - (s.dev.router r).acked.get 0 v) % 4096
    (s.dev.routeTo v ≠ none → max 1 (s.dev.fld (Reg.rtWin r) 8 0) ≤ out → Does (.sendCopy r) s fun e =>
      (e.router r).winFrom = some ((s.dev.router r).winFrom.getD s.dev.nocCycle) ∧
      bit (e.viewNc r (Reg.rtStat r)) 1 = true ∧ e = { s.dev with routers := e.routers }) ∧
    (s.dev.routeTo v = none → Does (.sendCopy r) s fun e =>
      (e.router r).inject = is ∧ e.rn Reg.lkUnreach = (s.dev.rn Reg.lkUnreach + 1) % 2 ^ 32 ∧
      (e.router r).nextSeq = (s.dev.router r).nextSeq)) ∧
  (∀ (s : State) (r : Fin 256) (c : Nat) (cs : List Nat), (s.dev.router r).cpls = c :: cs →
    let v := bits c 55 52
    let a := (s.dev.router r).acked.get 0 v
    Does (.completionReceive r) s fun e =>
      (e.router r).cpls = cs ∧
      ((bits c 71 60 + 4096 - a) % 4096 ≤ ((s.dev.router r).nextSeq.get 0 v + 4096 - a) % 4096 →
        (e.router r).acked.get 0 v = bits c 71 60 ∧ e.regs = s.dev.regs) ∧
      (((s.dev.router r).nextSeq.get 0 v + 4096 - a) % 4096 < (bits c 71 60 + 4096 - a) % 4096 →
        (e.router r).acked = (s.dev.router r).acked ∧ e.rn (Reg.rtCplStale r) = (s.dev.rn (Reg.rtCplStale r) + 1) % 2 ^ 32))

/-- Arbitration of an output (R223): in a cycle it carries one packet. Of the sources with a packet and a credit it serves one:
control goes before completions and reports, these before transit, transit before events and hints, and events before hints,
but for a hint that has waited 16 cycles, which goes before events. An idle output that a source can use is never left idle. -/
def Piece.OutputArbitration : Prop :=
  (∀ (d : Dev) (r out : Nat) (v w : Fin 5) (src q : Fin 8), d.granted r out v src = true → d.asks r out v src = true →
    d.asks r out w q = true → d.outRoom r out w = true →
    (w.val = 3 → v.val = 3) ∧ (w.val = 2 → v.val = 3 ∨ v.val = 2) ∧ (w.val = 4 → v.val = 3 ∨ v.val = 2 ∨ v.val = 4) ∧
    (v.val = 0 → w.val = 1 → d.hintWaited r 1 q = false) ∧ (v.val = 1 → w.val = 0 → d.hintWaited r 1 src = true)) ∧
  (∀ (d : Dev) (r out v w a b : Nat), v < 5 → w < 5 → a < 8 → b < 8 → (d.router r).lastIn.cells.all (fun c => decide (c.2 ≤ 8)) = true →
    d.asks r out v a = true → d.asks r out w b = true → d.granted r out v a = true → d.granted r out w b = true →
    v = w ∧ a = b) ∧
  (∀ (d : Dev) (r out : Nat) (w : Fin 5) (q : Fin 8), d.outIdle r out = true → d.asks r out w q = true → d.outRoom r out w = true →
    ∃ v : Fin 5, ∃ src : Fin 8, d.asks r out v src = true ∧ d.granted r out v src = true) ∧
  (∀ (d : Dev) (r out v src p : Nat), (sendVia d r out v src p).outIdle r out = false) ∧
  (∀ (d : Dev) (r out v src : Nat), d.outIdle r out = false → d.granted r out v src = false)

/-- Packets at a router, its outputs, injection and send windows. Choices of the model in it: a value that the manual leaves open
is drawn from an opaque sequence (log entry 2); a command whose conditions do not hold leaves the machine as it was (log
entry 7); the order of link packets and the layout of a notice (log entry 9); one cycle of the mesh is one TBC period (log
entry 119). -/
def Obligations.PacketsInTheFabric : Prop := Piece.PacketsAtARouter ∧ Piece.InjectionAndWindows ∧ Piece.OutputArbitration

/-- The landing stage (R232, R234) and the completion timer (R232): a copy seen before is counted as a duplicate; one in its
window, for this device, enters the mesh at its gateway and is marked; a packet with an unknown class is counted. Choices of
the model in it: a command whose conditions do not hold leaves the machine as it was (log entry 7); the order of link packets
and the layout of a notice (log entry 9). -/
def Obligations.LandingAndCompletions : Prop :=
  (∀ (s : State) (p : Fin 4) (q : Nat), s.dev.landHead p (s.dev.landOk p) = some (0, q) → pkClass q = clsEvt →
    s.dev.landDst q = s.dev.ownDev →
    let k := tagSrc q * 256 + pkSrc q
    let x := s.dev.bar.landing.get {} k
    let off := (pkSeq q + 4096 - x.next) % 4096
    let g := s.dev.gateway p
    Does (.land p) s fun e =>
      (e.port p).landing.get [] 0 = ((s.dev.port p).landing.get [] 0).drop 1 ∧
      ((2048 ≤ off ∨ bit x.seen off = true) →
        e.rn Reg.mrDups = (s.dev.rn Reg.mrDups + 1) % 2 ^ 32 ∧ e.routers = s.dev.routers ∧ e.bar = s.dev.bar) ∧
      (256 ≤ off → off < 2048 → bit x.seen off = false →
        e.rn Reg.mrLandErr = (s.dev.rn Reg.mrLandErr + 1) % 2 ^ 32 ∧ e.routers = s.dev.routers) ∧
      (off = 0 → x.seen = 0 → x.next < 4096 → bits q 79 76 = 0 → x.pend < s.dev.fld Reg.mrCplBatch 7 0 - 1 →
        e.inBuf g pG 0 = s.dev.inBuf g pG 0 ++ [q % 2 ^ 128] ∧
        (e.bar.landing.get {} k).next = (x.next + 1) % 4096 ∧ (e.bar.landing.get {} k).pend = x.pend + 1)) ∧
  (∀ (s : State) (p : Fin 4) (v q : Nat), s.dev.landHead p (s.dev.landOk p) = some (v, q) → (pkClass q = 0 ∨ 8 < pkClass q) →
    Does (.land p) s fun e =>
      e.rn Reg.mrBadClass = (s.dev.rn Reg.mrBadClass + 1) % 2 ^ 32 ∧
      (e.port p).freed.get 0 v = (s.dev.port p).freed.get 0 v + 1 ∧ e.routers = s.dev.routers) ∧
  (∀ s : State, s.dev.bar.landing.cells.all (fun c => c.2.pend == 0 && !c.2.again) = true → Does .completionTimer s fun e => e = s.dev) ∧
  (∀ (s : State) (k : Nat) (x : Landing) (o : Nat) (rev : Bool), s.dev.bar.landing.cells = [(k, x)] →
    (x.pend ≠ 0 ∨ x.again = true) →
    s.dev.routeTo (k / 256) = some (o, rev) → s.dev.flag (Reg.lkPortCfg o) 21 = false → s.dev.canReserve o 2 = true →
    Does .completionTimer s fun e =>
      (e.bar.landing.get {} k).pend = 0 ∧ (e.bar.landing.get {} k).again = false ∧ (e.bar.landing.get {} k).next = x.next ∧ e.routers = s.dev.routers ∧
      (s.dev.inUse o = false → e.ports = s.dev.ports) ∧
      (s.dev.inUse o = true → 64 ≤ (s.dev.port o).replay.length →
        ∃ c, (e.port o).egress.get [] 2 = (s.dev.port o).egress.get [] 2 ++ [c] ∧
          pkClass c = clsCpl ∧ bits c 79 72 = min x.pend 255 ∧ bits c 71 60 = x.next % 4096 ∧ pkDev c = 2 ^ (k / 256) % 65536))

/-- Reports and closes (R235, R236, R238, R239, R342): a router's combined report goes to its parent in the tree; a CLOSE of the
open tick is held by the router and goes to its children, one whose AT has passed takes effect on receipt, and a second one
changes nothing; the time master repeats a close, and each earlier one, until the child's reports have passed its tick. -/
def Piece.ReportsAndCloses : Prop :=
  (∀ (s : State) (r m : Fin 256), r.val ≠ rootRouter → s.dev.hasRouter r = true → s.dev.flow = true →
    s.dev.neighbour r (parentDir r) = some m.val → s.dev.granted r (parentDir r) 2 7 = true →
    s.dev.drainTickNow (s.dev.router r).openTick = false →
    Does (.barrierReport r) s fun e =>
      e.inBuf m (farPort (parentDir r)) 2 =
        s.dev.inBuf m (farPort (parentDir r)) 2 ++ [reportPacket s.dev.ownDev (s.dev.combined r)] ∧
      e = { s.dev with routers := e.routers }) ∧
  (∀ (d : Dev) (r : Fin 256),
    let x := d.router r
    let y := d.combined r
    let below := (d.childDirs r).map (x.reports.get {}) ++ if r.val = rootRouter then d.childPorts.map (d.bar.children.get {}) else []
    y.tick = x.openTick ∧
      y.sent % 2 ^ 32 = (x.sent.get 0 (x.openTick % 2) + (below.map (·.sent)).sum) % 2 ^ 32 ∧
      y.recv % 2 ^ 32 = (x.recv.get 0 (x.openTick % 2) + (below.map (·.recv)).sum) % 2 ^ 32 ∧
      (y.done = true ↔ d.routerDone r = true ∧ ∀ k ∈ below, k.done = true ∧ k.tick = x.openTick)) ∧
  (∀ (s : State) (r : Fin 256) (port p : Nat), s.dev.barrierHead r kindClose = some (port, p) → r.val ≠ rootRouter →
    (s.dev.router r).openTick = bkTick p → s.dev.openTick = bkTick p →
    s.dev.tb.tbc ≤ nearTbc s.dev.tb.tbc (bits p 75 44) → (s.dev.router r).close = none →
    Does (.barrierCloseReceive r) s fun e =>
      (e.router r).close = some {
        tick := bkTick p, at_ := nearTbc s.dev.tb.tbc (bits p 75 44), q := bits p 81 76, force := false, dev := bits p 11 8 } ∧
      (∀ k : Fin 4, k.val ∈ s.dev.childDirs r → ∀ m, s.dev.neighbour r k = some m →
        closePacket (s.dev.closeOf p) ∈ e.inBuf m (farPort k) 2 ∨
          (⟨2, [(k.val, closePacket (s.dev.closeOf p))]⟩ : Repl) ∈ (e.router r).repl) ∧
      e.inBuf r port 2 = (s.dev.inBuf r port 2).drop 1 ∧ e = { s.dev with routers := e.routers }) ∧
  (∀ (s : State) (r : Fin 256) (port p : Nat), s.dev.barrierHead r kindForce = some (port, p) → r.val ≠ rootRouter →
    (s.dev.router r).openTick = bkTick p → s.dev.openTick = bkTick p →
    s.dev.tb.tbc ≤ nearTbc s.dev.tb.tbc (bits p 75 44) → (s.dev.router r).close = none →
    Does (.barrierForceReceive r) s fun e =>
      (e.router r).close = some {
        tick := bkTick p, at_ := nearTbc s.dev.tb.tbc (bits p 75 44), q := bits p 81 76, force := true, dev := bits p 11 8 } ∧
      (∀ k : Fin 4, k.val ∈ s.dev.childDirs r → ∀ m, s.dev.neighbour r k = some m →
        closePacket (s.dev.closeOf p) ∈ e.inBuf m (farPort k) 2 ∨
          (⟨2, [(k.val, closePacket (s.dev.closeOf p))]⟩ : Repl) ∈ (e.router r).repl) ∧
      e.inBuf r port 2 = (s.dev.inBuf r port 2).drop 1 ∧ e.flag Reg.mrStat 5 = true ∧ onlyRegs [Reg.mrStat] s.dev { e with routers := s.dev.routers }) ∧
  (∀ (s : State) (r : Fin 256) (port p : Nat), s.dev.barrierHead r kindClose = some (port, p) → r.val ≠ rootRouter →
    (s.dev.router r).openTick = bkTick p → s.dev.openTick = bkTick p →
    nearTbc s.dev.tb.tbc (bits p 75 44) < s.dev.tb.tbc → (s.dev.router r).close = none →
    Does (.barrierCloseReceive r) s fun e =>
      (e.router r).openTick = (bkTick p + 1) % 2 ^ 32 ∧ (e.router r).close = none ∧
      e.rn Reg.mrCloseLate =
        (s.dev.rn Reg.mrCloseLate + (s.dev.tb.tbc - nearTbc s.dev.tb.tbc (bits p 75 44))) % 2 ^ 32 ∧
      (∀ k : Fin 4, k.val ∈ s.dev.childDirs r → ∀ m, s.dev.neighbour r k = some m →
        closePacket (s.dev.closeOf p) ∈ e.inBuf m (farPort k) 2 ∨
          (⟨2, [(k.val, closePacket (s.dev.closeOf p))]⟩ : Repl) ∈ (e.router r).repl) ∧
      e.openTick = s.dev.openTick ∧ e.tb = s.dev.tb) ∧
  (∀ (s : State) (r : Fin 256) (c : Close) (port p : Nat), s.dev.barrierHead r kindClose = some (port, p) →
    ((s.dev.router r).openTick ≠ bkTick p ∨ (s.dev.router r).close = some c) →
    Does (.barrierCloseReceive r) s fun e =>
      e = s.dev.setInBuf r port 2 ((s.dev.inBuf r port 2).drop 1)) ∧
  (∀ (d : Dev) (c : Close), d.childPorts ≠ [] →
    (fanDown rootRouter c d).bar.unheard = d.bar.unheard.filter (fun k => !d.childPorts.all (d.childPast k)) ++ [c]) ∧
  (∀ (s : State) (p : Fin 4), s.dev.childPorts.contains p.val = true → s.dev.inUse p = true → 64 ≤ (s.dev.port p).replay.length →
    Does (.closeRepeat p) s fun e =>
      (e.port p).egress.get [] 2 = (s.dev.port p).egress.get [] 2 ++
        (s.dev.bar.unheard.filter (fun c => !s.dev.childPast c p)).map closePacket ∧
      e = { s.dev with ports := e.ports }) ∧
  (∀ (s : State) (p : Fin 4), (s.dev.childPorts.contains p.val = false ∨ ∀ c ∈ s.dev.bar.unheard, s.dev.childPast c p = true) →
    Does (.closeRepeat p) s fun e => e = s.dev)

/-- The device root's close opens the next tick (R239-R242): time comes to AT, MR_TICK counts on, MR_TSTART takes AT, and every
router that holds the close opens the tick with empty counts and without the pond's packets that are due. A close that has
not been reached by the device root, or of another tick, does nothing. -/
def Piece.TickCloseOpensTheNextTick : Prop :=
  (∀ (s : State) (c : Close), (s.dev.router rootRouter).close = some c → c.tick = s.dev.openTick → s.dev.flow = true →
    c.at_ < 2 ^ 64 →
    let b := s.dev.advanceTo c.at_
    Does .tickClose s fun e =>
      e.openTick = (c.tick + 1) % 2 ^ 32 ∧ e.rn64 Reg.mrTstartLo Reg.mrTstartHi = c.at_ ∧ e.bar.lastClose = c.at_ ∧
      e.flag Reg.mrStat 5 = false ∧ e.tb.tbc = b.tb.tbc ∧ (s.dev.tbOn = true → s.dev.tb.tbc ≤ c.at_ → e.tb.tbc = c.at_) ∧
      e.rn Reg.mrForced = (s.dev.rn Reg.mrForced + b2n c.force) % 2 ^ 32 ∧
      e.rn Reg.mrStretchQuanta = (s.dev.rn Reg.mrStretchQuanta + c.q) % 2 ^ 32 ∧
      (∀ r : Fin 256, s.dev.hasRouter r = true → ∀ x, (b.router r).close = some x → x.tick = c.tick →
        (b.router r).openTick = c.tick →
        (e.router r).openTick = (c.tick + 1) % 2 ^ 32 ∧ (e.router r).close = none ∧
        (e.router r).sent.get 0 (c.tick % 2) = 0 ∧ (e.router r).recv.get 0 (c.tick % 2) = 0 ∧
        (e.router r).pond = (b.router r).pond.filter (fun q => !decide (tickDiff q.tick c.tick ≤ 0))) ∧
      (∀ r : Fin 256, (b.router r).close = none → (e.router r).openTick = (b.router r).openTick ∧
        (e.router r).sent = (b.router r).sent ∧ (e.router r).recv = (b.router r).recv)) ∧
  (∀ s : State, ((s.dev.router rootRouter).close = none ∨ s.dev.flow = false) → Does .tickClose s fun e => e = s.dev)

/-- Reports, closes and the opening of the next tick. Choices of the model in it: a command whose conditions do not hold leaves
the machine as it was (log entry 7); commands that stand for a moment set the time, and an idle step is one period (log entry
10). -/
def Obligations.BarrierAndTicks : Prop := Piece.ReportsAndCloses ∧ Piece.TickCloseOpensTheNextTick

/-- Draining (R244): a DRAIN packet is noted by its port; the fabric at rest is DRAINED, FLOW ends, and a device not at rest
stays as it is. Choices of the model in it: a command whose conditions do not hold leaves the machine as it was (log entry
7). -/
def Obligations.DrainsOfTheFabric : Prop :=
  (∀ (s : State) (r : Fin 256) (port : Fin 4) (p : Nat) (ps : List Nat), s.dev.inBuf r port 2 = p :: ps → pkClass p = clsDrain →
    (s.dev.router r).drainOut = true →
    Does (.drainPacket r port) s fun e =>
      e.inBuf r port 2 = ps ∧ bit (e.router r).drainIn port = true ∧
      (∀ k : Fin 4, k ≠ port → bit (e.router r).drainIn k = bit (s.dev.router r).drainIn k) ∧
      (e.routerDrained r = true ↔ (e.router r).repl = [] ∧
        ∀ k : Fin 4, (s.dev.neighbour r k).isSome = true → k ≠ port → bit (s.dev.router r).drainIn k = true) ∧
      e = { s.dev with routers := e.routers }) ∧
  (∀ s : State, s.dev.fabricQuiet = true → s.dev.flag Reg.mrStat 4 = false → s.dev.jobHead 0x13 = none →
    Does .fabricDrained s fun e =>
      e.flag Reg.mrStat 4 = true ∧ e.flag Reg.mrStat 3 = false ∧ e.flow = false ∧
      e.rn Reg.mrDrains = (s.dev.rn Reg.mrDrains + 1) % 2 ^ 32) ∧
  (∀ s : State, s.dev.fabricQuiet = false → Does .fabricDrained s fun e => e = s.dev)

/-- Window adds and the record queue (R282, R289): an add saturates its counter; a write of JN_RQ_RD passes the entries before
it; JN_RQ_SKIP passes one and counts it as lost. -/
def Piece.WindowAddsAndTheRecordQueue : Prop :=
  (∀ (s : State) (n k v : Nat) (l : List (Nat × Nat × Nat)), s.dev.jn.adds = (n, k, v) :: l →
    Does .windowAdd s fun e =>
      e.jn.adds = l ∧ e.jn.wctr.get 0 k = min (s.dev.jn.wctr.get 0 k + v) 0xFFFFFFFF ∧
      (0xFFFFFFFF < s.dev.jn.wctr.get 0 k + v →
        e.jn.wsat.get false k = true ∧ e.rn Reg.jnWsat = (s.dev.rn Reg.jnWsat + 1) % 2 ^ 32) ∧
      (∀ j : Fin 4096, j.val ≠ k → e.jn.wctr.get 0 j = s.dev.jn.wctr.get 0 j) ∧ keepsRegs [Reg.jnWsat] s.dev e ∧ keepsMem s.dev e) ∧
  (∀ (s : State) (v : Word), s.dev.fenced Reg.jnRqRd = false →
    Does (.recordQueueReadAdvance v) s fun e =>
      e.rn Reg.jnRqRd = v.toNat % 65536 ∧ e.fld Reg.jnRqWr 15 0 = s.dev.fld Reg.jnRqWr 15 0 ∧ e.jn.retried = false ∧
      (s.dev.rqCount ≠ 0 → v.toNat % 65536 < s.dev.rqCount → s.dev.fld Reg.jnRqWr 15 0 < s.dev.rqCount →
        v.toNat % 65536 = s.dev.fld Reg.jnRqWr 15 0 → e.rqUsed = 0) ∧ keepsMem s.dev e) ∧
  (∀ s : State, s.dev.fenced Reg.jnRqSkip = false → s.dev.fld Reg.jnRqRd 15 0 ≠ s.dev.fld Reg.jnRqWr 15 0 →
    Does .recordSkip s fun e =>
      e.rn Reg.jnRqRd = (s.dev.fld Reg.jnRqRd 15 0 + 1) % max 1 s.dev.rqCount ∧
      e.rn Reg.jnRqLost = (s.dev.rn Reg.jnRqLost + 1) % 2 ^ 32 ∧ keepsMem s.dev e) ∧
  (∀ s : State, s.dev.fenced Reg.jnRqSkip = false → s.dev.fld Reg.jnRqRd 15 0 = s.dev.fld Reg.jnRqWr 15 0 →
    Does .recordSkip s fun e => e = s.dev.activity)

/-- R284: at a final window CLASS is the index of the largest count, the lowest at a tie; SCORE is that count and RUNNER the
largest of the others, both saturating, TOTAL the saturating sum; all counts 0 give CLASS 0xFF and zeros. -/
def Piece.ClassOfAFinalWindow : Prop :=
  ∀ counts : List Nat,
    let r := classify counts
    ((∀ x ∈ counts, x = 0) → r = (0xFF, 0, 0, 0)) ∧
    (∀ x ∈ counts, x ≠ 0 →
      r.1 < counts.length ∧
      (∀ j, j < counts.length → counts.getD j 0 ≤ counts.getD r.1 0) ∧ (∀ j, j < r.1 → counts.getD j 0 < counts.getD r.1 0) ∧
      r.2.1 = min (counts.getD r.1 0) 0xFFFF ∧
      (∀ j, j < counts.length → j ≠ r.1 → min (counts.getD j 0) 0xFFFF ≤ r.2.2.1) ∧
      (r.2.2.1 = 0 ∨ ∃ j, j < counts.length ∧ j ≠ r.1 ∧ r.2.2.1 = min (counts.getD j 0) 0xFFFF) ∧
      r.2.2.2 = min counts.sum 0xFFFFFFFF)

/-- Window adds, the record queue, and the class of a final window. Choices of the model in it: a command whose conditions do not
hold leaves the machine as it was (log entry 7); the record queue holds one entry less than its count (log entry 14). -/
def Obligations.WindowsAndTheRecordQueue : Prop := Piece.WindowAddsAndTheRecordQueue ∧ Piece.ClassOfAFinalWindow

/-- TRIG_OUT (R292, R293, R296, R431): a qualifying pulse at an enabled, idle output starts a pulse at the next TB_CLK edge,
which the output captures and at which its pin moves; a second one of the same period is part of it, and one during a pulse
or its holdoff is suppressed. WIDTH and HOLDOFF end in their time, in SENTINEL by SENT_CLK periods. -/
def Piece.TriggerOutputs : Prop :=
  (∀ (s : State) (p : Fin 8), s.dev.flag (Reg.trgoCtl p) 0 = true → (s.dev.trigOut p).phase = .idle → s.dev.inSentinel = false →
    bit s.dev.tb.outAt p = false →
    Does (.trigOutFire p) s fun e =>
      e.trigOut p = trigRun .width (s.dev.tb.tbc + 1) (s.dev.trgoTime p).1 ∧
      ((s.dev.trgoTime p).1 ≠ 0 →
        bit (trigTick (s.dev.tb.tbc + 1) e).pins.trigOut p = !s.dev.flag (Reg.trgoCtl p) 1) ∧
      (∀ q : Fin 8, q ≠ p → e.trigOut q = s.dev.trigOut q) ∧
      e.rn64 (Reg.trgoCapLo p) (Reg.trgoCapHi p) = (s.dev.tb.tbc + 1) % 2 ^ 64 ∧
      e.rn (Reg.trgoSeq p) = (s.dev.rn (Reg.trgoSeq p) + 1) % 2 ^ 32 ∧
      e.tb = { s.dev.tb with outAt := e.tb.outAt } ∧ bit e.tb.outAt p = true ∧
      onlyRegs [Reg.trgoCapLo p, Reg.trgoCapHi p, Reg.trgoSeq p] s.dev { e with trigOuts := s.dev.trigOuts, tb := s.dev.tb }) ∧
  (∀ (s : State) (p : Fin 8), s.dev.flag (Reg.trgoCtl p) 0 = true → (s.dev.trigOut p).phase ≠ .idle →
    bit s.dev.tb.outAt p = false →
    Does (.trigOutFire p) s fun e =>
      e.rn (Reg.trgoSuppressed p) = (s.dev.rn (Reg.trgoSuppressed p) + 1) % 2 ^ 32 ∧ bit e.tb.outAt p = true ∧
      onlyRegs [Reg.trgoSuppressed p] s.dev { e with tb := s.dev.tb }) ∧
  (∀ (s : State) (p : Fin 8), (s.dev.flag (Reg.trgoCtl p) 0 = false ∨ bit s.dev.tb.outAt p = true) →
    Does (.trigOutFire p) s fun e => e = s.dev) ∧
  (∀ (s : State) (p : Fin 8) (v : Word), s.dev.fenced (Reg.trgoCtl p) = false →
    (v.getLsbD 0 = false → Does (.trgoCtlWrite p v) s fun e =>
      e.trigOut p = {} ∧ bit (trigTick (s.dev.tb.tbc + 1) e).pins.trigOut p = v.getLsbD 1 ∧
      e.rn (Reg.trgoCtl p) = putBits v.toNat 15 2 0 ∧
      onlyRegsAct [Reg.trgoCtl p] s.dev { e with trigOuts := s.dev.trigOuts }) ∧
    (v.getLsbD 0 = true → v.getLsbD 2 = true → (s.dev.trigOut p).phase = .idle → s.dev.inSentinel = false →
      bit s.dev.tb.outAt p = false →
      Does (.trgoCtlWrite p v) s fun e =>
        e.trigOut p = trigRun .width (s.dev.tb.tbc + 1) (s.dev.trgoTime p).1 ∧ e.rn (Reg.trgoCtl p) = putBits v.toNat 15 2 0)) ∧
  (∀ (s : State) (p : Fin 8), s.dev.inSentinel = false → s.dev.tbOn = true → (s.dev.trigOut p).phase = .width →
    Does (.trigOutWidthEnd p) s fun e =>
      let t := max (s.dev.trigOut p).fin (s.dev.tb.tbc + 1)
      ((s.dev.trgoTime p).2 ≠ 0 → e.trigOut p = trigRun .holdoff t (s.dev.trgoTime p).2) ∧
      bit e.pins.trigOut p = s.dev.flag (Reg.trgoCtl p) 1 ∧ e.tb.tbc = t) ∧
  (∀ (d : Dev) (p : Fin 8) (t : Nat), (d.trigOut p).phase = .width → (d.trgoTime p).2 = 0 → (trigPhase p t d).trigOut p = {}) ∧
  (∀ (s : State) (p : Fin 8), s.dev.inSentinel = false → s.dev.tbOn = true → (s.dev.trigOut p).phase = .holdoff →
    Does (.trigOutHoldoffEnd p) s fun e =>
      (e.trigOut p).phase ≠ .holdoff ∧ bit e.pins.trigOut p = s.dev.flag (Reg.trgoCtl p) 1 ∧
      e.tb.tbc = max (s.dev.trigOut p).fin (s.dev.tb.tbc + 1)) ∧
  (∀ (s : State) (p : Fin 8), (s.dev.trigOut p).phase ≠ .width → Does (.trigOutWidthEnd p) s fun e => e = s.dev) ∧
  (∀ (s : State) (p : Fin 8), (s.dev.trigOut p).phase ≠ .holdoff → Does (.trigOutHoldoffEnd p) s fun e => e = s.dev) ∧
  (∀ (d : Dev) (p : Fin 8), (d.trigOut p).phase = .width →
    (1 < (d.trigOut p).left → (trigSent d).trigOut p = { d.trigOut p with left := (d.trigOut p).left - 1 }) ∧
    ((d.trigOut p).left ≤ 1 → (trigSent d).trigOut p =
      if (d.trgoTime p).2 = 0 then {} else trigRun .holdoff 0 (d.trgoTime p).2)) ∧
  (∀ (s : State) (line : Fin 16), s.dev.networkOn = false → Does (.triggerLinePulse line) s fun e => e = s.dev) ∧
  (∀ (s : State) (line : Fin 16), s.dev.networkOn = true → bit s.dev.tb.lineAt line = true →
    Does (.triggerLinePulse line) s fun e =>
      e.rn (Reg.trgLinePulses line) = (s.dev.rn (Reg.trgLinePulses line) + 1) % 2 ^ 32 ∧
      e.tb = { s.dev.tb with lineDue := e.tb.lineDue } ∧ e.tb.lineDue.get 0 line = s.dev.tb.lineDue.get 0 line + 1 ∧
      onlyRegs [Reg.trgLinePulses line] s.dev { e with tb := s.dev.tb }) ∧
  (∀ (s : State) (line : Fin 16), s.dev.networkOn = true → bit s.dev.tb.lineAt line = false → s.dev.tbOn = false →
    s.dev.inSentinel = false → (∀ p : Fin 8, bit (s.dev.fld (Reg.trgoCtl p) 31 16) line = false) →
    Does (.triggerLinePulse line) s fun e =>
      e.rn (Reg.trgLinePulses line) = (s.dev.rn (Reg.trgLinePulses line) + 1) % 2 ^ 32 ∧ bit e.tb.lineAt line = true ∧
      onlyRegs [Reg.trgLinePulses line] s.dev { e with tb := s.dev.tb }) ∧
  -- pulses of one NC, or more than a RACE_CLK cycle and a TB_CLK period apart, never merge (R292)
  (∀ (d : Dev) (n line : Nat), ((d.lineLast.get (0, 0) line).2 = n ∨
      1600 + d.rn Reg.pwrRaceMhz ≤ (d.tb.tbc + 1 - (d.lineLast.get (0, 0) line).1) * d.rn Reg.pwrRaceMhz) →
    d.ncLinePulse n line = Dev.linePulse line { d with lineLast := d.lineLast.set (0, 0) line (d.tb.tbc + 1, n) })

/-- TRIG_IN (R294): an edge of the polarity chosen is stamped and counted, may wake the device (R411), and during a job injects
its event for the next tick; the other edge does nothing. -/
def Piece.TriggerInputs : Prop :=
  (∀ (s : State) (i : Fin 4) (falling : Bool) (fine : BitVec 8), s.dev.flag (Reg.trgiCtl i) 9 ≠ falling →
    Does (.trigInEdge i falling fine) s fun e => e = s.dev) ∧
  (∀ (s : State) (i : Fin 4) (falling : Bool) (fine : BitVec 8), s.dev.flag (Reg.trgiCtl i) 9 = falling →
    s.dev.flag (Reg.trgiCtl i) 8 = false →
    let enc := s.dev.fld (Reg.trgiCtl i) 23 20
    let go := s.dev.flag (Reg.trgiCtl i) 31 && decide (jsRunning ≤ s.dev.jobState) && decide (enc < s.dev.meshCols)
    Does (.trigInEdge i falling fine) s fun e =>
      e.rn64 (Reg.trgiCapLo i) (Reg.trgiCapHi i) = s.dev.captureTime % 2 ^ 64 ∧ (s.dev.inSentinel = false → s.dev.captureTime = s.dev.tb.tbc) ∧ e.rn (Reg.trgiCapFine i) = fine.toNat ∧
      e.rn (Reg.trgiSeq i) = (s.dev.rn (Reg.trgiSeq i) + 1) % 2 ^ 32 ∧
      e.rn Reg.jnEvents = (s.dev.rn Reg.jnEvents + b2n go) % 2 ^ 32 ∧
      (go = false → e.routers = s.dev.routers) ∧
      (go = true → ∃ x, (e.router enc).inject = (s.dev.router enc).inject ++ [x] ∧
        (x.port = pJ ∧ pkTick x.pkt = (s.dev.openTick + 1) % 65536 ∧ pkSrc x.pkt = enc ∧
          pkAxon x.pkt = s.dev.fld (Reg.trgiAxon i) 15 0)) ∧
      keepsRegs [Reg.trgiCapLo i, Reg.trgiCapHi i, Reg.trgiCapFine i, Reg.trgiSeq i, Reg.jnEvents, Reg.pwrAborts, Reg.pwrWakes,
        Reg.pwrWakeCause] s.dev e ∧ keepsMem s.dev e)

/-- Trigger outputs and inputs. Choices of the model in it: a command whose conditions do not hold leaves the machine as it was
(log entry 7); commands that stand for a moment set the time, and an idle step is one period (log entry 10). -/
def Obligations.Triggers : Prop := Piece.TriggerOutputs ∧ Piece.TriggerInputs

/-- Pond accesses (R307, R313, R314): an add or a swap answers the old value and writes the new one; an access that gets an error
response, and another AMO or LR/SC, changes no byte, and faults on the core that made it; of two accesses that meet at one
word of a dual-port bank P0 is applied, then P1, and a plain read returns the word as it was before the cycle. -/
def Piece.PondAtomics : Prop :=
  (∀ (s : State) (q : PondReq), (q.op = .add ∨ q.op = .swap) → s.dev.acts q.who = true → (∀ k, q.who ≠ .service k) →
    let n := if q.wide then 8 else 4
    let a := q.addr.toNat
    let old := s.dev.num a n
    s.dev.placeOf a n = .pond → a % n = 0 → s.dev.readBad a n = false →
    Does (.pondAtomic q.who q.op q.toPondWord none) s fun e =>
      e.lastRead = (if q.wide then [loWord old, hiWord old] else [loWord old]) ∧
      e.num a n = (if q.op = .swap then q.value.toNat else old + q.value.toNat) % 2 ^ (8 * n) ∧
      e.rn Reg.pondAtomics = (s.dev.rn Reg.pondAtomics + 1) % 2 ^ 32 ∧
      keepsRegs [Reg.pondAtomics] s.dev e ∧ keepsMemBut a n s.dev e) ∧
  (∀ (s : State) (q : PondReq), (q.op = .add ∨ q.op = .swap) → s.dev.acts q.who = true → (∀ k, q.who ≠ .service k) →
    let n := if q.wide then 8 else 4
    let a := q.addr.toNat
    (a % n ≠ 0 ∨ s.dev.placeOf a n = .pondOff) →
    Does (.pondAtomic q.who q.op q.toPondWord none) s fun e =>
      e.lastRead = [] ∧
      e.rn Reg.pondMisalign = (s.dev.rn Reg.pondMisalign + b2n (decide (a % n ≠ 0))) % 2 ^ 32 ∧
      e.rn Reg.pondOffacc = (s.dev.rn Reg.pondOffacc + b2n (decide (s.dev.placeOf a n = .pondOff))) % 2 ^ 32 ∧
      (∀ k : Fin 16, q.who = .core k → (e.hart k).csr.get 0 0x342 = 7 ∧ (e.hart k).mode = .m) ∧
      onlyRegs [Reg.pondMisalign, Reg.pondOffacc] s.dev
        { e with lastRead := s.dev.lastRead, harts := s.dev.harts, free := s.dev.free }) ∧
  (∀ (s : State) (q : PondReq) (k : Fin 16), (q.op = .amo ∨ q.op = .lr ∨ q.op = .sc) → q.who = .core k →
    s.dev.coreRuns k = true →
    Does (.pondAtomic q.who q.op q.toPondWord none) s fun e =>
      (e.hart k).csr.get 0 0x342 = (if q.op = .lr then 5 else 7) ∧ (e.hart k).mode = .m ∧
      (e.hart k).pc = (s.dev.hart k).csr.get 0 0x305 / 4 * 4 ∧
      e = { s.dev with lastRead := [], harts := e.harts, free := e.free } ∧
      (∀ j : Fin 16, j ≠ k → e.hart j = s.dev.hart j)) ∧
  (∀ (s : State) (p q : PondReq), q.addr = p.addr → q.wide = p.wide → p.addr.toNat / 0x80000 < 4 →
    s.dev.acts p.who = true → s.dev.acts q.who = true → (∀ k, p.who ≠ .service k ∧ q.who ≠ .service k) →
    p.op ∈ [PondOp.read, .write, .add, .swap] → q.op ∈ [PondOp.read, .write, .add, .swap] →
    let n := if p.wide then 8 else 4
    let a := p.addr.toNat
    let old := s.dev.num a n
    let next (r : PondReq) (x : Nat) : Nat :=
      (if r.op = .read then x else if r.op = .add then x + r.value.toNat else r.value.toNat) % 2 ^ (8 * n)
    let out (r : PondReq) (x : Nat) : List Word :=
      if r.op = .write then [] else if r.wide then [loWord x, hiWord x] else [loWord x]
    s.dev.placeOf a n = .pond → a % n = 0 → s.dev.readBad a n = false →
    Does (.pondAtomic p.who p.op p.toPondWord (some q)) s fun e =>
      e.num a n = next q (next p old) ∧
      e.lastRead = out p old ++ out q (if q.op = .read then old else next p old) ∧ keepsMemBut a n s.dev e) ∧
  (∀ (s : State) (p q : PondReq) (a : Nat), p.op = .write → q.op = .write → s.dev.acts p.who = true → s.dev.acts q.who = true →
    (∀ k, p.who ≠ .service k ∧ q.who ≠ .service k) →
    let len (r : PondReq) : Nat := if r.wide then 8 else 4
    let at_ (r : PondReq) : Option Byte :=
      if r.addr.toNat ≤ a ∧ a < r.addr.toNat + len r then some (BitVec.ofNat 8 (r.value.toNat / 2 ^ (8 * (a - r.addr.toNat)))) else none
    s.dev.placeOf p.addr.toNat (len p) = .pond → s.dev.placeOf q.addr.toNat (len q) = .pond →
    Does (.pondAtomic p.who p.op p.toPondWord (some q)) s fun e => e.byte a = ((at_ q).or (at_ p)).getD (s.dev.byte a))

/-- Bank power (R315): a field of POND_PWR starts its bank toward the state it names, except 2 and a bank that is off by its
fuses; one that names another state than ON for a bank of the running job is refused; a bank that ends OFF has lost its
contents, and any other keeps them. That an OFF bank goes to RETENTION by ON is the model's choice (log entry 17). -/
def Piece.PondBankPower : Prop :=
  (∀ (s : State) (j : Fin 4) (v : Word), s.dev.fenced (Reg.pondPwr j) = false →
    let f (i : Nat) : Nat := bits v.toNat (2 * i + 1) (2 * i)
    let off (i : Nat) : Bool := s.dev.bankOff (16 * j.val + i)
    let refused (i : Nat) : Bool := decide (f i ≠ 2) && !off i && decide (f i ≠ 3) && s.dev.bankHeld (16 * j.val + i) &&
      s.dev.pondPwr (16 * j.val + i) == 3
    Does (.pondPowerWrite j v) s fun e =>
      (∀ i : Fin 16,
        let b := 16 * j.val + i.val
        ((f i = 2 ∨ off i = true ∨ refused i = true) →
          e.pondPwr b = s.dev.pondPwr b ∧ e.pondState b = s.dev.pondState b ∧ e.pondTo.get 0 b = s.dev.pondTo.get 0 b) ∧
        (f i ≠ 2 → off i = false → refused i = false → e.pondPwr b = f i ∧
          ((s.dev.pondState b = f i ∨ s.dev.pondTo.get 0 b ≠ 0) →
            e.pondState b = s.dev.pondState b ∧ e.pondTo.get 0 b = s.dev.pondTo.get 0 b) ∧
          (s.dev.pondState b ≠ f i → s.dev.pondTo.get 0 b = 0 →
            e.pondState b = 2 ∧ e.pondTo.get 0 b = (if s.dev.pondState b = 0 then 3 else f i) + 1))) ∧
      e.rn Reg.pondRefused = (s.dev.rn Reg.pondRefused + ((List.range 16).filter refused).length) % 2 ^ 32 ∧
      keepsRegs [Reg.pondPwr j, Reg.pondState j, Reg.pondRefused] s.dev e ∧ keepsMem s.dev e) ∧
  (∀ (s : State) (b : Fin 64), s.dev.pondTo.get 0 b = 0 → Does (.pondTransitionDone b) s fun e => e = s.dev) ∧
  (∀ (s : State) (b : Fin 64) (v : Nat), s.dev.pondTo.get 0 b = v + 1 → v < 4 →
    let w := s.dev.pondPwr b
    Does (.pondTransitionDone b) s fun e =>
      ((w = v ∨ w = 2 ∨ s.dev.bankOff b = true) → e.pondState b = v ∧ e.pondTo.get 0 b = 0) ∧
      (w ≠ v → w ≠ 2 → s.dev.bankOff b = false →
        e.pondState b = 2 ∧ e.pondTo.get 0 b = (if v = 0 then 3 else w) + 1) ∧
      keepsRegs [Reg.pondState (b.val / 16)] s.dev e ∧
      (v = 0 → (∀ a, b.val * 0x80000 ≤ a → a < b.val * 0x80000 + 0x80000 → e.byte a = 0) ∧
        keepsMemBut (b.val * 0x80000) 0x80000 s.dev e) ∧
      (v ≠ 0 → keepsMem s.dev e))

/-- Pond accesses and bank power. Choices of the model in it: a byte that nothing has written reads as 0 (log entry 5); a command
whose conditions do not hold leaves the machine as it was (log entry 7); a Pond bank goes from OFF to RETENTION by way of ON
(log entry 17); what a trap leaves in a core (log entry 126). -/
def Obligations.PondMemory : Prop := Piece.PondAtomics ∧ Piece.PondBankPower

/-- Reads of a DDR5 line (R320): a check that fails is counted and the line read again; a second failure gives the line up; an
address outside the memory answers nothing. -/
def Piece.DdrReads : Prop :=
  (∀ (s : State) (o : BitVec 39) (p1 a1 p2 a2 : Bool),
    let a := ddrBase + o.toNat / 64 * 64
    let c := s.dev.ddrChannel o.toNat
    let line := (List.range 16).map (fun i => w32 (s.dev.num (a + 4 * i) 4))
    s.dev.isDdr a = true →
    Does (.ddrRead o p1 a1 p2 a2) s fun e =>
      (p1 = false → a1 = false → e.lastRead = line ∧ e.regs = s.dev.regs) ∧
      ((p1 = true ∨ a1 = true) → p2 = false → a2 = false → e.lastRead = line ∧
        e.rn (Reg.ddrParErr c) = (s.dev.rn (Reg.ddrParErr c) + b2n p1) % 2 ^ 32 ∧
        e.rn (Reg.ddrAbcErr c) = (s.dev.rn (Reg.ddrAbcErr c) + b2n a1) % 2 ^ 32 ∧
        e.rn (Reg.ddrRetries c) = (s.dev.rn (Reg.ddrRetries c) + 1) % 2 ^ 32 ∧ e.readBad a 64 = false) ∧
      ((p1 = true ∨ a1 = true) → (p2 = true ∨ a2 = true) → e.lastRead = [] ∧
        e.rn (Reg.ddrParErr c) = (s.dev.rn (Reg.ddrParErr c) + b2n p1 + b2n p2) % 2 ^ 32 ∧
        e.rn (Reg.ddrAbcErr c) = (s.dev.rn (Reg.ddrAbcErr c) + b2n a1 + b2n a2) % 2 ^ 32 ∧
        e.rn (Reg.ddrRdErr c) = (s.dev.rn (Reg.ddrRdErr c) + 1) % 2 ^ 32 ∧ e.readBad a 64 = true) ∧
      keepsMem s.dev e) ∧
  (∀ (s : State) (o : BitVec 39) (p1 a1 p2 a2 : Bool), s.dev.isDdr (ddrBase + o.toNat / 64 * 64) = false →
    Does (.ddrRead o p1 a1 p2 a2) s fun e => e = { s.dev with lastRead := [] })

/-- DDR_CONFIG (R321, R322, R392): before a job only; each named channel trains or fails with its cause, a block that is
inconsistent with CAUSE 5; DDR5 is available when every one trains, and the completion carries the causes. -/
def Piece.DdrConfiguration : Prop :=
  ∀ (s : State) (c : VciCmd) (causes : List (BitVec 4)), s.dev.jobHead 2 = some c → s.dev.basic = false → s.dev.serving = true →
    let ks := maskBits 4 c.imm
    let a := cmdArg64 c 0
    let n := 64 * ks.length
    let blocks : List (Nat × List Byte) := ks.zipIdx.map (fun (x : Nat × Nat) => (x.1, s.dev.bytes (a + 64 * x.2) 64))
    let cause (k : Nat) : Nat := ddrCause blocks causes k
    (s.dev.jobState ≠ jsNone → Does (.ddrConfig causes) s fun e => s.dev.answered c 5 [] e) ∧
    (s.dev.jobState = jsNone → s.dev.readable a n = false → Does (.ddrConfig causes) s fun e => s.dev.answered c 7 [] e) ∧
    (s.dev.jobState = jsNone → s.dev.readable a n = true → (isHost a = false ∨ s.dev.bme = true) →
      Does (.ddrConfig causes) s fun e =>
        let res := cause 0 + 16 * cause 1 + 256 * cause 2 + 4096 * cause 3
        s.dev.answered c (if res = 0 then 0 else 0x40) [res] e ∧ (e.sec.trained = true ↔ res = 0) ∧
        (∀ k : Fin 4, e.fld (Reg.ddrStat k) 7 4 = cause k ∧ (e.flag (Reg.ddrStat k) 1 = true ↔ k.val ∈ ks ∧ cause k = 0)) ∧
        (∀ k ∈ ks, (∀ x ∈ blocks, ddrBlockOk x.2 = true ∧ ∀ y ∈ blocks, y.2 = x.2) → (causes.getD k 0).toNat ≤ 4 →
          cause k = (causes.getD k 0).toNat) ∧
        (∀ k ∈ ks, (∃ x ∈ blocks, ddrBlockOk x.2 = false) → cause k = 5))

/-- The service program and the record forwarder (R289, R304, R305): a trap on a service core ends the program; a queue record
that can be read goes to the ring bound to its source, and one that fails twice is skipped; the window counters' select is
the only register that the service program's mapping takes a write of (log entry 126), and another faults. -/
def Piece.ServiceProgramAndForwarding : Prop :=
  (∀ (s : State) (k : Fin 16) (c : CoreTrap) (pc : DWord), s.dev.serves k = true →
    Does (.serviceTrap k c pc) s fun e =>
      e.serviceOn = false ∧ e.rn Reg.vciEvtSeq = (s.dev.rn Reg.vciEvtSeq + 1) % 2 ^ 32 ∧
      (e.hart k).csr.get 0 0x341 = pc.toNat ∧ (e.hart k).csr.get 0 0x342 = Dev.trapCode c ∧
      (∀ n : Fin 32, bit (s.dev.vci.masks.get 0 n) 3 = true → s.dev.vci.replies.get [] n = [] →
        ∃ r, e.vci.replies.get [] n = [r] ∧ r.event = true ∧ r.code = 4 ∧
          r.res = [e.rn Reg.vciEvtSeq, k.val, Dev.trapCode c, pc.toNat % 2 ^ 32, pc.toNat / 2 ^ 32])) ∧
  (∀ (s : State) (k : Fin 16) (c : CoreTrap) (pc : DWord), s.dev.serves k = false →
    Does (.serviceTrap k c pc) s fun e => e = s.dev) ∧
  (∀ s : State,
    let a := s.dev.rqAddr (s.dev.fld Reg.jnRqRd 15 0)
    let r := s.dev.vci.binds.get 0 (recSource (s.dev.bytes a 64))
    let bad := s.dev.rqOut a || s.dev.readBad a 64
    s.dev.forwarders ≠ [] → s.dev.rqUsed ≠ 0 → s.dev.forwarding = false →
    (bad = false → Does .recordForward s fun e =>
      (e.ring r).put = (s.dev.ring r).put ++ [s.dev.bytes a 64] ∧ e.rn Reg.jnRqRd = s.dev.rn Reg.jnRqRd ∧ keepsMem s.dev e) ∧
    (bad = true → s.dev.jn.retried = false → Does .recordForward s fun e =>
      e.jn.retried = true ∧ e.rn Reg.jnRqRd = s.dev.rn Reg.jnRqRd ∧ e.rings = s.dev.rings) ∧
    (bad = true → s.dev.jn.retried = true → Does .recordForward s fun e =>
      e.jn.retried = false ∧ e.rn Reg.jnRqRd = (s.dev.fld Reg.jnRqRd 15 0 + 1) % max 1 s.dev.rqCount ∧
      e.rn Reg.jnRqLost = (s.dev.rn Reg.jnRqLost + 1) % 2 ^ 32 ∧ e.rings = s.dev.rings)) ∧
  (∀ s : State, (s.dev.forwarders = [] ∨ s.dev.rqUsed = 0 ∨ s.dev.forwarding = true) → Does .recordForward s fun e => e = s.dev) ∧
  (∀ (d : Dev) (k : Fin 16) (write : Bool) (f : Dev → Dev), d.serves k = true →
    (Dev.byMaster (.service k) write f d).serviceOn = false ∧
      ((Dev.byMaster (.service k) write f d).hart k).csr.get 0 0x342 = (if write then 15 else 13) ∧
      (Dev.byMaster (.service k) write f d).mem = d.mem)

/-- DDR5 reads and training, service cores and record forwarding. Choices of the model in it: a command whose conditions do not
hold leaves the machine as it was (log entry 7); what a restart of the command service drops (log entry 18); what a trap
leaves in a core (log entry 126). -/
def Obligations.DdrAndServiceCores : Prop := Piece.DdrReads ∧ Piece.DdrConfiguration ∧ Piece.ServiceProgramAndForwarding

/-- Locks (R364-R366): a read of a free pair gives it to the reader served first and answers 0; a read by another master answers
the owner; the owner alone releases it by writing 0. -/
def Piece.PairLocks : Prop :=
  (∀ (s : State) (n : Fin 32) (m : Master) (ms : List Master), s.dev.fenced (Reg.mbxLock n) = false → ms.all s.dev.reaches = true →
    s.dev.pairOwner n = 0 → firstReader ms = some m → ownerOf m < 32 →
    Does (.mbxLockRead n ms) s fun e =>
      e.pairOwner n = ownerOf m ∧
      e.lastRead = ms.map (fun k => if ownerOf k = ownerOf m then 0 else BitVec.ofNat 32 (ownerOf m)) ∧
      (e.vci.replies.get [] n).all (fun r => r.event || r.owner == ownerOf m) = true ∧ keepsMem s.dev e) ∧
  (∀ (s : State) (n : Fin 32) (ms : List Master), s.dev.fenced (Reg.mbxLock n) = false → s.dev.pairOwner n ≠ 0 →
    ms.all s.dev.reaches = true →
    Does (.mbxLockRead n ms) s fun e =>
      e.lastRead = ms.map (fun k => if ownerOf k = s.dev.pairOwner n then 0 else BitVec.ofNat 32 (s.dev.pairOwner n)) ∧
      e.regs = s.dev.regs ∧ e.vci = s.dev.vci) ∧
  (∀ (s : State) (n : Fin 32) (m : Master) (v : Word), s.dev.fenced (Reg.mbxLock n) = false → s.dev.reaches m = true →
    Does (.mbxLockRelease n m v) s fun e =>
      (v = 0 → s.dev.pairOwner n = ownerOf m →
        e.pairOwner n = 0 ∧ e.rn Reg.mbxBadrel = s.dev.rn Reg.mbxBadrel) ∧
      ((v ≠ 0 ∨ s.dev.pairOwner n ≠ ownerOf m) →
        e.pairOwner n = s.dev.pairOwner n ∧ e.rn Reg.mbxBadrel = (s.dev.rn Reg.mbxBadrel + 1) % 2 ^ 32) ∧
      onlyRegsAct [Reg.mbxLock n, Reg.mbxBadrel] s.dev e) ∧
  -- a master that cannot act changes nothing
  (∀ (s : State) (n : Fin 32) (m : Master) (v : Word), s.dev.reaches m = false → (∀ k, m ≠ .service k) →
    Does (.mbxLockRelease n m v) s fun e => e = s.dev) ∧
  -- in a fenced block every read returns 0 and counts, and a write is ignored and counts (R353)
  (∀ (s : State) (n : Fin 32) (ms : List Master), s.dev.fenced (Reg.mbxLock n) = true → ms ≠ [] → ms.all s.dev.reaches = true →
    Does (.mbxLockRead n ms) s fun e =>
      e.lastRead = ms.map (fun _ => 0) ∧ e.rn Reg.glbFencedAcc = (s.dev.rn Reg.glbFencedAcc + ms.length) % 2 ^ 32 ∧
      onlyRegsAct [Reg.glbFencedAcc] s.dev { e with lastRead := s.dev.lastRead }) ∧
  (∀ (s : State) (n : Fin 32) (m : Master) (v : Word), s.dev.fenced (Reg.mbxLock n) = true → s.dev.reaches m = true →
    Does (.mbxLockRelease n m v) s fun e =>
      e.rn Reg.glbFencedAcc = (s.dev.rn Reg.glbFencedAcc + 1) % 2 ^ 32 ∧ onlyRegsAct [Reg.glbFencedAcc] s.dev e)

/-- Mailbox words (R367, R368, R385, R388): a word from the owner into an empty mailbox is accepted and waits for the MP; from
another master it is denied, over a full one it is refused. A read of M2H data by the owner empties the mailbox. -/
def Piece.MailboxWords : Prop :=
  (∀ (s : State) (n : Fin 32) (m : Master) (v : Word), s.dev.fenced (Reg.h2mData n) = false → s.dev.reaches m = true →
    s.dev.pairOwner n = ownerOf m → s.dev.h2mFull n = false →
    Does (.h2mDataWrite n m v) s fun e =>
      e.reg (Reg.h2mData n) = v ∧ e.h2mFull n = true ∧ e.flag (Reg.h2mAck n) 31 = false ∧ e.vci.scanDue = true ∧
      e.vci.issuers.get 0 n = ownerOf m ∧ keepsRegs [Reg.h2mData n, Reg.h2mStatus n, Reg.h2mAck n] s.dev e ∧ keepsMem s.dev e) ∧
  (∀ (s : State) (n : Fin 32) (m : Master) (v : Word), s.dev.fenced (Reg.h2mData n) = false → s.dev.reaches m = true →
    (s.dev.pairOwner n ≠ ownerOf m ∨ s.dev.h2mFull n = true) →
    Does (.h2mDataWrite n m v) s fun e =>
      e.rn Reg.mbxDenied = (s.dev.rn Reg.mbxDenied + b2n (s.dev.pairOwner n != ownerOf m)) % 2 ^ 32 ∧
      e.rn Reg.mbxOverwrite = (s.dev.rn Reg.mbxOverwrite + b2n (s.dev.pairOwner n == ownerOf m)) % 2 ^ 32 ∧
      onlyRegsAct [Reg.mbxDenied, Reg.mbxOverwrite] s.dev e) ∧
  (∀ (s : State) (n : Fin 32) (k : Fin 16) (m : Master) (v : Word), s.dev.fenced (Reg.vciArgs (16 * n + k)) = false → s.dev.reaches m = true →
    (s.dev.pairOwner n = ownerOf m → s.dev.h2mFull n = false → Does (.vciArgWrite n k m v) s fun e =>
      e.reg (Reg.vciArgs (16 * n + k)) = v ∧ onlyRegsAct [Reg.vciArgs (16 * n + k)] s.dev e) ∧
    (s.dev.pairOwner n ≠ ownerOf m → Does (.vciArgWrite n k m v) s fun e =>
      e.rn Reg.mbxDenied = (s.dev.rn Reg.mbxDenied + 1) % 2 ^ 32 ∧ onlyRegsAct [Reg.mbxDenied] s.dev e)) ∧
  (∀ (s : State) (n : Fin 32) (m : Master), s.dev.fenced (Reg.m2hData n) = false → s.dev.reaches m = true →
    (s.dev.pairOwner n = ownerOf m → Does (.m2hDataRead n m) s fun e =>
      e.lastRead = [s.dev.reg (Reg.m2hData n)] ∧ e.m2hFull n = false ∧
      onlyRegsAct [Reg.m2hStatus n] s.dev { e with lastRead := s.dev.lastRead }) ∧
    (s.dev.pairOwner n ≠ ownerOf m → Does (.m2hDataRead n m) s fun e =>
      e = { s.dev.activity with lastRead := [0] })) ∧
  (∀ (s : State) (n : Fin 32) (m : Master) (v : Word), s.dev.fenced (Reg.m2hAck n) = false → s.dev.reaches m = true →
    (s.dev.pairOwner n = ownerOf m → Does (.m2hAckWrite n m v) s fun e =>
      e.rn (Reg.m2hAck n) = putBits v.toNat 30 16 0 ∧
      e.rn Reg.vciNaks = (s.dev.rn Reg.vciNaks + b2n (v.toNat % 65536 != 0)) % 2 ^ 32 ∧
      onlyRegsAct [Reg.m2hAck n, Reg.vciNaks] s.dev e) ∧
    (s.dev.pairOwner n ≠ ownerOf m → Does (.m2hAckWrite n m v) s fun e =>
      e.rn Reg.mbxDenied = (s.dev.rn Reg.mbxDenied + 1) % 2 ^ 32 ∧ onlyRegsAct [Reg.mbxDenied] s.dev e))

/-- Locks and mailbox words. Choices of the model in it: a command whose conditions do not hold leaves the machine as it was (log
entry 7). -/
def Obligations.LocksAndMailboxes : Prop := Piece.PairLocks ∧ Piece.MailboxWords

/-- The MP's scan and its replies (R369, R386, R388, R390, R394): each full mailbox is acknowledged and emptied; a command that
is accepted joins the queue of its kind. The next reply of a pair is written once its mailbox is empty, and its owner is
told: the host by vector 3, the MP, a core or the Sentinel by its mailbox interrupt (R361, R368). Choices of the model in it:
a command whose conditions do not hold leaves the machine as it was (log entry 7); the order of the acknowledgement checks
(log entry 22). -/
def Obligations.ScansAndCompletions : Prop :=
  (∀ (s : State) (n : Fin 32), s.dev.serving = true → (List.range 32).filter s.dev.h2mFull = [n.val] →
    let c := s.dev.takenCmd n
    let code := if s.dev.ackCode c = 0 ∧ s.dev.tagBusy c.tag = true then 3 else s.dev.ackCode c
    Does .mpScan s fun e =>
      e.h2mFull n = false ∧ e.rn (Reg.h2mAck n) = 0x80000000 + code ∧ e.vci.scanDue = false ∧
      e.rn Reg.vciScans = (s.dev.rn Reg.vciScans + 1) % 2 ^ 32 ∧
      (code = 0 → isJobOp c.op = true → e.vci.jobq = s.dev.vci.jobq ++ [c] ∧ e.vci.active = s.dev.vci.active) ∧
      (code = 0 → isJobOp c.op = false → e.vci.active = s.dev.vci.active ++ [c] ∧ e.vci.jobq = s.dev.vci.jobq) ∧
      (code ≠ 0 → e.vci.jobq = s.dev.vci.jobq ∧ e.vci.active = s.dev.vci.active ∧
        e.rn Reg.vciRefused = (s.dev.rn Reg.vciRefused + 1) % 2 ^ 32)) ∧
  (∀ s : State, s.dev.serving = true → (List.range 32).filter s.dev.h2mFull = [] →
    Does .mpScan s fun e => e = { s.dev with vci := { s.dev.vci with scanDue := false } }) ∧
  (∀ (s : State) (n : Fin 32) (r : Reply) (rs : List Reply), s.dev.vci.replies.get [] n = r :: rs → s.dev.m2hFull n = false →
    r.res.length < 16 →
    let o := s.dev.pairOwner n
    Does (.vciCompletionDeliver n) s fun e =>
      (o = 1 → e.rn (Reg.intVecCount 3) = (s.dev.rn (Reg.intVecCount 3) + 1) % 2 ^ 32) ∧
      (o = 3 → e.mp.mbxInts = s.dev.mp.mbxInts + 1) ∧
      (∀ k : Fin 16, e.hart k = if o = 4 + k.val then { s.dev.hart k with mbxInts := (s.dev.hart k).mbxInts + 1 } else s.dev.hart k) ∧
      (o = 20 → e.sen.mbxInts = s.dev.sen.mbxInts + 1) ∧
      e.m2hFull n = true ∧ e.vci.replies.get [] n = rs ∧ e.rn (Reg.m2hData n) = replyWord r ∧
      e.rn (Reg.vciRess (16 * n)) = replyWord r ∧
      (∀ k : Fin 15, k.val < r.res.length → e.rn (Reg.vciRess (16 * n + k + 1)) = r.res.getD k 0 % 2 ^ 32) ∧
      (o ≠ 1 → keepsMem s.dev e)) ∧
  (∀ (s : State) (n : Fin 32), (s.dev.vci.replies.get [] n = [] ∨ s.dev.m2hFull n = true) →
    Does (.vciCompletionDeliver n) s fun e => e = s.dev)

/-- BAR2 (R355): an access of the host to Pond memory or to the open part of DDR5 reads or writes it; any other changes no
memory; with the function in D3hot, the link down or the device in SENTINEL none arrives. Poisoned writes are counted and
recorded (R357). -/
def Piece.DeviceMemoryOverBar2 : Prop :=
  (∀ (s : State) (off : BitVec 34) (data : List Byte), s.dev.reaches .host = true → data ≠ [] →
    let a := s.dev.rn64 Reg.hifBar2BaseLo Reg.hifBar2BaseHi + off.toNat
    let n := data.length
    let p := s.dev.placeOf a n
    (p = .pond → Does (.bar2Access true off n data) s fun e =>
      e.bytes a n = data ∧ e.regs = s.dev.regs ∧ keepsMemBut a n s.dev e) ∧
    (p = .ddr → ddrBase + 0x40000000 ≤ a → Does (.bar2Access true off n data) s fun e =>
      e.bytes a n = data ∧ e.rn Reg.hifBar2Ca = s.dev.rn Reg.hifBar2Ca ∧ keepsMemBut a n s.dev e) ∧
    (p ≠ .pond → (p ≠ .ddr ∨ a < ddrBase + 0x40000000) → Does (.bar2Access true off n data) s fun e =>
      e.rn Reg.hifBar2Ca = (s.dev.rn Reg.hifBar2Ca + 1) % 2 ^ 32 ∧ onlyRegsAct [Reg.hifBar2Ca, Reg.pondOffacc] s.dev e)) ∧
  (∀ (s : State) (off : BitVec 34) (n : Nat), s.dev.reaches .host = true → 0 < n → n < 4096 →
    let a := s.dev.rn64 Reg.hifBar2BaseLo Reg.hifBar2BaseHi + off.toNat
    let p := s.dev.placeOf a n
    (p = .pond → s.dev.readBad a n = false → Does (.bar2Access false off n []) s fun e =>
      e.lastRead = asWords (s.dev.bytes a n) ∧ e.regs = s.dev.regs ∧ keepsMem s.dev e) ∧
    (p = .ddr → ddrBase + 0x40000000 ≤ a → s.dev.readBad a n = false → Does (.bar2Access false off n []) s fun e =>
      e.lastRead = asWords (s.dev.bytes a n) ∧ e.rn Reg.hifBar2Ca = s.dev.rn Reg.hifBar2Ca ∧ keepsMem s.dev e) ∧
    (p ≠ .pond → (p ≠ .ddr ∨ a < ddrBase + 0x40000000) → Does (.bar2Access false off n []) s fun e =>
      e.lastRead = List.replicate (ceilDiv n 4) 0xFFFFFFFF ∧
      e.rn Reg.hifBar2Ca = (s.dev.rn Reg.hifBar2Ca + 1) % 2 ^ 32 ∧ keepsMem s.dev e)) ∧
  (∀ (s : State) (w : Bool) (off : BitVec 34) (n : Nat) (data : List Byte), s.dev.reaches .host = false →
    Does (.bar2Access w off n data) s fun e => e = s.dev) ∧
  (∀ d : Dev, (d.pwr.d3hot = true ∨ d.pwr.link = .l2 ∨ d.pwr.link = .down ∨ d.pwrState = psSentinel) → d.reaches .host = false) ∧
  (∀ s : State, Does .poisonedWrite s fun e =>
    e.rn Reg.hifPoisonRx = (s.dev.rn Reg.hifPoisonRx + 1) % 2 ^ 32 ∧ e.pcie.poisoned = true ∧
    onlyRegs [Reg.hifPoisonRx] s.dev { e with pcie := s.dev.pcie })

/-- Requests wait for Bus Master Enable (R356); interrupts (R362): a vector that is pending when its SEEN is written sends its
message, and unmasking sends the message held. -/
def Piece.RequestsAndInterrupts : Prop :=
  (∀ s : State, s.dev.hostWait = [] → (List.range 32).all (fun r => (s.dev.ring r).sent.isEmpty) = true →
    Does .bmeRelease s fun e =>
      e.bme = true ∧ e.flag Reg.hifStat 4 = true ∧ keepsRegs [Reg.hifStat] s.dev e ∧ keepsMem s.dev e) ∧
  (∀ (s : State) (q : HostReq) (v : Nat), s.dev.hostWait = [q] → q.sender = .msix v →
    (List.range 32).all (fun r => (s.dev.ring r).sent.isEmpty) = true →
    Does .bmeRelease s fun e =>
      e.hostWait = [] ∧ e.bytes (hostBase + q.addr) q.data.length = q.data ∧ keepsMemBut 0 0 s.dev e) ∧
  (∀ (s : State) (v : Fin 64) (x : Word), s.dev.reaches .host = true → s.dev.fenced (Reg.intVecSeen v) = false →
    (x = s.dev.reg (Reg.intVecCount v) → Does (.vectorSeenWrite v x) s fun e =>
      e.vectorPending v = false ∧ onlyRegsAct [Reg.intVecSeen v] s.dev e) ∧
    (x ≠ s.dev.reg (Reg.intVecCount v) → s.dev.bme = true → s.dev.masked v = false →
      Does (.vectorSeenWrite v x) s fun e =>
        e.vectorPending v = true ∧
        e.num (hostBase + s.dev.rn64 (Reg.msixAddrLo v) (Reg.msixAddrHi v) % 2 ^ 47) 4 = s.dev.rn (Reg.msixData v) ∧
        keepsMemBut 0 0 s.dev e) ∧
    (x ≠ s.dev.reg (Reg.intVecCount v) → s.dev.flag (Reg.msixCtl v) 0 = true →
      Does (.vectorSeenWrite v x) s fun e =>
        e.flag (Reg.msixPba (v.val / 32)) (v.val % 32) = true ∧ keepsMem s.dev e)) ∧
  (∀ (s : State) (v : Fin 64), s.dev.flag (Reg.msixPba (v.val / 32)) (v.val % 32) = true → s.dev.fnMask = false →
    s.dev.flag Reg.hifStat 3 = true → s.dev.reaches .host = true → s.dev.fenced (Reg.msixCtl v) = false →
    Does (.msixUnmask (.vector v)) s fun e =>
      e.flag (Reg.msixCtl v) 0 = false ∧ e.flag (Reg.msixPba (v.val / 32)) (v.val % 32) = false ∧
      (s.dev.bme = true →
        e.num (hostBase + s.dev.rn64 (Reg.msixAddrLo v) (Reg.msixAddrHi v) % 2 ^ 47) 4 = s.dev.rn (Reg.msixData v))) ∧
  (∀ (s : State) (v : Fin 64), s.dev.reaches .host = true → s.dev.fenced (Reg.msixCtl v) = false →
    s.dev.flag (Reg.msixPba (v.val / 32)) (v.val % 32) = false →
    Does (.msixUnmask (.vector v)) s fun e =>
      e.flag (Reg.msixCtl v) 0 = false ∧ onlyRegsAct [Reg.msixCtl v] s.dev e) ∧
  (∀ (s : State) (v : Fin 64) (x : Word), s.dev.reaches .host = false →
    (Does (.msixUnmask (.vector v)) s fun e => e = s.dev) ∧ Does (.vectorSeenWrite v x) s fun e => e = s.dev) ∧
  (∀ s : State, Does (.msixUnmask (.function true)) s fun e =>
    e.fnMask = true ∧ e.flag Reg.hifStat 2 = true ∧ e.flag Reg.hifStat 3 = true ∧ (∀ v : Fin 64, e.masked v = true) ∧
    onlyRegs [Reg.hifStat] s.dev { e with fnMask := s.dev.fnMask }) ∧
  (∀ s : State, Does (.msixUnmask (.function false)) s fun e =>
    e.fnMask = false ∧ e.flag Reg.hifStat 2 = false ∧ e.flag Reg.hifStat 3 = true ∧
    (∀ v : Fin 64, s.dev.flag (Reg.msixCtl v) 0 = false → e.flag (Reg.msixPba (v.val / 32)) (v.val % 32) = false) ∧
    (s.dev.reg (Reg.msixPba 0) = 0 → s.dev.reg (Reg.msixPba 1) = 0 →
      onlyRegs [Reg.hifStat] s.dev { e with fnMask := s.dev.fnMask }))

/-- BAR2, host requests and interrupts. Choices of the model in it: a command whose conditions do not hold leaves the machine as
it was (log entry 7). -/
def Obligations.DeviceMemoryRequestsAndInterrupts : Prop := Piece.DeviceMemoryOverBar2 ∧ Piece.RequestsAndInterrupts

/-- The function's states (R357, R358, R360, R408): D3hot stops the channels. Each host-side reset, with requests waiting or
during a job too, leaves requests, masks and mailbox pairs of the host as at reset and discards what waits, and the rest of
the device goes on. Choices of the model in it: a command whose conditions do not hold leaves the machine as it was (log
entry 7). -/
def Obligations.FunctionStatesAndResets : Prop :=
  (∀ s : State, Does .d3hotEntry s fun e =>
    e.pwr.d3hot = true ∧ e.fld Reg.hifStat 9 8 = 3 ∧ ∀ c : Fin 16, e.cdRun c = false) ∧
  (∀ s : State, Does .d3hotExit s fun e =>
    e.pwr.d3hot = false ∧ e.fld Reg.hifStat 9 8 = 0 ∧ onlyRegs [Reg.hifStat] s.dev { e with pwr := s.dev.pwr }) ∧
  (∀ (s : State) (l : Fin 3), Does (.pcieLinkPowerStateChange l) s fun e =>
    (l = 0 → e.pins.perstN = true) ∧
    (l = 0 → s.dev.pwrState = psSentinel → s.dev.pwr.exitTo = none → e.pwr.link = s.dev.pwr.link) ∧
    (l = 0 → (s.dev.pwrState ≠ psSentinel ∨ s.dev.pwr.exitTo ≠ none) →
      e.pwr.link = .l0 ∧ e.flag Reg.hifStat 0 = true ∧ e.pins.wakeN = true ∧ e.pwr.exitTold = false ∧
      (s.dev.pwr.exitTold = true → e.rn (Reg.intVecCount 4) = (s.dev.rn (Reg.intVecCount 4) + 1) % 2 ^ 32)) ∧
    (l ≠ 0 → (s.dev.pwr.link = .down ∨ s.dev.pwrState = psSentinel) → e = s.dev) ∧
    (l ≠ 0 → s.dev.pwr.link ≠ .down → s.dev.pwrState ≠ psSentinel →
      e = { s.dev with pwr := { s.dev.pwr with link := if l = 1 then .l1 else .l2 } }) ∧
    (s.dev.pwr.exitTold = false →
      keepsRegs [Reg.hifStat, Reg.pwrPadHold, Reg.pwrWakeCause, Reg.pwrWakes, Reg.pwrAborts] s.dev e ∧ keepsMem s.dev e)) ∧
  (∀ (s : State) (why : HostReset),
    Does (.hostSideReset why) s fun e =>
      e.bme = false ∧ e.fnMask = false ∧ e.pwr.d3hot = false ∧ e.hostWait = [] ∧ e.pcie = {} ∧
      e.rn64 Reg.hifBar2BaseLo Reg.hifBar2BaseHi = 0 ∧
      (∀ v : Fin 64, e.rn (Reg.msixCtl v) = 1 ∧ e.rn (Reg.intVecSeen v) = 0 ∧
        (s.dev.rn (Reg.intVecCount v) ≠ 0 → e.flag (Reg.msixPba (v.val / 32)) (v.val % 32) = true)) ∧
      (∀ c : Fin 16, e.cdRun c = false ∧ e.flag (Reg.cdCtl c) 0 = false ∧ (s.dev.cdRun c = true → (e.conduit c).active = [])) ∧
      (∀ r : Fin 32, e.flag (Reg.hrCtl r) 0 = false) ∧
      (∀ n : Fin 32, s.dev.pairOwner n = 1 → e.pairOwner n = 0 ∧ e.h2mFull n = false ∧ e.m2hFull n = false) ∧
      (∀ n : Fin 32, s.dev.pairOwner n ≠ 1 → e.pairOwner n = s.dev.pairOwner n) ∧
      e.rn Reg.hifResets = (s.dev.rn Reg.hifResets + 1) % 2 ^ 32 ∧
      -- what waits is not performed: it counts, and a ring places its records again (R356)
      e.rn Reg.hifResetDiscards = (s.dev.rn Reg.hifResetDiscards + s.dev.hostWait.length) % 2 ^ 32 ∧
      (∀ r : Fin 32, (e.ring r).put = (s.dev.ring r).sent ++ (s.dev.ring r).put ∧ (e.ring r).sent = []) ∧
      e.fld Reg.jnRqRd 15 0 = s.dev.fld Reg.jnRqRd 15 0 ∧
      -- it is no device reset: time, intake, arrays and a running job go on
      e.tb = s.dev.tb ∧ e.links = s.dev.links ∧ e.strms = s.dev.strms ∧ e.flume = s.dev.flume ∧ e.ncs = s.dev.ncs ∧
      e.routers = s.dev.routers ∧ e.jn = s.dev.jn ∧ e.bar = s.dev.bar ∧ e.ports = s.dev.ports ∧ e.harts = s.dev.harts ∧
      e.ledger = s.dev.ledger ∧ e.jobState = s.dev.jobState ∧ e.flag Reg.mrStat 1 = s.dev.flag Reg.mrStat 1) ∧
  -- a report whose writing waits ends with an error (R474)
  (∀ (s : State) (why : HostReset), s.dev.hostWait.any (fun q => q.sender == .report) = true →
    Does (.hostSideReset why) s fun e => e.flag Reg.secAttStat 31 = false ∧ e.fld Reg.secAttStat 15 0 = 3)

/-- The next descriptor of a channel lies before HEAD, both counted from TAIL (R373). -/
def cdAhead (d : Dev) (c : Nat) : Bool :=
  decide (((d.conduit c).next + 2 ^ 32 - d.rn (Reg.cdTail c)) % 2 ^ 32 < (d.rn (Reg.cdHead c) + 2 ^ 32 - d.rn (Reg.cdTail c)) % 2 ^ 32)

/-- Conduit DMA (R371-R375): enabling a channel clears it; a HEAD too far ahead stops it with cause 1; a descriptor starts when
the ring, the completion ring and the channel have room; one that completes is moved, reported and counted. -/
def Piece.ConduitChannels : Prop :=
  (∀ (s : State) (c : Fin 16) (v : Word), s.dev.fenced (Reg.cdCtl c) = false →
    (v.getLsbD 0 = true → s.dev.flag (Reg.cdCtl c) 0 = false → Does (.conduitEnable c v) s fun e =>
      (s.dev.pwr.d3hot = false → e.cdRun c = true) ∧
      (s.dev.pwr.d3hot = true → e.cdRun c = false ∧ e.fld (Reg.cdStat c) 10 8 = 4) ∧ e.rn (Reg.cdHead c) = 0 ∧ e.rn (Reg.cdTail c) = 0 ∧ e.rn (Reg.cdCplwr c) = 0 ∧
      (e.conduit c).next = 0 ∧ (e.conduit c).active = [] ∧ (s.dev.pwr.d3hot = false → keepsMem s.dev e)) ∧
    (v.getLsbD 0 = false → s.dev.flag (Reg.cdCtl c) 0 = true → s.dev.cdRun c = true → (s.dev.conduit c).active = [] →
      Does (.conduitEnable c v) s fun e => e.cdRun c = false ∧ e.fld (Reg.cdStat c) 10 8 = 2)) ∧
  (∀ (s : State) (c : Fin 16) (v : Word), s.dev.fenced (Reg.cdHead c) = false → s.dev.cdRun c = true →
    (s.dev.conduit c).active = [] →
    Does (.conduitHeadWrite c v) s fun e =>
      e.reg (Reg.cdHead c) = v ∧
      ((v.toNat + 2 ^ 32 - s.dev.rn (Reg.cdTail c)) % 2 ^ 32 ≤ s.dev.cdSize c →
        e.cdRun c = true ∧ onlyRegsAct [Reg.cdHead c] s.dev e) ∧
      (s.dev.cdSize c < (v.toNat + 2 ^ 32 - s.dev.rn (Reg.cdTail c)) % 2 ^ 32 →
        e.cdRun c = false ∧ e.fld (Reg.cdStat c) 10 8 = 1)) ∧
  (∀ (s : State) (c : Fin 16), s.dev.cdRun c = true → cdAhead s.dev c = true →
    ((s.dev.conduit c).next + 2 ^ 32 - s.dev.rn (Reg.cdCplrd c)) % 2 ^ 32 < s.dev.cdSize c →
    (s.dev.conduit c).active = [] → s.dev.bme = true →
    Does (.descriptorStart c) s fun e =>
      (e.conduit c).active = [(s.dev.cdFetch c (s.dev.conduit c).next).1] ∧
      (e.conduit c).next = ((s.dev.conduit c).next + 1) % 2 ^ 32 ∧ e.fld (Reg.cdStat c) 6 4 = 1 ∧
      keepsRegs [Reg.cdStat c] s.dev e ∧ keepsMem s.dev e) ∧
  (∀ (s : State) (c : Fin 16), (s.dev.cdRun c = false ∨ cdAhead s.dev c = false) →
    Does (.descriptorStart c) s fun e => e = s.dev) ∧
  (∀ (s : State) (c : Fin 16) (x : Desc), (s.dev.conduit c).active = [x] → s.dev.bme = true → x.int = false →
    x.bad = false → x.index < 2 ^ 32 → s.dev.placeOf x.src x.len = .pond → s.dev.placeOf x.dst x.len = .pond →
    s.dev.badMem.cells = [] → 0 < x.len →
    Does (.descriptorComplete c (BitVec.ofNat 32 x.index)) s fun e =>
      e.bytes x.dst x.len = s.dev.bytes x.src x.len ∧ (e.conduit c).active = [] ∧
      e.rn (Reg.cdDone c) = (s.dev.rn (Reg.cdDone c) + 1) % 2 ^ 32 ∧
      e.rn (Reg.cdCplwr c) = (s.dev.rn (Reg.cdCplwr c) + 1) % 2 ^ 32 ∧ e.rn (Reg.cdErrs c) = s.dev.rn (Reg.cdErrs c) ∧
      keepsMemBut x.dst x.len s.dev e)

/-- Host rings (R376-R378): enabling a ring takes WR to RD; the host moves RD; a record that fits is written at WR, a record
longer than the ring is refused. -/
def Piece.HostRings : Prop :=
  (∀ (s : State) (r : Fin 32) (v : Word), s.dev.fenced (Reg.hrCtl r) = false →
    Does (.hostRingEnable r v) s fun e =>
      e.rn (Reg.hrCtl r) = v.toNat % 4 ∧
      e.rn (Reg.hrWr r) = (if v.getLsbD 0 && !s.dev.ringOn r then s.dev.rn (Reg.hrRd r) else s.dev.rn (Reg.hrWr r)) ∧
      onlyRegsAct [Reg.hrCtl r, Reg.hrWr r] s.dev e) ∧
  (∀ (s : State) (r : Fin 32) (v : Word),
    (s.dev.reaches .host = true → s.dev.fenced (Reg.hrRd r) = false →
      Does (.hostRingRdWrite r v) s fun e => e.reg (Reg.hrRd r) = v ∧ onlyRegsAct [Reg.hrRd r] s.dev e) ∧
    (s.dev.reaches .host = false → Does (.hostRingRdWrite r v) s fun e => e = s.dev)) ∧
  (∀ (s : State) (r : Fin 32), (s.dev.ring r).put = [] → Does (.hostRingPut r []) s fun e => e = s.dev) ∧
  (∀ (s : State) (r : Fin 32) (bs : List Byte) (l : List (List Byte)), (s.dev.ring r).put = bs :: l → s.dev.ringOn r = true →
    s.dev.rn (Reg.hrSize r) < recUnits bs →
    Does (.hostRingPut r []) s fun e =>
      (e.ring r).put = l ∧ e.rn (Reg.hrRefused r) = (s.dev.rn (Reg.hrRefused r) + 1) % 2 ^ 32 ∧
      e.rn (Reg.hrWr r) = s.dev.rn (Reg.hrWr r) ∧ keepsMem s.dev e) ∧
  (∀ (s : State) (r : Fin 32) (bs : List Byte) (l : List (List Byte)), (s.dev.ring r).put = bs :: l → s.dev.ringOn r = true →
    let p := s.dev.rn (Reg.hrWr r) % s.dev.rn (Reg.hrSize r)
    recUnits bs + p ≤ s.dev.rn (Reg.hrSize r) → s.dev.ringUsed r + recUnits bs ≤ s.dev.rn (Reg.hrSize r) →
    fromQueue bs = false → s.dev.bme = true → s.dev.flag (Reg.hrCtl r) 1 = false →
    s.dev.ringBase r + 64 * p + bs.length ≤ 2 ^ 47 →
    s.dev.rn64 (Reg.hrWrbackLo r) (Reg.hrWrbackHi r) + 4 ≤ s.dev.ringBase r →
    Does (.hostRingPut r []) s fun e =>
      (e.ring r).put = l ∧ e.rn (Reg.hrWr r) = (s.dev.rn (Reg.hrWr r) + recUnits bs) % 2 ^ 32 ∧
      e.bytes (hostBase + s.dev.ringBase r + 64 * p) bs.length = bs ∧
      e.num (hostBase + s.dev.rn64 (Reg.hrWrbackLo r) (Reg.hrWrbackHi r)) 4 = e.rn (Reg.hrWr r) ∧
      keepsRegs [Reg.hrWr r] s.dev e)

/-- Conduit DMA channels and host rings. Choices of the model in it: a command whose conditions do not hold leaves the machine as
it was (log entry 7). -/
def Obligations.ConduitsAndRings : Prop := Piece.ConduitChannels ∧ Piece.HostRings

/-- Codewords (R326-R329): one that cannot be corrected is counted and asked for again; a DATA codeword out of sequence is not
taken, nor anything in its slot 0, and is not asked for again; one in sequence gives its packets to the landing buffers of
their virtual channels and moves the sequence on. A TIMESYNC packet leaves in slot 1, before every other packet of its
codeword (R340). -/
def Piece.CodewordsReceived : Prop :=
  (∀ (s : State) (p : Fin 4) (cw : Codeword), (s.dev.flag (Reg.lkPortStat p) 1 = false ∨ s.dev.clocksOn = false) →
    Does (.codewordReceive p cw) s fun e => e = s.dev) ∧
  (∀ (s : State) (p : Fin 4) (cw : Codeword), s.dev.flag (Reg.lkPortStat p) 1 = true → s.dev.clocksOn = true → cw.ok = false →
    Does (.codewordReceive p cw) s fun e =>
      (e.port p).nak = true ∧ (e.port p).rxNext = (s.dev.port p).rxNext ∧ (e.port p).landing = (s.dev.port p).landing ∧
      e.rn (Reg.lkPortUncorr p) = (s.dev.rn (Reg.lkPortUncorr p) + 1) % 2 ^ 32 ∧ keepsMem s.dev e) ∧
  (∀ (s : State) (p : Fin 4) (cw : Codeword), s.dev.flag (Reg.lkPortStat p) 1 = true → s.dev.clocksOn = true → cw.ok = true → cw.kind = 0 →
    (cw.cwseq.toNat ≠ (s.dev.port p).rxNext → Does (.codewordReceive p cw) s fun e =>
      (e.port p).nak = (s.dev.port p).nak ∧ (e.port p).rxNext = (s.dev.port p).rxNext ∧
      (e.port p).landing = (s.dev.port p).landing ∧
      ((s.dev.port p).egress = ⟨[]⟩ → (s.dev.port p).times = [] → e.port p = s.dev.port p)) ∧
    (cw.cwseq.toNat = (s.dev.port p).rxNext → s.dev.inUse p = true → ∀ q : LeatPacket, cw.packets = [q] →
      Does (.codewordReceive p cw) s fun e =>
        (e.port p).nak = false ∧ (e.port p).rxNext = ((s.dev.port p).rxNext + 1) % 1024 ∧
        (let v := vcOf (pkClass q.pkt.toNat) + 4 * b2n q.set
         (e.port p).landing.get [] v =
           (s.dev.port p).landing.get [] v ++ [tagged q.pkt.toNat (b2n q.set) q.src q.dst 7]) ∧
        e.rn64 (Reg.lkPortCwLo p) (Reg.lkPortCwHi p) = (s.dev.rn64 (Reg.lkPortCwLo p) (Reg.lkPortCwHi p) + 1) % 2 ^ 64 ∧
        keepsMem s.dev e)) ∧
  (∀ (d : Dev) (p : Fin 4) (t : TimeOut) (l : List TimeOut), d.inUse p = true → (d.port p).replay.length < 64 →
    (d.port p).times = t :: l → (d.port p).used.get 0 3 < Dev.landSize 3 →
    let r := ((d.transmit p).port p).replay
    r.length = (d.port p).replay.length + 1 ∧ r.take (d.port p).replay.length = (d.port p).replay ∧
      r.getLast?.map (fun c => (c.seq, c.packets.head?)) = some ((d.port p).txSeq, some t.pkt) ∧
      ((d.transmit p).port p).times = l)

/-- Training and qualification (R330, R332, R461, R462): training records the partner and starts the sequences; a good run
qualifies the port, a second failed one leaves it unqualified. -/
def Piece.TrainingAndQualification : Prop :=
  (∀ (s : State) (p : Fin 4) (sysid : Word) (v : Fin 16) (q : Fin 4), ((s.dev.isC2 = true ∧ p.val % 2 = 0) ∨ 2 ≤ s.dev.pwrState ∨
      s.dev.fld Reg.secBootStat 3 0 < 10) →
    Does (.portTrain p sysid v q) s fun e => e = s.dev) ∧
  (∀ (s : State) (p : Fin 4) (sysid : Word) (v : Fin 16) (q : Fin 4), (s.dev.isC2 = false ∨ p.val % 2 = 1) → s.dev.pwrState < 2 →
    10 ≤ s.dev.fld Reg.secBootStat 3 0 →
    Does (.portTrain p sysid v q) s fun e =>
      e.flag (Reg.lkPortStat p) 1 = true ∧
      e.rn (Reg.lkPortPartner p) =
        b2n (sysid.toNat == s.dev.rn Reg.lkSysid) * 2 ^ 31 + v.val * 2 ^ 16 + q.val * 2 ^ 12 ∧
      (e.port p).sysid = sysid.toNat ∧ (e.port p).txSeq = 0 ∧ (e.port p).rxNext = 0 ∧ (e.port p).replay = [] ∧
      (bit s.dev.pwr.portsWere p = false → e.rn (Reg.lkPortQual p) = 0) ∧ e.flag Reg.pwrPadHold 4 = false ∧
      (s.dev.jobOn = true → bit s.dev.pwr.portsWere p = false → e.inUse p = s.dev.inUse p) ∧
      (e.inUse p = true → s.dev.inUse p = false →
        e.flag (Reg.lkPortStat p) 3 = false ∧ e.flag (Reg.lkPortQual p) 1 = true ∧ e.flag (Reg.lkPortCfg p) 31 = true) ∧
      keepsMem s.dev e) ∧
  (∀ (s : State) (p : Fin 4) (errs : Nat) (bad peer : Bool), s.dev.flag (Reg.lkPortStat p) 1 = true →
    s.dev.flag (Reg.lkPortQual p) 0 = false →
    Does (.portQualify p errs bad peer) s fun e =>
      e.rn (Reg.secQualBiterr p) = min errs 0xFFFFFFFF ∧
      (errs ≤ 2147 → bad = false → peer = true → e.rn (Reg.lkPortQual p) = 3) ∧
      ((2147 < errs ∨ bad = true ∨ peer = false) → e.flag (Reg.lkPortQual p) 1 = s.dev.flag (Reg.lkPortQual p) 1 ∨
        e.rn (Reg.lkPortQual p) = 1) ∧
      ((2147 < errs ∨ bad = true ∨ peer = false) → (s.dev.port p).qualFails = 1 → e.rn (Reg.lkPortQual p) = 1) ∧
      ((2147 < errs ∨ bad = true ∨ peer = false) → (s.dev.port p).qualFails = 0 →
        e.flag (Reg.lkPortStat p) 1 = false ∧ (e.port p).qualFails = 1)) ∧
  (∀ (s : State) (p : Fin 4) (errs : Nat) (bad peer : Bool),
    (s.dev.flag (Reg.lkPortStat p) 1 = false ∨ s.dev.flag (Reg.lkPortQual p) 0 = true) →
    Does (.portQualify p errs bad peer) s fun e => e = s.dev) ∧
  -- a change of LK_SYSID holds every trained partner against it again (R330)
  (∀ (d : Dev) (p : Fin 4), d.flag (Reg.lkPortStat p) 1 = true →
    d.showSysid.flag (Reg.lkPortPartner p) 31 = ((d.port p).sysid == d.rn Reg.lkSysid) ∧
    d.showSysid.flag (Reg.lkPortStat p) 3 = (d.flag (Reg.lkPortCfg p) 31 &&
      (!((d.port p).sysid == d.rn Reg.lkSysid) || d.fld (Reg.lkPortPartner p) 19 16 != d.fld (Reg.lkPortCfg p) 19 16 ||
        d.fld (Reg.lkPortPartner p) 13 12 != d.fld (Reg.lkPortCfg p) 13 12)))

/-- Leat codewords, training and qualification. Choices of the model in it: a command whose conditions do not hold leaves the
machine as it was (log entry 7); the order of link packets and the layout of a notice (log entry 9); the fields of a leat
packet beside its 128 bits (log entry 12). -/
def Obligations.LeatCodewordsAndTraining : Prop := Piece.CodewordsReceived ∧ Piece.TrainingAndQualification

/-- A link in use goes down, between jobs (R331): the port leaves UP and INUSE with its cause, its buffers are emptied and it is
counted; what causes a link to go down that is not there changes nothing. -/
def Piece.LinksGoDown : Prop :=
  ∀ (s : State) (p : Fin 4), s.dev.inUse p = true → s.dev.jobOn = false → s.dev.jobDevs ≤ 1 →
    let down (cause : Nat) (e : Dev) : Prop :=
      e.flag (Reg.lkPortStat p) 1 = false ∧ e.inUse p = false ∧ e.fld (Reg.lkPortStat p) 11 8 = cause ∧
      e.rn (Reg.lkPortDowns p) = (s.dev.rn (Reg.lkPortDowns p) + 1) % 2 ^ 32 ∧ (e.port p).replay = [] ∧
      e.rn Reg.lkLinksDown = s.dev.rn Reg.lkLinksDown ∧ keepsMem s.dev e
    Does (.linkLos p) s (down 1) ∧ Does (.linkAlignLoss p) s (down 2) ∧
    ((s.dev.port p).replay.any (fun c => decide (4 ≤ c.resent)) = true → Does (.linkReplayLimit p) s (down 3)) ∧
    ((s.dev.port p).replay.any (fun c => decide (4 ≤ c.resent)) = false → Does (.linkReplayLimit p) s fun e => e = s.dev) ∧
    ((s.dev.port p).replay ≠ [] → Does (.linkAckTimeout p) s (down 4)) ∧
    ((s.dev.port p).replay = [] → Does (.linkAckTimeout p) s fun e => e = s.dev) ∧
    (∀ (sysid : Word) (v : Fin 16) (q : Fin 4),
      let x := b2n (sysid.toNat == s.dev.rn Reg.lkSysid) * 2 ^ 31 + v.val * 2 ^ 16 + q.val * 2 ^ 12
      (s.dev.flag (Reg.lkPortStat p) 1 = true → s.dev.rn (Reg.lkPortPartner p) ≠ x →
        Does (.linkPartnerChange p sysid v q) s fun e => down 5 e ∧ e.rn (Reg.lkPortPartner p) = x ∧ (e.port p).sysid = sysid.toNat) ∧
      (s.dev.rn (Reg.lkPortPartner p) = x → Does (.linkPartnerChange p sysid v q) s fun e => e = s.dev))

/-- A link in use goes down while a job runs (R331, R332, R337, R338): beside what happens between jobs, the link's bit stands in
LK_LINKS_DOWN and a notice goes out through every other port in use; every route takes its reverse path, or is unreachable,
which splits the job; and the copies that a router keeps for a device whose primary path has gone are sent again by the
reverse one, before what waits. -/
def Piece.LinksGoDownDuringAJob : Prop :=
  (∀ (s : State) (p : Fin 4), s.dev.inUse p = true → s.dev.jobOn = true →
    let l := s.dev.fld (Reg.lkPortCfg p) 26 22
    let down := s.dev.reg Reg.lkLinksDown ||| BitVec.ofNat 32 (2 ^ l)
    let lost (cause : Nat) (e : Dev) : Prop :=
      e.flag (Reg.lkPortStat p) 1 = false ∧ e.inUse p = false ∧ e.fld (Reg.lkPortStat p) 11 8 = cause ∧
      e.rn (Reg.lkPortDowns p) = (s.dev.rn (Reg.lkPortDowns p) + 1) % 2 ^ 32 ∧
      e.reg Reg.lkLinksDown = down ∧ bit e.noticed l = true ∧
      (∀ q : Fin 4, q ≠ p → s.dev.inUse q = true →
        clsCtrl + l * 2 ^ 4 ∈ (e.port q).egress.get [] 3 ∨ (e.port q).replay.any (fun c => c.packets.contains (clsCtrl + l * 2 ^ 4)) = true) ∧
      (s.dev.flag Reg.lkLinksDown l = false → ∀ v : Fin 16, s.dev.flag (Reg.lkRoute v) 31 = true →
        (s.dev.reg (Reg.lkRoutePmask v) &&& down = 0 → e.fld (Reg.lkRouteStat v) 1 0 = 0) ∧
        (s.dev.reg (Reg.lkRoutePmask v) &&& down ≠ 0 → s.dev.reg (Reg.lkRouteRmask v) &&& down = 0 →
          e.fld (Reg.lkRouteStat v) 1 0 = 1) ∧
        (s.dev.reg (Reg.lkRoutePmask v) &&& down ≠ 0 → s.dev.reg (Reg.lkRouteRmask v) &&& down ≠ 0 →
          e.fld (Reg.lkRouteStat v) 1 0 = 2 ∧ e.vci.split ≠ none ∧ e.flag Reg.lkStat 4 = true))
    Does (.linkLos p) s (lost 1) ∧ Does (.linkAlignLoss p) s (lost 2) ∧
    ((s.dev.port p).replay.any (fun c => decide (4 ≤ c.resent)) = true → Does (.linkReplayLimit p) s (lost 3)) ∧
    ((s.dev.port p).replay ≠ [] → Does (.linkAckTimeout p) s (lost 4)) ∧
    (∀ (sysid : Word) (v : Fin 16) (q : Fin 4), s.dev.flag (Reg.lkPortStat p) 1 = true →
      s.dev.rn (Reg.lkPortPartner p) ≠ b2n (sysid.toNat == s.dev.rn Reg.lkSysid) * 2 ^ 31 + v.val * 2 ^ 16 + q.val * 2 ^ 12 →
      Does (.linkPartnerChange p sysid v q) s (lost 5))) ∧
  (∀ (d : Dev) (link : Fin 32) (v : Fin 16) (o : Nat), d.flag (Reg.lkRoute v) 31 = true →
    bit (d.rn (Reg.lkRoutePmask v)) link = true → d.routeTo v = some (o, true) →
    ∀ r : Fin 256, d.hasRouter r = true →
      let x := d.router r
      let n := (x.nextSeq.get 0 v + 4096 - x.acked.get 0 v) % 4096
      let e := routeLost link d v
      (e.router r).inject = (List.range n).map (fun i =>
        Inject.mk (tagged (putBits (d.num (d.replayAddr r v ((x.acked.get 0 v + i) % 4096)) 16) 127 127 1) (d.setOut o 0) d.ownDev v o)
          [v.val] pL) ++ x.inject ∧
      (e.router r).nextSeq = x.nextSeq ∧ (e.router r).acked = x.acked ∧ (e.router r).sent = x.sent) ∧
  (∀ (d : Dev) (link : Fin 32) (v : Fin 16), d.flag (Reg.lkRoute v) 31 = true → bit (d.rn (Reg.lkRoutePmask v)) link = true →
    d.routeTo v = none → d.jobOn = true → (routeLost link d v).vci.split ≠ none ∧ (routeLost link d v).routers = d.routers)

/-- Link-down notices (R332): during a job a new one is counted and gains its link a bit of LK_LINKS_DOWN; a second one, and one
between jobs, changes nothing. -/
def Piece.LinkDownNotices : Prop :=
  (∀ (s : State) (p : Fin 4) (l : Fin 32), (bit s.dev.noticed l = true ∨ s.dev.jobOn = false) →
    Does (.linkDownNotice p l) s fun e => e = s.dev) ∧
  (∀ (s : State) (p : Fin 4) (l : Fin 32), bit s.dev.noticed l = false → s.dev.jobOn = true →
    Does (.linkDownNotice p l) s fun e =>
      e.flag Reg.lkLinksDown l = true ∧ bit e.noticed l = true ∧
      e.rn Reg.lkNotices = (s.dev.rn Reg.lkNotices + 1) % 2 ^ 32 ∧ keepsMem s.dev e)

/-- Leat links go down, and their notices. Choices of the model in it: a command whose conditions do not hold leaves the machine
as it was (log entry 7); the order of link packets and the layout of a notice (log entry 9). -/
def Obligations.LeatLinksDown : Prop := Piece.LinksGoDown ∧ Piece.LinksGoDownDuringAJob ∧ Piece.LinkDownNotices

/-- Collectives (R343-R345): a contribution for the present sequence number that has not come before is combined at ROOT, any
other is a duplicate; a member completes with the value that comes down; a collective that takes too long ends without moving
the sequence number. Choices of the model in it: a command whose conditions do not hold leaves the machine as it was (log
entry 7); the fields of a leat packet beside its 128 bits (log entry 12); a collective of a group without this device is
refused (log entry 26). -/
def Obligations.Collectives : Prop :=
  (∀ (s : State) (q : QWord),
    let g := bits q.toNat 11 8
    let src := bits q.toNat 15 12
    let x := s.dev.coll g
    ((x.pend = false ∨ s.dev.collRoot g ≠ s.dev.ownDev ∨ bits q.toNat 31 16 ≠ s.dev.collSeq g ∨
        bit (s.dev.collMembers g) src = false ∨ bit x.seen src = true) →
      Does (.collectiveUp q) s fun e =>
        e.rn Reg.lkCollDups = (s.dev.rn Reg.lkCollDups + 1) % 2 ^ 32 ∧ onlyRegs [Reg.lkCollDups] s.dev e) ∧
    (x.pend = true → s.dev.collRoot g = s.dev.ownDev → bits q.toNat 31 16 = s.dev.collSeq g →
      bit (s.dev.collMembers g) src = true → bit x.seen src = false → s.dev.collOp g ≠ 5 →
      putBits x.seen src src 1 &&& s.dev.collMembers g ≠ s.dev.collMembers g →
      Does (.collectiveUp q) s fun e =>
        (e.coll g).total = combine (s.dev.collOp g) x.total (bits q.toNat 111 48) ∧ (e.coll g).pend = true ∧
        bit (e.coll g).seen src = true ∧ e.regs = s.dev.regs)) ∧
  (∀ (s : State) (q : QWord),
    let g := bits q.toNat 11 8
    ((s.dev.coll g).pend = false ∨ s.dev.collRoot g = s.dev.ownDev ∨ bits q.toNat 31 16 ≠ s.dev.collSeq g →
      Does (.collectiveDown q) s fun e =>
        e.rn Reg.lkCollDups = (s.dev.rn Reg.lkCollDups + 1) % 2 ^ 32 ∧ onlyRegs [Reg.lkCollDups] s.dev e) ∧
    ((s.dev.coll g).pend = true → s.dev.collRoot g ≠ s.dev.ownDev → bits q.toNat 31 16 = s.dev.collSeq g →
      s.dev.activeCmd 0x33 (s.dev.coll g).tag = none →
      Does (.collectiveDown q) s fun e =>
        (e.coll g).pend = false ∧ e.collSeq g = (s.dev.collSeq g + 1) % 65536 ∧
        e.rn64 (Reg.lkCollResLo g) (Reg.lkCollResHi g) = bits q.toNat 111 48 ∧ keepsMem s.dev e)) ∧
  (∀ (s : State) (g : Fin 16), (s.dev.coll g).pend = false → Does (.collectiveTimeout g) s fun e => e = s.dev) ∧
  (∀ (s : State) (g : Fin 16), (s.dev.coll g).pend = true → s.dev.activeCmd 0x33 (s.dev.coll g).tag = none →
    Does (.collectiveTimeout g) s fun e =>
      (e.coll g).pend = false ∧ e.flag (Reg.lkCollStat g) 0 = false ∧ e.collSeq g = s.dev.collSeq g ∧
      (s.dev.jobOn = true → s.dev.vci.split = none → e.vci.split = some (4, g.val, s.dev.rn Reg.mrTick)))

/-- Targets and timeouts (R408, R412): a target of 1 to 3 stands until it is reached, 0 takes it back, a higher code and basic
mode leave it; a timer that runs out in its state sets its target, that of NAP only where no activity has ended IDLE (R410). -/
def Piece.PowerTargets : Prop :=
  (∀ (s : State) (v : Word), s.dev.fenced Reg.pwrCtl = false →
    Does (.powerTargetWrite v) s fun e =>
      e.rn Reg.pwrCtl = v.toNat &&& 0x000F0007 ∧
      (s.dev.basic = false → v.toNat % 8 ≤ 3 → e.pwr.target = v.toNat % 8) ∧
      ((s.dev.basic = true ∨ 3 < v.toNat % 8) → e.pwr.target = s.dev.pwr.target) ∧
      (v.getLsbD 31 = true → e.pwr.wave = bits v.toNat 19 16 ∧ e.pwr.waveEnd = s.dev.tb.tbc + 12800) ∧
      (v.getLsbD 31 = false → e.pwr.wave = s.dev.pwr.wave) ∧ keepsRegs [Reg.pwrCtl] s.dev e ∧ keepsMem s.dev e) ∧
  (∀ s : State, s.dev.fenced Reg.pwrCtl = false →
    Does .wakePatternSend s fun e =>
      e.pwr.wave = s.dev.fld Reg.pwrCtl 19 16 ∧ e.pwr.waveEnd = s.dev.tb.tbc + 12800 ∧ e.regs = s.dev.regs ∧ keepsMem s.dev e) ∧
  (∀ s : State,
    let t (r : Nat) : Nat := s.dev.rn r
    s.dev.pwr.exitTo = none →
    (s.dev.pwrState = psRun → t Reg.pwrIdleTmo ≠ 0 →
      Does .idleTimeout s fun e => psIdle ≤ e.pwr.target ∧ (s.dev.pwr.target = 0 → e.pwr.target = psIdle)) ∧
    (s.dev.pwrState = psIdle → t Reg.pwrNapTmo ≠ 0 → s.dev.pwr.acted = false →
      Does .napTimeout s fun e => psNap ≤ e.pwr.target ∧ (s.dev.pwr.target = 0 → e.pwr.target = psNap)) ∧
    (s.dev.pwrState = psNap → t Reg.pwrSentTmo ≠ 0 →
      Does .sentinelTimeout s fun e => psSentinel ≤ e.pwr.target ∧ (s.dev.pwr.target = 0 → e.pwr.target = psSentinel))) ∧
  (∀ s : State,
    ((s.dev.pwrState ≠ psRun ∨ s.dev.rn Reg.pwrIdleTmo = 0) → Does .idleTimeout s fun e => e = s.dev) ∧
    ((s.dev.pwrState ≠ psIdle ∨ s.dev.rn Reg.pwrNapTmo = 0 ∨ s.dev.pwr.acted = true) → Does .napTimeout s fun e => e = s.dev) ∧
    ((s.dev.pwrState ≠ psNap ∨ s.dev.rn Reg.pwrSentTmo = 0) → Does .sentinelTimeout s fun e => e = s.dev))

/-- Entries (R407-R410, R416): each goes down one state, if a deeper target waits and the conditions of its state hold; NAP
releases CLKREQ_N, holds three pad groups and takes the power of INTAKE, LEAT, FLUME and the cores with what they held,
SENTINEL switches the core supply off, with what its blocks and the Vault held, and holds every pad group. -/
def Piece.PowerEntries : Prop :=
  (∀ s : State, s.dev.pwrState = psRun → s.dev.entering = true →
    Does .entryIdle s fun e =>
      e.pwrState = psIdle ∧ e.rn Reg.pwrIdleEntries = (s.dev.rn Reg.pwrIdleEntries + 1) % 2 ^ 32 ∧
      e.pwr.since = s.dev.tb.tbc ∧ ∀ p : Fin 4, e.inUse p = false) ∧
  (∀ s : State, s.dev.pwrState = psIdle → s.dev.entering = true →
    Does .entryNap s fun e =>
      e.pwrState = psNap ∧ e.rn Reg.pwrNapEntries = (s.dev.rn Reg.pwrNapEntries + 1) % 2 ^ 32 ∧
      e.pins.clkreqN = true ∧ e.cache = [] ∧ (∀ g : Fin 3, e.flag Reg.pwrPadHold (g + 2) = true) ∧
      (∀ b : Fin 64, e.pondState b = 1 ∨ e.pondState b = 0) ∧ (∀ k : Fin 16, e.coreRuns k = false) ∧
      (∀ p : Fin 4, e.inUse p = false ∧ e.flag (Reg.lkPortStat p) 1 = false) ∧
      e.links = ⟨[]⟩ ∧ e.strms = ⟨[]⟩ ∧ e.harts = ⟨[]⟩ ∧ (∀ r c : Fin 96, (e.cell r c).sram = ⟨[]⟩) ∧
      ((s.dev.refsel = 0 ∨ s.dev.refsel = 3) → e.tbState = 3)) ∧
  (∀ s : State, s.dev.pwrState = psNap → s.dev.entering = true →
    Does .entrySentinel s fun e =>
      e.pwrState = psSentinel ∧ e.rn Reg.pwrSentEntries = (s.dev.rn Reg.pwrSentEntries + 1) % 2 ^ 32 ∧
      e.pins.enCore = false ∧ e.pins.pgMain = false ∧ e.tb.tbc = s.dev.tb.tbc ∧ e.ncs = ⟨[]⟩ ∧ e.routers = ⟨[]⟩ ∧ e.jn = {} ∧
      e.ledger = ⟨[]⟩ ∧ e.sec.vault = ⟨[]⟩ ∧
      (∀ g : Fin 6, e.flag Reg.pwrPadHold g = true) ∧ (∀ b : Fin 64, e.pondState b = 0)) ∧
  (∀ s : State, s.dev.entering = false →
    Does .entryIdle s (fun e => e = s.dev) ∧ Does .entryNap s (fun e => e = s.dev) ∧ Does .entrySentinel s (fun e => e = s.dev))

/-- Power targets, timeouts and entries. Choices of the model in it: a command whose conditions do not hold leaves the machine as
it was (log entry 7); commands that stand for a moment set the time, and an idle step is one period (log entry 10); NAP takes
the links and streams down (log entry 108). -/
def Obligations.PowerTargetsAndEntries : Prop := Piece.PowerTargets ∧ Piece.PowerEntries

/-- Wake and exit (R410-R414): in NAP and SENTINEL an enabled source begins the exit, is recorded and counted; one that is not
enabled, and one during an exit, is not; before the commit of an entry it undoes it. An exit ends in IDLE, with the cores at
the runtime's entry address and the Pond banks in the states of POND_PWR, or in basic mode after a tamper; one from SENTINEL
stops where the bundle in DDR5 fails (R459). An activity in IDLE brings RUN back. Choices of the model in it: a command whose
conditions do not hold leaves the machine as it was (log entry 7). -/
def Obligations.WakeAndExit : Prop :=
  (∀ (s : State) (w : WakeSource), (s.dev.pwrState = psNap ∨ s.dev.pwrState = psSentinel) → s.dev.entering = false →
    s.dev.pwr.exitTo = none → s.dev.wakeOn w = true →
    let begun (e : Dev) : Prop :=
      e.pwr.exitTo = some psIdle ∧ e.pwr.target = 0 ∧ e.rn Reg.pwrWakeCause = 2 ^ wakeBit w ∧
      e.rn Reg.pwrWakes = (s.dev.rn Reg.pwrWakes + 1) % 2 ^ 32 ∧
      (s.dev.pwrState = psNap → e.pins.clkreqN = false) ∧
      (s.dev.pwrState = psSentinel → e.pins.wakeN = false ∧ e.pins.enCore = true) ∧
      keepsRegs [Reg.pwrWakeCause, Reg.pwrWakes, Reg.sbWakes] s.dev e ∧ keepsMem s.dev e
    Does (.wake [w]) s begun ∧
    (∀ p : Fin 4, w = .leat p → Does (.leatWakePattern p) s begun) ∧
    (w = .sideband → Does .sidebandAddressMatch s fun e => begun e ∧ e.rn Reg.sbWakes = (s.dev.rn Reg.sbWakes + 1) % 2 ^ 32)) ∧
  (∀ (s : State) (w : WakeSource), (s.dev.wakeOn w = false ∨ (s.dev.pwr.exitTo ≠ none ∧ w ≠ .sideband)) →
    Does (.wake [w]) s (fun e => onlyRegs [] s.dev e)) ∧
  (∀ (s : State) (w : WakeSource), s.dev.pwrState = psIdle → s.dev.entering = true → s.dev.wakeOn w = true →
    Does (.wake [w]) s fun e =>
      e.pwr.target = 0 ∧ e.pwrState = psIdle ∧ e.rn Reg.pwrAborts = (s.dev.rn Reg.pwrAborts + 1) % 2 ^ 32) ∧
  (∀ s : State, s.dev.pwr.exitTo ≠ none →
    (s.dev.pwrState = psSentinel → s.dev.pins.pgMain = true ∧ s.dev.pins.enSd = true) →
    let cause := if s.dev.pwrState = psSentinel then (s.dev.selfRefresh false).resumeCause else 0
    Does .exitComplete s fun e =>
      e.pwr.exitTo = none ∧
      (cause ≠ 0 → e.pwrState = s.dev.pwrState ∧ e.fld Reg.secBootStat 11 8 = cause % 16 ∧ e.ready = false) ∧
      (cause = 0 → s.dev.sec.tampered = true → e.basic = true) ∧
      (cause = 0 → s.dev.sec.tampered = false →
        e.pwrState = psIdle ∧ e.pwr.since = e.tb.tbc ∧ (s.dev.pwrState ≠ psSentinel → e.tb = s.dev.tb) ∧
        (s.dev.pwrState = psSentinel → s.dev.refsel ≠ 0 → e.tbState = 3) ∧
        ((s.dev.pwrState = psSentinel ∨ s.dev.tbState = 3) → s.dev.refsel = 0 → e.tbState = 0) ∧
        (∀ k : Fin 16, bit e.vci.coresDown k = false → bit e.vci.coresStopped k = false →
          (e.hart k).held = false ∧ (e.hart k).mode = .m ∧ (e.hart k).pc = (Config.runtimeEntry e.sec.runtime).toNat) ∧
        (∀ b : Fin 64, e.bankOff b = false → e.pondPwr b ≠ 2 → e.pondState b = e.pondPwr b))) ∧
  (∀ s : State, (s.dev.pwr.exitTo = none ∨ (s.dev.pwrState = psSentinel ∧ s.dev.pins.pgMain = false)) →
    Does .exitComplete s fun e => e = s.dev) ∧
  (∀ s : State, s.dev.pwrState = psIdle → s.dev.pwr.acted = true →
    Does .idleActivityExit s fun e => e.pwrState = psRun ∧ e.pwr.since = s.dev.tb.tbc) ∧
  (∀ s : State, (s.dev.pwrState ≠ psIdle ∨ s.dev.pwr.acted = false) → Does .idleActivityExit s fun e => e = s.dev)

/-- Pads (R416, R417), the governor (R418, R419) and the thermal limits (R420, R493, R494). Choices of the model in it: a command
whose conditions do not hold leaves the machine as it was (log entry 7); a clock change waits for its AVSBus transaction
within its command (log entry 24); the last throttle step undone restores the clock that was set (log entry 27). -/
def Obligations.PadsGovernorAndTemperature : Prop :=
  (∀ (s : State) (g : Fin 6) (agrees : Bool),
    let live := g == 2 && s.dev.flag Reg.pwrPadHold g && decide (s.dev.pwrState ≤ psIdle)
    Does (.padRelease g agrees) s fun e =>
      (live = false → e = s.dev) ∧
      (live = true → agrees = true → e.flag Reg.pwrPadHold g = false) ∧
      (live = true → agrees = false → e.flag Reg.pwrPadHold g = true ∧
        e.rn Reg.pwrPadMismatch = (s.dev.rn Reg.pwrPadMismatch + 1) % 2 ^ 32) ∧
      onlyRegs [Reg.pwrPadHold, Reg.pwrPadMismatch] s.dev e) ∧
  (∀ (s : State) (m : BitVec 16), s.dev.basic = false →
    Does (.governorEstimate m) s fun e =>
      e.rn Reg.pwrEstPeak = max (s.dev.rn Reg.pwrEstPeak) m.toNat ∧
      (m.toNat * 5 ≤ s.dev.govCap → e.pwr.steps = s.dev.pwr.steps ∧ onlyRegs [Reg.pwrEstPeak] s.dev e) ∧
      (s.dev.govCap < m.toNat * 5 → s.dev.canStep 0 = true → s.dev.flag Reg.pwrGovCtl 0 = false →
        e.pwr.steps = 0 :: s.dev.pwr.steps ∧ e.rn Reg.pwrThrottleSteps = (s.dev.rn Reg.pwrThrottleSteps + 1) % 2 ^ 32)) ∧
  (∀ (s : State) (m : BitVec 16), s.dev.basic = false →
    Does (.governorRestore m) s fun e =>
      (s.dev.pwr.steps = [] → e.rn Reg.pwrEst = m.toNat ∧ onlyRegs [Reg.pwrEst] s.dev e) ∧
      (s.dev.govCap * 95 ≤ m.toNat * 500 → e.pwr.steps = s.dev.pwr.steps) ∧
      (m.toNat * 500 < s.dev.govCap * 95 → e.pwr.steps = s.dev.pwr.steps.tail)) ∧
  (∀ (s : State) (l : List (BitVec 16)) (x : Int × Nat), hottest (((l.take 16).map (·.toInt)).zipIdx) = some x →
    Does (.thermalSample l) s fun e =>
      e.rn Reg.pwrTj = (x.2 * 65536 + unsignedOf 16 x.1) % 2 ^ 32 ∧
      (s.dev.pins.thermtripN = true → x.1 < 8 * signedOf 8 (s.dev.fld Reg.pwrTlim 23 16) → e.pins.thermtripN = true ∧
        (8 * signedOf 8 (s.dev.fld Reg.pwrTlim 15 8) ≤ x.1 → s.dev.basic = false → e.flag Reg.pwrStat 4 = true)) ∧
      (s.dev.pins.thermtripN = true → 8 * signedOf 8 (s.dev.fld Reg.pwrTlim 23 16) ≤ x.1 → s.dev.pwr.tripRun = 1 →
        e.pins.thermtripN = false) ∧
      -- the tamper source TEMP fires as the reading passes 125 °C (R472, R493)
      (1000 < x.1 → signedOf 16 (s.dev.fld Reg.pwrTj 15 0) ≤ 1000 → s.dev.pins.enCore = true → e.sec.tampered = true))

/-- NOP, SUBSCRIBE, RING_BIND, SET_POWER_CAP, SET_CLOCK (R6, R24, R387, R391, R402, R504): each completes with its code and
results, and has its effect. -/
def Piece.ServiceCommands : Prop :=
  (∀ (s : State) (tag : BitVec 9) (c : VciCmd), s.dev.activeCmd 0 tag.toNat = some c → c.begun = false →
    Does (.nopCmd tag) s fun e => s.dev.answered c 0 [c.imm] e ∧ keepsMem s.dev e) ∧
  (∀ (s : State) (tag : BitVec 9) (c : VciCmd), s.dev.activeCmd 5 tag.toNat = some c → c.begun = false →
    Does (.subscribe tag) s fun e =>
      s.dev.answered c 0 [s.dev.vci.masks.get 0 c.pair] e ∧ e.vci.masks.get 0 c.pair = c.imm ∧
      (∀ n : Fin 32, n.val ≠ c.pair → e.vci.masks.get 0 n = s.dev.vci.masks.get 0 n) ∧ keepsMem s.dev e) ∧
  (∀ (s : State) (tag : BitVec 9) (c : VciCmd), s.dev.activeCmd 0x22 tag.toNat = some c → c.begun = false → c.imm < 64 →
    Does (.ringBind tag) s fun e =>
      s.dev.answered c 0 [] e ∧ e.vci.binds.get 0 c.imm = cmdArg c 0 % 32 ∧
      (∀ k : Fin 66, k.val ≠ c.imm → e.vci.binds.get 0 k = s.dev.vci.binds.get 0 k) ∧ keepsMem s.dev e) ∧
  (∀ (s : State) (tag : BitVec 9) (c : VciCmd), s.dev.activeCmd 4 tag.toNat = some c → c.begun = false → c.imm < 2 ^ 16 →
    Does (.setPowerCap tag) s fun e =>
      (s.dev.fld Reg.glbVariant 15 8 < c.imm →
        s.dev.answered c 0x12 [s.dev.rn Reg.pwrCap] e ∧ e.rn Reg.pwrCap = s.dev.rn Reg.pwrCap) ∧
      (c.imm ≤ s.dev.fld Reg.glbVariant 15 8 → s.dev.answered c 0 [c.imm] e ∧ e.rn Reg.pwrCap = c.imm) ∧ keepsMem s.dev e) ∧
  (∀ (s : State) (tag : BitVec 9) (c : VciCmd), s.dev.starts 3 tag.toNat c →
    Does (.setClock tag) s fun e =>
      (s.dev.clockMax c.imm < cmdArg c 0 → s.dev.answered c 0x10 [] e ∧ e.pwr = s.dev.pwr) ∧
      (cmdArg c 0 ≤ s.dev.clockMax c.imm → c.imm = 0 → e.pwr.setFlume = cmdArg c 0) ∧
      (cmdArg c 0 ≤ s.dev.clockMax c.imm → c.imm = 1 → e.pwr.setRace = cmdArg c 0) ∧
      (cmdArg c 0 ≤ s.dev.clockMax c.imm → c.imm = 2 →
        ∀ k : Fin 16, e.pwr.setApc.get 0 k = if bit (cmdArg c 1) k then cmdArg c 0 else s.dev.pwr.setApc.get 0 k)) ∧
  (∀ (s : State) (tag : BitVec 9) (c : VciCmd), s.dev.activeCmd 3 tag.toNat = some c → c.begun = false → s.dev.ready = false →
    Does (.setClock tag) s fun e => s.dev.answered c 5 [] e ∧ e.pwr = s.dev.pwr)

/-- Streams open and close (R72, R77, R82, R83, R84): a stream that is open, and one that is not set up, is refused; one that
opens starts with frame number 0 and answers its group delay; one with no frame in progress closes at once. -/
def Piece.StreamsOpenAndClose : Prop :=
  (∀ (s : State) (tag : BitVec 9) (c : VciCmd), s.dev.starts 0x20 tag.toNat c → (s.dev.jobState = jsArmed ∨ s.dev.jobState = jsRunning) →
    let n := c.imm % 64
    let code := (s.dev.setStrm n { s.dev.strm n with gather := bit c.imm 8 }).openCode n (bit c.imm 8)
    (s.dev.strOpen n = true → Does (.streamOpen tag) s fun e => s.dev.answered c 5 [] e ∧ e.strms = s.dev.strms) ∧
    (s.dev.strOpen n = false → code ≠ 0 → Does (.streamOpen tag) s fun e =>
      s.dev.answered c code [] e ∧ e.strms = s.dev.strms ∧ e.strOpen n = false) ∧
    (s.dev.strOpen n = false → code = 0 → Does (.streamOpen tag) s fun e =>
      s.dev.answered c 0 [e.rn (Reg.intkStrGd n)] e ∧ e.strOpen n = true ∧ e.rn (Reg.intkStrFrameNo n) = 0 ∧
      e.rn (Reg.intkStrGd n) = (if bit c.imm 8 then 0 else s.dev.groupDelay n % 2 ^ 32) ∧
      (e.strm n).nextFrame = 0 ∧ (e.strm n).filling = [] ∧ (e.strm n).acc = (s.dev.strm n).acc ∧
      (∀ m : Fin 64, m.val ≠ n → e.strm m = s.dev.strm m) ∧
      (∀ f : Fin 65536, (e.ledger.get {} (65536 * n + f)).stages = 0) ∧
      keepsMemBut (s.dev.jn.deltaBase + 2 * (n * s.dev.deltaSpan)) (2 * s.dev.deltaSpan) s.dev e)) ∧
  (∀ (s : State) (tag : BitVec 9) (c : VciCmd), s.dev.starts 0x21 tag.toNat c →
    let n := c.imm % 64
    (s.dev.strOpen n = false → Does (.streamClose tag) s fun e => s.dev.answered c 5 [] e ∧ e.strms = s.dev.strms) ∧
    (s.dev.strOpen n = true → (s.dev.strm n).filling = [] → Does (.streamClose tag) s fun e => e.strOpen n = false) ∧
    (s.dev.strOpen n = true → (s.dev.strm n).filling ≠ [] → (s.dev.strm n).gather = true → Does (.streamClose tag) s fun e =>
      e.strOpen n = true ∧ (e.strm n).closing = true))

/-- Service commands, and opening and closing streams. Choices of the model in it: a command whose conditions do not hold leaves
the machine as it was (log entry 7); the order of the acknowledgement checks (log entry 22). -/
def Obligations.ServiceCommandsAndStreams : Prop := Piece.ServiceCommands ∧ Piece.StreamsOpenAndClose

/-- Records and pages (R178, R179, R287): MARKER puts a record in the queue once there is room; SCALE_WRITE writes the shadow
page's words, is held while the page is in use, or is refused; EPOCH_SWAP asks for a swap, which waits for the following
boundary where the array stands at one, and one more is ignored. -/
def Piece.MarkersPagesAndSwaps : Prop :=
  (∀ (s : State) (tag : BitVec 9) (c : VciCmd), s.dev.starts 0x23 tag.toNat c → s.dev.jobState = jsRunning →
    s.dev.rqFree = 0 → Does (.marker tag) s fun e => e = s.dev) ∧
  (∀ (s : State) (tag : BitVec 9) (c : VciCmd), s.dev.starts 0x23 tag.toNat c → s.dev.jobState = jsRunning →
    let a := s.dev.rqAddr (s.dev.fld Reg.jnRqWr 15 0)
    s.dev.rqFree ≠ 0 → s.dev.rqOut a = false → Does (.marker tag) s fun e =>
      s.dev.answered c 0 [s.dev.jn.seq] e ∧ e.jn.seq = (s.dev.jn.seq + 1) % 2 ^ 32 ∧
      e.rn Reg.jnRqWr = (s.dev.fld Reg.jnRqWr 15 0 + 1) % max 1 s.dev.rqCount ∧
      recType (e.bytes a 64) = 2 ∧ ofBytes ((e.bytes a 64).take 9) = s.dev.tb.tbc * 256 % 2 ^ 72 ∧
      keepsMemBut a 64 s.dev e) ∧
  (∀ (s : State) (tag : BitVec 9) (c : VciCmd), s.dev.starts 0x30 tag.toNat c → s.dev.jobState = jsRunning →
    (s.dev.vci.active.filter (fun x => x.tag == c.tag)).length = 1 →
    let n := cmdArg c 2
    let shadow := (s.dev.fld Reg.flmEpoch 7 0 + 1) % 2
    (cmdArg c 0 ≠ shadow → Does (.scaleWrite tag) s fun e => s.dev.answered c 0x46 [] e ∧ e.flume = s.dev.flume) ∧
    (cmdArg c 0 = shadow → (s.dev.cell (c.imm / 256) (c.imm % 128)).pageLen < cmdArg c 1 + n →
      Does (.scaleWrite tag) s fun e => s.dev.answered c 7 [] e ∧ e.flume = s.dev.flume)) ∧
  (∀ (s : State) (tag : BitVec 9) (c : VciCmd), s.dev.starts 0x30 tag.toNat c → s.dev.jobState = jsRunning →
    (s.dev.vci.active.filter (fun x => x.tag == c.tag)).length = 1 →
    let row := c.imm / 256
    let col := c.imm % 128
    let n := cmdArg c 2
    let a := cmdArg64 c 3
    let shadow := (s.dev.fld Reg.flmEpoch 7 0 + 1) % 2
    let page := (if shadow = 0 then (s.dev.cell row col).page0 else (s.dev.cell row col).page1) + cmdArg c 1
    cmdArg c 0 = shadow → cmdArg c 1 + n ≤ (s.dev.cell row col).pageLen → n ≠ 0 →
    s.dev.readable a (8 * n) = true → isHost a = false →
    (s.dev.shadowBusy = false → s.dev.flume.shadow = [] → s.dev.flume.swapPend = false → Does (.scaleWrite tag) s fun e =>
      s.dev.answered c 0 [] e ∧ ∀ i, i < n → (e.cell row col).sram.get 0 (page + i) = s.dev.num (a + 8 * i) 8) ∧
    (s.dev.shadowBusy = true → Does (.scaleWrite tag) s fun e =>
      e.flume.shadow = s.dev.flume.shadow ++ [⟨c.tag, row, col, cmdArg c 1, (List.range n).map (fun i => s.dev.num (a + 8 * i) 8)⟩] ∧
      e.activeCmd 0x30 tag.toNat = some { c with begun := true })) ∧
  (∀ (s : State) (tag : BitVec 9) (c : VciCmd), s.dev.starts 0x31 tag.toNat c → s.dev.jobState = jsRunning →
    let due := s.dev.flmRun && (s.dev.flume.waitFrom.isSome || s.dev.flume.ecc == s.dev.boundaryAt)
    Does (.epochSwap tag) s fun e =>
      e.flume.swapPend = true ∧ e.activeCmd 0x31 tag.toNat = some { c with begun := true } ∧
      (s.dev.flume.swapPend = false → e.flume.swapFrom = s.dev.flume.ecc + b2n due) ∧
      e.rn Reg.flmSwapsIgnored = (s.dev.rn Reg.flmSwapsIgnored + b2n s.dev.flume.swapPend) % 2 ^ 32 ∧
      keepsRegs [Reg.flmSwapsIgnored] s.dev e ∧ keepsMem s.dev e) ∧
  -- a pending swap takes effect at a boundary once every earlier shadow write has completed (R177)
  (∀ d : Dev,
    (d.flume.swapPend = true → d.flume.swapFrom ≤ d.flume.ecc → d.shadowOwed = false →
      d.applySwap.flume.swapPend = false ∧ d.applySwap.fld Reg.flmEpoch 7 0 = (d.fld Reg.flmEpoch 7 0 + 1) % 256 ∧
        d.applySwap.rn Reg.flmSwaps = (d.rn Reg.flmSwaps + 1) % 2 ^ 32) ∧
    ((d.flume.swapPend = false ∨ d.flume.ecc < d.flume.swapFrom ∨ d.shadowOwed = true) → d.applySwap = d))

/-- ELIGIBILITY (R260) waits for its NC's next tick, and is refused for one that the job does not use; COLLECTIVE (R343-R345)
starts its group's collective, which a root alone in its group ends at once. -/
def Piece.EligibilityAndCollective : Prop :=
  (∀ (s : State) (tag : BitVec 9) (c : VciCmd), s.dev.starts 0x32 tag.toNat c → s.dev.jobState = jsRunning →
    ((s.dev.nc c.imm).inJob = false ∨ (s.dev.nc c.imm).failed = true → Does (.eligibility tag) s fun e =>
      s.dev.answered c 5 [] e ∧ e.ncs = s.dev.ncs) ∧
    ((s.dev.nc c.imm).inJob = true → (s.dev.nc c.imm).failed = false → cmdArg c 2 ≠ 0 → Does (.eligibility tag) s fun e =>
      (e.nc c.imm).eligPend = (s.dev.nc c.imm).eligPend ++
        [(cmdArg c 0 % 8, bit (cmdArg c 0) 8, cmdArg c 1, cmdArg c 1 + (cmdArg c 2 - 1))] ∧ e.regs = s.dev.regs)) ∧
  (∀ (s : State) (tag : BitVec 9) (c : VciCmd), s.dev.starts 0x33 tag.toNat c → s.dev.jobState = jsRunning →
    let g := c.imm % 16
    ((bit (s.dev.collCfg g) 31 = false ∨ bit (s.dev.collMembers g) s.dev.ownDev = false) → Does (.collective tag) s fun e =>
      s.dev.answered c 0x42 [] e ∧ e.colls = s.dev.colls) ∧
    (bit (s.dev.collCfg g) 31 = true → bit (s.dev.collMembers g) s.dev.ownDev = true → (s.dev.coll g).pend = false →
      s.dev.vci.active.find? (fun x => x.op == 0x33 && x.imm == c.imm && !x.begun) = some c →
      s.dev.collRoot g ≠ s.dev.ownDev → Does (.collective tag) s fun e =>
        (e.coll g).pend = true ∧ (e.coll g).value = cmdArg64 c 0 ∧ e.flag (Reg.lkCollStat g) 0 = true)) ∧
  (∀ (s : State) (tag : BitVec 9) (c : VciCmd), s.dev.starts 0x33 tag.toNat c → s.dev.jobState = jsRunning →
    let g := c.imm % 16
    bit (s.dev.collCfg g) 31 = true → s.dev.collMembers g = 2 ^ s.dev.ownDev → (s.dev.coll g).pend = false →
    s.dev.vci.active.find? (fun x => x.op == 0x33 && x.imm == c.imm && !x.begun) = some c →
    s.dev.collRoot g = s.dev.ownDev → (s.dev.vci.active.filter (fun x => x.tag == c.tag)).length = 1 →
    cmdArg c 0 < 2 ^ 32 → cmdArg c 1 < 2 ^ 32 →
    Does (.collective tag) s fun e =>
      s.dev.answered c 0 [cmdArg c 0, cmdArg c 1, s.dev.collSeq g] e ∧ e.collSeq g = (s.dev.collSeq g + 1) % 65536)

/-- Markers, scale pages, epoch swaps, eligibility and collectives. Choices of the model in it: a command whose conditions do not
hold leaves the machine as it was (log entry 7); a scale write beyond its page is refused (log entry 23); eligibility of a
core outside the job is refused (log entry 25); a collective of a group without this device is refused (log entry 26); a swap
requested during a wait applies at the following boundary (log entry 117). -/
def Obligations.JobTimeCommands : Prop := Piece.MarkersPagesAndSwaps ∧ Piece.EligibilityAndCollective

/-- A job command in a job state that its row does not permit completes with STATE and changes no job (R391, R392, R395). -/
def Piece.JobCommandsInTheWrongState : Prop :=
  ∀ (s : State) (c : VciCmd),
    let refused (e : Dev) : Prop := s.dev.answered c 5 [] e ∧ e.jobState = s.dev.jobState ∧ e.flow = s.dev.flow ∧ keepsMem s.dev e
    c.begun = false → s.dev.vci.split = none →
    (s.dev.jobCmd 1 = some c → s.dev.jobState ≠ jsNone → s.dev.jobState ≠ jsLoaded → Does .describe s refused) ∧
    (s.dev.jobCmd 0x10 = some c → s.dev.jobState ≠ jsNone → Does .jobLoad s refused) ∧
    (∀ ms : Word, s.dev.jobCmd 0x11 = some c → s.dev.jobState ≠ jsLoaded → Does (.jobArm ms) s refused) ∧
    (s.dev.jobCmd 0x12 = some c → s.dev.jobState ≠ jsArmed → Does .jobRun s refused) ∧
    (s.dev.jobCmd 0x13 = some c → s.dev.jobState ≠ jsRunning → Does .jobDrain s refused) ∧
    (s.dev.jobCmd 0x14 = some c → s.dev.jobState ≠ jsDrained → Does .jobResume s refused) ∧
    (s.dev.jobCmd 0x15 = some c → s.dev.jobState < jsArmed → Does .jobStop s refused) ∧
    (s.dev.jobCmd 0x16 = some c → s.dev.jobState ≠ jsLoaded → Does .jobUnload s refused) ∧
    (s.dev.jobCmd 0x17 = some c → s.dev.jobState ≠ jsRunning → s.dev.jobState ≠ jsDrained → Does .checkpoint s refused) ∧
    (s.dev.jobCmd 0x18 = some c → s.dev.jobState ≠ jsDrained → Does .substitute s refused)

/-- DESCRIBE and JOB_LOAD (R396, R400, R401): a description or a package that can be read and passes its checks is taken, and its
digest kept; one that fails a check completes with that check's code. -/
def Piece.DescriptionsAndPackages : Prop :=
  (∀ (s : State) (c : VciCmd), s.dev.jobCmd 1 = some c → s.dev.jobState = jsNone →
    let a := cmdArg64 c 0
    let n := cmdArg c 2
    let p := s.dev.bytes a n
    let ss := boardSecs p (n / 8 + 1) 0
    let code := s.dev.boardCode (s.dev.describedShape ss) (s.dev.describedDev ss)
    (n = 0 ∨ s.dev.placeOf a n = .unmapped → Does .describe s fun e => s.dev.answered c 7 [0xFFFF] e ∧ e.sec = s.dev.sec) ∧
    (n ≠ 0 → s.dev.placeOf a n = .pond → s.dev.readBad a n = false →
      (∀ i, ss.findIdx? (fun x => code x != 0) = some i → Does .describe s fun e =>
        s.dev.answered c (code (ss.getD i ⟨0, 0, [], false⟩)) [i] e ∧ e.sec = s.dev.sec ∧ e.board = s.dev.board) ∧
      (ss.findIdx? (fun x => code x != 0) = none → Does .describe s fun e =>
        s.dev.answered c 0 [0xFFFF] e ∧ e.sec.board = sha256 p ∧ keepsMem s.dev e))) ∧
  (∀ (s : State) (c : VciCmd), s.dev.jobCmd 0x10 = some c → s.dev.jobState = jsNone →
    let a := cmdArg64 c 0
    let n := cmdArg c 2
    let b := s.dev.board.pkgBase
    let p := s.dev.bytes a n
    let d1 := ((s.dev.putBytes b p).touch 0 b n).showColumns
    n = 0 ∨ s.dev.placeOf a n = .pond → s.dev.readBad a n = false → n ≤ s.dev.board.pkgLen → s.dev.placeOf b n = .ddr →
    s.dev.regionsOk s.dev.ddrRegions = true →
    (d1.packageCode p n ≠ 0 → Does .jobLoad s fun e =>
      s.dev.answered c (d1.packageCode p n) [] e ∧ e.jobState = jsNone ∧ e.bytes b n = p) ∧
    (d1.packageCode p n = 0 → secsOf p 6 = [] → secOf p 8 = [] → Does .jobLoad s fun e =>
      s.dev.answered c 0 [fldAt p 4 2, windowMaps p] e ∧ e.jobState = jsLoaded ∧ e.bytes b n = p ∧ e.sec.pkg = sha256 p ∧
      e.vci.pkg = ⟨b, n⟩ ∧ keepsMemBut b n s.dev e))

/-- Job commands in the wrong state, descriptions and packages. Choices of the model in it: a command whose conditions do not
hold leaves the machine as it was (log entry 7); the layout of a board description (log entry 15); the layouts of the traffic
and service sections (log entry 19). -/
def Obligations.JobStatesAndLoads : Prop := Piece.JobCommandsInTheWrongState ∧ Piece.DescriptionsAndPackages

/-- NC records of a package, each with its section. -/
def pkgRecs (p : List Byte) : List (List Byte × NcRec) := (secsOf p 3).flatMap (fun q => (coreRecs q).map (fun r => (q, r)))

/-- Learning records of a package: their NC, and where they begin. -/
def pkgLearns (p : List Byte) : List (Nat × Nat) :=
  (List.range ((secOf p 4).length / 4232)).map (fun i =>
    (fldAt (secOf p 4) (4232 * i) 1 * 16 + fldAt (secOf p 4) (4232 * i + 1) 1, 4232 * i))

/-- Every record of a package names a cell of the array or an NC of the mesh (R137, R215, R271). -/
def recordsPlaced (p : List Byte) : Bool :=
  (imgCells (secOf p 1)).all (fun x => decide (x.row < 96) && decide (x.col < 96)) &&
    (pkgRecs p).all (fun x => decide (x.2.row < 16) && decide (x.2.col < 16)) && (pkgLearns p).all (fun x => decide (x.1 < 256))

/-- The array as a package's schedule image arms it: its quadrants alone are powered, a cell holds its record, and a cell of
those quadrants without one holds a single HALT slot (R89, R133, R138, R177, R182). -/
def arrayArmed (p : List Byte) (e : Dev) : Bool :=
  let img := secOf p 1
  let lad := secOf p 2
  let q := if img.isEmpty then 0 else imgQmask img % 16
  let cs := imgCells img
  let wins := if lad.isEmpty then [] else (ladWins lad).1
  e.fld Reg.flmStat 15 12 == q && e.fld Reg.flmStat 11 8 == q && e.flag Reg.flmStat 0 == !img.isEmpty && !e.flag Reg.flmStat 1 &&
    e.rn Reg.flmL == (if img.isEmpty then 0 else imgL img) && e.rn Reg.flmII == (if img.isEmpty then 0 else imgII img) &&
    e.fld Reg.flmEpoch 7 0 == (if lad.isEmpty then 0 else ladEpoch lad) &&
    (img.isEmpty || (e.flume.d == imgD img && e.flume.head == (imgHead img).map (fun x => x.1) && e.flume.tail == imgTail img &&
      e.flume.tgBytes == mapOf (imgTg img) &&
      (List.range 96).all (fun r => (List.range 96).all (fun c =>
        match cs.reverse.find? (fun x => x.row == r && x.col == c) with
        | some x =>
          (e.cell r c).bodyStart == x.bodyStart && (e.cell r c).bodyLen == x.bodyLen && (e.cell r c).binds == mapOf x.binds &&
            (e.cell r c).sched == mapOf x.slots && (e.cell r c).sram == mapOf x.data &&
            (e.cell r c).windows == ((wins.filter (fun w => w.1 == r && w.2.1 == c)).map (·.2.2)).flatten
        | none => !covers img r c || e.cell r c == { bodyLen := 1, sched := mapOf [3 * 2 ^ 59] }))))

/-- An NC as its record of a package arms it, the neuron state and the synapses beside (R215, R251, R271). -/
def ncArmed (p : List Byte) (n : Nat) (x : List Byte × NcRec) (e : Dev) : Prop :=
  let r := x.2
  (e.nc n).inJob = true ∧ (e.nc n).axon = mapOf (recAxon x.1 r) ∧ (e.nc n).decay = mapOf (recDecay x.1 r) ∧
  e.rn (Reg.ncMemCfg n) = (r.h / 256 - 1) * 65536 + r.k / 32768 ∧
  (∀ i : Fin 64, e.rn (Reg.ncPset0 n i) = recPset x.1 r i 0 ∧ e.rn (Reg.ncPset1 n i) = recPset x.1 r i 1 ∧
    e.rn (Reg.ncPset2 n i) = recPset x.1 r i 2) ∧
  (∀ k : Fin 8, e.rn (Reg.lrnCtl n k) =
    (((pkgLearns p).filter (fun y => y.1 == n)).getLast?.map (fun y => fldAt (secOf p 4) (y.2 + 8 + 16 * k) 4)).getD 0)

/-- No plastic row of the record's NC lies in the Cistern. -/
def noCistPlastic (r : NcRec) (syn : SMap Nat) : Bool :=
  (List.range r.h).all (fun i => let h := headerOf { syn := syn } i
    !(hdValid h && hdPlastic h && hdCist h))

/-- Two synapse memories agree but for MPRE, the low three bits of a prefix word (R251). -/
def sameWeights (x y : SMap Nat) : Prop := ∀ a, x.get 0 a / 8 = y.get 0 a / 8

/-- An NC's neuron state and synapses as they are loaded, from its record or from its checkpoint copy: every on-die plastic row
begins without a pre-synaptic trace, and an NC without one is as loaded (R251, R270). -/
def ncLoaded (n : Nat) (r : NcRec) (state syn : SMap Nat) (e : Dev) : Prop :=
  let plastic (i : Nat) : Bool := let h := headerOf { syn := syn } i
    hdValid h && hdPlastic h && !hdCist h
  (e.nc n).state = state ∧ sameWeights (e.nc n).syn syn ∧
  ((∀ i, i < r.h → plastic i = false) → (e.nc n).syn = syn) ∧
  ((∀ i, i < r.h → plastic i = true → 4 * r.h ≤ hdAddr (headerOf { syn := syn } i)) →
    ∀ i, i < r.h → plastic i = true → (e.nc n).syn.get 0 (hdAddr (headerOf { syn := syn } i) + 3) % 8 = 0)

/-- JOB_ARM (R89, R133, R188, R215, R251, R270, R271, R396): a package in reach is written to every unit, from its sections or
from the checkpoint, unless the mappings lack a spare or its image fails its CRC. -/
def Piece.ArmWritesEveryUnit : Prop :=
  ∀ (s : State) (c : VciCmd) (ms : Word), s.dev.jobCmd 0x11 = some c → s.dev.jobState = jsLoaded →
    s.dev.readable s.dev.vci.pkg.addr (max 1 s.dev.vci.pkg.len) = true → s.dev.regionsOk s.dev.ddrRegions = true →
    let p := s.dev.bytes s.dev.vci.pkg.addr s.dev.vci.pkg.len
    let short := (!(secOf p 1).isEmpty && s.dev.colsShort) || (!(secsOf p 3).isEmpty && s.dev.rowsShort)
    let crcBad := !(secOf p 1).isEmpty && !imageCrcOk (secOf p 1)
    (short = true → Does (.jobArm ms) s fun e => s.dev.answered c 0x27 [] e ∧ e.jobState = jsLoaded ∧ keepsMem s.dev e) ∧
    (short = false → crcBad = true → Does (.jobArm ms) s fun e =>
      s.dev.answered c 0x21 [] e ∧ e.jobState = jsLoaded ∧ keepsMem s.dev e) ∧
    (short = false → crcBad = false → Does (.jobArm ms) s fun e =>
      s.dev.answered c 0 [min ms.toNat 400] e ∧ e.jobState = jsArmed ∧ e.tb.loadPend = none) ∧
    (short = false → crcBad = false → recordsPlaced p = true → Does (.jobArm ms) s fun e =>
      arrayArmed p e = true ∧ e.flag Reg.jnStat 0 = !(secOf p 5).isEmpty ∧
      (∀ n : Fin 256, (e.nc n).inJob = (pkgRecs p).any (fun x => x.2.nc == n.val)) ∧
      (∀ n : Fin 256, ∀ x, ((pkgRecs p).filter (fun x => x.2.nc == n.val)).getLast? = some x → ncArmed p n x e) ∧
      (∀ n : Fin 256, n.val % 16 < s.dev.meshCols → e.physOf n = s.dev.goodNc (n / 16) (n % 16)) ∧
      (bit c.imm 0 = false →
        (∀ n : Fin 256, ∀ x, ((pkgRecs p).filter (fun x => x.2.nc == n.val)).getLast? = some x →
          ncLoaded n x.2 (mapOf (recState x.1 x.2)) (mapOf (recSyn x.1 x.2)) e) ∧
        ((pkgRecs p).all (fun x => noCistPlastic x.2 (mapOf (recSyn x.1 x.2))) = true → keepsMem s.dev e))) ∧
    (short = false → crcBad = false → recordsPlaced p = true → bit c.imm 0 = true →
      (∀ n : Fin 256, ∀ k : Fin 2, s.dev.readBad (s.dev.ckptAddr n k) 1314816 = false) → Does (.jobArm ms) s fun e =>
      (∀ n : Fin 256, ∀ x, ((pkgRecs p).filter (fun x => x.2.nc == n.val)).getLast? = some x →
        ncLoaded n x.2 (s.dev.fromCopy n (mapOf (recState x.1 x.2)) (mapOf (recSyn x.1 x.2))).2.1
          (s.dev.fromCopy n (mapOf (recState x.1 x.2)) (mapOf (recSyn x.1 x.2))).2.2 e) ∧
      ((pkgRecs p).all (fun x => noCistPlastic x.2 (s.dev.fromCopy x.2.nc ⟨[]⟩ (mapOf (recSyn x.1 x.2))).2.2) = true →
        keepsMem s.dev e))

/-- JOB_UNLOAD, SUBSTITUTE and CHECKPOINT (R190, R268, R270, R392). -/
def Piece.UnloadSubstituteCheckpoint : Prop :=
  (∀ (s : State) (c : VciCmd), s.dev.jobCmd 0x16 = some c → s.dev.jobState = jsLoaded →
    Does .jobUnload s fun e =>
      s.dev.answered c 0 [] e ∧ e.jobState = jsNone ∧ e.vci.pkg = {} ∧ e.sec.pkg = [] ∧ e.vci.regions = [] ∧ keepsMem s.dev e) ∧
  (∀ (s : State) (c : VciCmd), s.dev.jobCmd 0x18 = some c → s.dev.jobState = jsDrained →
    (s.dev.mayShift c.imm = false → Does .substitute s fun e => s.dev.answered c 0x45 [] e ∧ e.ncs = s.dev.ncs) ∧
    (s.dev.mayShift c.imm = true → c.imm < 256 → Does .substitute s fun e =>
      s.dev.answered c 0 [e.physOf c.imm, (s.dev.fromCopy c.imm ⟨[]⟩ ⟨[]⟩).1] e ∧
      (s.dev.bestCopy c.imm ≠ none → (e.nc c.imm).state = (s.dev.fromCopy c.imm ⟨[]⟩ ⟨[]⟩).2.1 ∧
        (e.nc c.imm).syn = (s.dev.fromCopy c.imm ⟨[]⟩ ⟨[]⟩).2.2) ∧
      (∀ k : Fin 16, k.val < s.dev.meshCols → s.dev.physOf (c.imm / 16 * 16 + k) < 31 → e.physOf (c.imm / 16 * 16 + k) =
        s.dev.physOf (c.imm / 16 * 16 + k) + b2n (decide (c.imm % 16 ≤ k.val))) ∧
      e.flag (Reg.ncStat c.imm) 7 = false ∧ e.flag (Reg.rtStat c.imm) 0 = false ∧ (e.nc c.imm).failed = false)) ∧
  (∀ (s : State) (c : VciCmd), s.dev.jobCmd 0x17 = some c → c.begun = false → s.dev.jobState = jsDrained →
    s.dev.flag Reg.mrStat 4 = true → s.dev.vci.resume = none →
    (s.dev.jobNcs = [] → Does .checkpoint s fun e =>
      s.dev.answered c 0 [(s.dev.rn Reg.lrnCkptSeq + 1) % 2 ^ 32] e ∧
      e.rn Reg.lrnCkptSeq = (s.dev.rn Reg.lrnCkptSeq + 1) % 2 ^ 32 ∧ e.jobState = jsDrained ∧ keepsMem s.dev e) ∧
    (s.dev.beginJob.ckptWrite.1 = false → Does .checkpoint s fun e =>
      s.dev.answered c 0x47 [] e ∧ e.rn Reg.lrnCkptFails = (s.dev.rn Reg.lrnCkptFails + 1) % 2 ^ 32 ∧
      e.rn Reg.lrnCkptSeq = s.dev.rn Reg.lrnCkptSeq)) ∧
  (∀ (s : State) (c : VciCmd), s.dev.jobCmd 0x17 = some c → c.begun = false → s.dev.jobState = jsRunning →
    s.dev.flag Reg.mrStat 4 = false → s.dev.vci.resume = none →
    Does .checkpoint s fun e =>
      e.flag Reg.mrStat 3 = true ∧ e.bar.drainTick = some ((s.dev.openTick + b2n (s.dev.flag Reg.mrStat 5)) % 2 ^ 32) ∧
      e.jobHead 0x17 = some { c with begun := true })

/-- Arm, unload, substitute and checkpoint. Choices of the model in it: a command whose conditions do not hold leaves the machine
as it was (log entry 7); only a failed neuron core is substituted (log entry 21). -/
def Obligations.JobArmUnloadSubstituteCheckpoint : Prop := Piece.ArmWritesEveryUnit ∧ Piece.UnloadSubstituteCheckpoint

/-- JOB_RUN schedules the start or names what forbids it (R393); JOB_START begins the job at its TBC (R238, R393); JOB_DRAIN and
JOB_RESUME drain the fabric and let it go on (R244, R397). -/
def Piece.RunStartDrainResume : Prop :=
  (∀ (s : State) (c : VciCmd), s.dev.jobCmd 0x12 = some c → c.begun = false → s.dev.jobState = jsArmed →
    let start := cmdArg64 c 0
    let ladder := s.dev.fld Reg.flmLadderCtl 15 0
    let batch := s.dev.fld Reg.mrCplBatch 7 0
    let devs := s.dev.fld Reg.mrDevid 12 8
    let narrow := ∃ n ∈ s.dev.jobNcs, s.dev.fld (Reg.rtWin n) 8 0 < 2 * batch
    let uneven := 5 ≤ devs ∧ max 1 (s.dev.fld Reg.mrTickLen 23 0) % 8 ≠ 0
    let lost := ∃ p : Fin 4, s.dev.flag (Reg.lkPortCfg p) 31 = true ∧
      (s.dev.flag (Reg.lkPortStat p) 3 = true ∨ s.dev.flag (Reg.lkPortCfg p) 21 ≠ closes s.dev.board.shape s.dev.ownDev p)
    let wild := ∃ g : Fin 16, bit (s.dev.collCfg g) 31 = true ∧
      (6 ≤ s.dev.collOp g ∨ bit (s.dev.collMembers g) (s.dev.collRoot g) = false)
    let refused (code : Nat) : Prop := Does .jobRun s fun e =>
      s.dev.answered c code [] e ∧ e.jobState = jsArmed ∧ e.vci.startAt = s.dev.vci.startAt ∧ keepsMem s.dev e
    (ladder = 0 → refused 0x22) ∧
    (ladder ≠ 0 → narrow ∨ uneven → refused 0x29) ∧
    (ladder ≠ 0 → ¬narrow → ¬uneven → 1 < devs → lost ∨ (∃ a < devs, ∃ b < devs, s.dev.pairOk a b = false) → refused 0x41) ∧
    (ladder ≠ 0 → ¬narrow → ¬uneven → devs ≤ 1 ∨ s.dev.routesOk = true → wild → refused 0x42) ∧
    (ladder ≠ 0 → ¬narrow → ¬uneven → devs ≤ 1 ∨ s.dev.routesOk = true → ¬wild →
      (start < s.dev.tb.tbc + s.dev.fld Reg.mrBarLead 15 0 → refused 9) ∧
      (s.dev.tb.tbc + s.dev.fld Reg.mrBarLead 15 0 ≤ start → Does .jobRun s fun e =>
        e.vci.startAt = some (start, cmdArg c 2) ∧ e.jobState = jsArmed ∧ e.jobHead 0x12 = some { c with begun := true } ∧
        keepsMem s.dev e))) ∧
  (∀ s : State, s.dev.vci.startAt = none → Does .jobStart s fun e => e = s.dev) ∧
  (∀ (s : State) (c : VciCmd) (start t0 : Nat), s.dev.vci.startAt = some (start, t0) → s.dev.tbOn = true →
    s.dev.tb.tbc ≤ start → start < 2 ^ 64 → t0 < 2 ^ 32 → s.dev.jobHead 0x12 = some c →
    Does .jobStart s fun e =>
      s.dev.answered c 0 [t0] e ∧ e.jobState = jsRunning ∧ e.flow = true ∧ e.openTick = t0 ∧ e.tb.tbc = start ∧
      e.rn64 Reg.mrTstartLo Reg.mrTstartHi = start ∧ e.bar.tbase = start ∧ e.bar.t0 = t0 ∧ e.bar.lastClose = start ∧
      e.vci.startAt = none ∧ e.rn Reg.lkLinksDown = 0) ∧
  (∀ (s : State) (c : VciCmd), s.dev.jobCmd 0x13 = some c → c.begun = false → s.dev.jobState = jsRunning →
    Does .jobDrain s fun e =>
      e.flag Reg.mrStat 3 = true ∧ e.bar.drainTick = some ((s.dev.openTick + b2n (s.dev.flag Reg.mrStat 5)) % 2 ^ 32) ∧
      e.flume.drain = true ∧ e.jobHead 0x13 = some { c with begun := true } ∧ e.jobState = jsRunning ∧ keepsMem s.dev e) ∧
  (∀ (s : State) (c : VciCmd), s.dev.jobCmd 0x14 = some c → c.begun = false → s.dev.jobState = jsDrained →
    s.dev.isSystemRoot = false →
    Does .jobResume s fun e =>
      e.flow = true ∧ e.flag Reg.mrStat 4 = false ∧ e.flag Reg.mrStat 3 = false ∧ e.flume.drain = false ∧
      e.vci.resume = some s.dev.openTick ∧ e.jobHead 0x14 = some { c with begun := true } ∧ keepsMem s.dev e)

/-- JOB_STOP (R398): a job whose streams are closed, whose fabric is at rest and whose records are with the host ends; an
unfinished one goes on stopping. -/
def Piece.JobStopEndsTheJob : Prop :=
  ∀ (s : State) (c : VciCmd), s.dev.vci.split = none → s.dev.jobCmd 0x15 = some c → c.begun = false → s.dev.jobOn = true →
    (∀ n : Fin 64, s.dev.strOpen n = false) → s.dev.flow = false → s.dev.vci.active = [] →
    (s.dev.rqUsed = 0 → s.dev.forwarding = false → Does .jobStop s fun e =>
      (∃ n, s.dev.answered c 0 [n] e) ∧ e.jobState = jsLoaded ∧ e.flow = false ∧ (∀ n : Fin 256, (e.nc n).inJob = false) ∧
      e.vci.startAt = none ∧ e.flag Reg.flmStat 0 = false ∧ e.flume.staged = [] ∧ e.jn.active = []) ∧
    (s.dev.rqUsed ≠ 0 → Does .jobStop s fun e =>
      e.jobState = s.dev.jobState ∧ e.jobHead 0x15 = some { c with begun := true } ∧ e.flume.drain = true)

/-- Run, drain, resume and stop. Choices of the model in it: a command whose conditions do not hold leaves the machine as it was
(log entry 7); a split stop does not wait for the drain (log entry 20). -/
def Obligations.JobRunDrainResumeStop : Prop := Piece.RunStartDrainResume ∧ Piece.JobStopEndsTheJob

/-- A sample as the sections and the envelopes of the Sentinel take it: section k with SRC 0, and envelope k with SRC 0 (R424,
R425). -/
def senFiltered (d e : Dev) (x : Int) : Prop :=
  e.sen.sample = x ∧
  (∀ k : Fin 8, d.fld (Reg.senBqCfg k) 3 0 = 0 →
    let b := d.sen.bq.get {} k
    let co (a : Nat) : Int := signedOf 20 (d.rn a)
    e.sen.bq.get {} k = ⟨x, b.x1, clampI (-0x800000) 0x7FFFFF (roundDiv (co (Reg.senBqB0 k) * x + co (Reg.senBqB1 k) * b.x1 +
      co (Reg.senBqB2 k) * b.x2 - co (Reg.senBqA1 k) * b.y1 - co (Reg.senBqA2 k) * b.y2) 262144), b.y1⟩) ∧
  (∀ k : Fin 4, d.fld (Reg.senEnvCfg k) 3 0 = 0 →
    let t := min x.natAbs 0x7FFFFF * 256
    let y := d.sen.env.get 0 k
    e.sen.env.get 0 k = (if y < t then y + (t - y) / 2 ^ d.fld (Reg.senEnvCfg k) 11 8
      else y - (y - t) / 2 ^ d.fld (Reg.senEnvCfg k) 15 12))

/-- Samples (R422-R425): the deserialiser locks on 64 good frames and loses its lock with a bad one; without decimation a sample
enters the FIFO of 4 entries, or is counted as lost where that is full; what the FIFO held passes the sections and the
envelopes. -/
def Piece.SentinelSamples : Prop :=
  (∀ (s : State) (v : BitVec 16) (good taken : Bool), s.dev.senOn = false → taken = false ∨ s.dev.sen.fifo = [] →
    Does (.sentinelSample v good taken) s fun e => e = s.dev) ∧
  (∀ (s : State) (v : BitVec 16), s.dev.senOn = true →
    Does (.sentinelSample v false false) s fun e =>
      e.flag Reg.senStat 1 = false ∧ e.sen = { s.dev.sen with frames := 0 } ∧ keepsRegs [Reg.senStat] s.dev e) ∧
  (∀ (s : State) (v : BitVec 16), s.dev.senOn = true → s.dev.flag Reg.senStat 1 = false →
    Does (.sentinelSample v true false) s fun e =>
      e.flag Reg.senStat 1 = decide (63 ≤ s.dev.sen.frames) ∧ e.rn Reg.senSamples = s.dev.rn Reg.senSamples ∧
      keepsRegs [Reg.senStat] s.dev e) ∧
  (∀ (s : State) (v : BitVec 16), s.dev.senOn = true → s.dev.flag Reg.senStat 1 = true →
    63 ≤ s.dev.sen.frames → s.dev.fld Reg.senSdiCfg 3 0 = 0 → s.dev.sen.sum = 0 →
    Does (.sentinelSample v true false) s fun e =>
      e.rn Reg.senSamples = (s.dev.rn Reg.senSamples + 1) % 2 ^ 32 ∧
      bit (e.view Reg.senStat) 2 = (e.sen.fifo.length == 4) ∧
      (4 ≤ s.dev.sen.fifo.length → e.sen.fifo = s.dev.sen.fifo ∧ e.rn Reg.senOvr = (s.dev.rn Reg.senOvr + 1) % 2 ^ 32) ∧
      (s.dev.sen.fifo.length < 4 → e.sen.fifo = s.dev.sen.fifo ++ [s.dev.senDecode v.toNat * 256] ∧
        e.rn Reg.senOvr = s.dev.rn Reg.senOvr) ∧
      e.sen.sample = s.dev.sen.sample ∧ e.sen.bq = s.dev.sen.bq ∧ e.sen.env = s.dev.sen.env) ∧
  (∀ (s : State) (v : BitVec 16) (good : Bool) (x : Int), s.dev.sen.fifo = [x] →
    (Does (.sentinelSample v good true) s fun e => senFiltered s.dev e x) ∧
    (s.dev.senOn = true → s.dev.held unitSentinel = false → Does .sentinelTick s fun e => senFiltered s.dev e x ∧ e.sen.fifo = []))

/-- Ticks (R426-R430): off or held, the Sentinel does nothing; a tick without events and rules counts on and sends the channel
events; the rest sweep keeps every neuron's differences of ticks (R192); a row's word drives its neuron to a spike at its
threshold; a level rule fires where its envelope reaches its level. -/
def Piece.SentinelTicks : Prop :=
  (∀ s : State, (s.dev.senOn = false ∨ s.dev.held unitSentinel = true) → Does .sentinelTick s fun e => e = s.dev) ∧
  (∀ s : State, s.dev.senOn = true → s.dev.held unitSentinel = false → s.dev.sen.fifo = [] → s.dev.sen.next = [] →
    (∀ r : Fin 32, s.dev.fld (Reg.senRuleCond r) 31 28 = 0) → 32 ≤ s.dev.fld Reg.senCtl 15 0 →
    Does .sentinelTick s fun e =>
      e.rn Reg.senTick = (s.dev.rn Reg.senTick + 1) % 2 ^ 32 ∧ e.sen.next = s.dev.senChannels ∧ e.sen.edges = 0 ∧
      e.sen.gtEvents = 0 ∧
      (∀ i : Fin 1024, (s.dev.rn Reg.senTick + 2 ^ 32 - (s.dev.senNeu i).tlast) % 2 ^ 32 ≤ 255 →
        (s.dev.rn Reg.senTick + 2 ^ 32 - (s.dev.senNeu i).tspike) % 2 ^ 32 < 2 ^ 24 →
        e.sen.state.get 0 i = s.dev.sen.state.get 0 i) ∧
      (∀ i : Fin 1024, 255 < (s.dev.rn Reg.senTick + 2 ^ 32 - (s.dev.senNeu i).tlast) % 2 ^ 32 →
        (e.senNeu i).tlast = s.dev.rn Reg.senTick ∧ (e.senNeu i).ath = 0 ∧
        (e.senNeu i).v = if bit (s.dev.senPset (s.dev.senNeu i).pset 1) 30 then 0 else (s.dev.senNeu i).v) ∧
      (∀ i : Fin 1024, 2 ^ 24 ≤ (s.dev.rn Reg.senTick + 2 ^ 32 - (s.dev.senNeu i).tspike) % 2 ^ 32 →
        (e.senNeu i).mlast = 0 ∧ (e.senNeu i).head = false) ∧ onlyRegs [Reg.senTick] s.dev { e with sen := s.dev.sen }) ∧
  (∀ (s : State) (x : SenEvent) (y : Syn), s.dev.senOn = true → s.dev.held unitSentinel = false → s.dev.sen.fifo = [] →
    s.dev.sen.next = [x] →
    let h := s.dev.sen.header.get 0 x.header
    hdValid h = true → (walkRow (hdBlock h) 0 (s.dev.senRow h)).1 = [y] → y.tgt < 1024 → (s.dev.senNeu y.tgt).pset < 8 →
    (∀ r : Fin 32, s.dev.fld (Reg.senRuleCond r) 31 28 = 0) →
    let p := (s.dev.senNeu y.tgt).pset
    let a := clampI (-0x800000) 0x7FFFFF (truncDiv (y.w * (x.mult * (if hdGraded h then x.payload else 256) *
      2 ^ bits (s.dev.sen.pset.get 0 (8 * p + 1)) 27 24 : Nat)) 256)
    let f := s.dev.senFireOne (s.dev.rn Reg.senTick) y.tgt a
    Does .sentinelTick s fun e =>
      e.sen.state.get 0 y.tgt = neuWord f.1 ∧
      e.rn Reg.senSpikes = (s.dev.rn Reg.senSpikes + b2n (f.2 != 0)) % 2 ^ 32 ∧
      e.rn Reg.senTick = (s.dev.rn Reg.senTick + 1) % 2 ^ 32) ∧
  (∀ s : State, s.dev.senOn = true → s.dev.held unitSentinel = false → s.dev.sen.fifo = [] → s.dev.sen.next = [] →
    s.dev.fld (Reg.senRuleCond 0) 31 28 = 2 → s.dev.fld (Reg.senRuleCond 0) 25 16 < 4 →
    s.dev.fld (Reg.senRuleCond 0) 15 8 = 1 → 1 ≤ s.dev.fld (Reg.senRuleCond 0) 7 0 → s.dev.rn (Reg.senRuleAct 0) = 0 →
    s.dev.sen.hist.get [] 0 = [] →
    (∀ r : Fin 31, s.dev.fld (Reg.senRuleCond (r + 1)) 31 28 = 0) →
    Does .sentinelTick s fun e =>
      e.rn (Reg.senRuleFired 0) = (s.dev.rn (Reg.senRuleFired 0) +
        b2n (decide (s.dev.rn (Reg.senRuleLvl 0) ≤ s.dev.rn (Reg.senEnvVal (s.dev.fld (Reg.senRuleCond 0) 25 16))))) % 2 ^ 32)

/-- Sentinel samples and ticks. Choices of the model in it: a command whose conditions do not hold leaves the machine as it was
(log entry 7); a sample is taken from the first frame after lock and the emptying of the FIFO is an operand (log entry 76);
the Sentinel rest sweep visits all neurons at the end of the tick (log entry 133). -/
def Obligations.SentinelSamplesAndTicks : Prop := Piece.SentinelSamples ∧ Piece.SentinelTicks

/-- The Sentinel's memory (R434): each access moves the address on; a word written reads back; a write while the Sentinel runs is
ignored. Choices of the model in it: a command whose conditions do not hold leaves the machine as it was (log entry 7). -/
def Obligations.SentinelMemory : Prop :=
  (∀ (s : State) (v : Word) (m : Master), s.dev.fenced Reg.senMemData = false → s.dev.reaches m = true → s.dev.senOn = true →
    Does (.senMemAccess true v m) s fun e => e = s.dev.activity) ∧
  (∀ (s : State) (v : Word) (m : Master), s.dev.fenced Reg.senMemData = false → s.dev.reaches m = true → s.dev.senOn = false →
    let a := s.dev.rn Reg.senMemAddr
    Does (.senMemAccess true v m) s fun e =>
      (a < 0x1040 ∨ (0x1100 ≤ a ∧ a < 0x1500) ∨ (0x1800 ≤ a ∧ a < 0x1A00) ∨ (0x2000 ≤ a ∧ a < 0x3000) ∨
        (0x10000 ≤ a ∧ a < 0x18000) → e.senMemGet a = v.toNat) ∧
      e.rn Reg.senMemAddr = (a + 1) % 131072 ∧ onlyRegsAct [Reg.senMemAddr] s.dev { e with sen := s.dev.sen }) ∧
  (∀ (s : State) (v : Word) (m : Master), s.dev.fenced Reg.senMemData = false → s.dev.reaches m = true →
    Does (.senMemAccess false v m) s fun e =>
      e.lastRead = [BitVec.ofNat 32 (s.dev.senMemGet (s.dev.rn Reg.senMemAddr))] ∧
      e.rn Reg.senMemAddr = (s.dev.rn Reg.senMemAddr + 1) % 131072 ∧
      onlyRegsAct [Reg.senMemAddr] s.dev { e with lastRead := s.dev.lastRead })

/-- A failed check is met by a functional read, or the Dredger scrubs its memory and finds it (R440, R444). -/
def meets (d : Dev) (x : Site) (byDredger : Bool) : Bool :=
  !byDredger || (match siteKind x with
    | some k => k != 11 && d.dredges k
    | none => false)

/-- The response to an error logs none of its own: a cached row that is refetched displaces no modified one (R210, R440). -/
def logsOnce (d : Dev) (x : Site) : Bool :=
  match x with
  | .ncCache n _ _ => (d.nc n).cached.all (fun c => c.dirty.isEmpty)
  | _ => true

/-- Slot of the newest unhandled entry of a log. -/
def newestSlot (l : ErrLog) : Nat := (match l.todo.getLast? with | some t => t.num | none => 0) % 8

/-- Unhandled entries of a log that the cycle at a TBC appended. -/
def entriesNow (tbc : Nat) (l : ErrLog) : List ErrTodo := l.todo.filter (fun t => t.entry.toNat / 2 ^ 64 == tbc % 2 ^ 64)

/-- Those entries as the log holds them, in append order, ascend in SOURCE, then in ADDR (R447). -/
def entriesAscend (tbc : Nat) (l : ErrLog) : Prop :=
  ((entriesNow tbc l).map (fun (t : ErrTodo) => (l.entries.get 0 (t.num % 8)).toNat)).Pairwise (fun x y => errBefore y x = false)

/-- A failed check (R440, R446, R447, R448): a memory that is off has none; else its unit's class counter counts it, and it is
coalesced with the newest unhandled entry, appended, or lost from a full log, which then holds its unit. A FATAL error puts
the device in basic mode (R450). -/
def Piece.FailedChecks : Prop :=
  (∀ (s : State) (x : Site) (b : Bool), s.dev.siteLives x = false → Does (.parityError x b) s fun e => e = s.dev) ∧
  (∀ (s : State) (x : Site) (b : Bool), s.dev.siteLives x = true → s.dev.siteCls x = clsData → meets s.dev x b = true →
    Does (.parityError x b) s fun e => (s.dev.log (siteUnit x)).cntData + 1 ≤ (e.log (siteUnit x)).cntData) ∧
  (∀ (s : State) (x : Site) (b : Bool), s.dev.siteLives x = true → s.dev.siteCls x ≠ clsFatal → meets s.dev x b = true →
    logsOnce s.dev x = true →
    let u := siteUnit x
    let l := s.dev.log u
    let tbc := s.dev.tb.tbc
    let entry (nested : Bool) : Nat :=
      entryOf (s.dev.siteCls x) (siteSource x) (s.dev.siteIndex x) (s.dev.siteAddr x) nested b tbc
    let newest := l.entries.get 0 (newestSlot l)
    let same := l.todo ≠ [] ∧ entryKey newest.toNat = entryKey (entry false)
    Does (.parityError x b) s fun e =>
      let m := e.log u
      (s.dev.siteCls x = clsData → m.cntData = l.cntData + 1 ∧ m.cntFail = l.cntFail) ∧
      (s.dev.siteCls x = clsFail → m.cntFail = l.cntFail + 1 ∧ m.cntData = l.cntData) ∧
      (same → m.wr = l.wr ∧ m.hnd = l.hnd ∧ m.lost = l.lost ∧ m.held = l.held ∧ m.todo = l.todo ∧
        m.entries.get 0 (newestSlot l) = BitVec.ofNat 128 (putBits newest.toNat 63 56 (min 255 (bits newest.toNat 63 56 + 1)))) ∧
      (¬same → l.wr - l.hnd < 8 → m.wr = l.wr + 1 ∧ m.hnd = l.hnd ∧ m.lost = l.lost ∧ m.held = l.held ∧
        m.todo.length = l.todo.length + 1 ∧ e.rn Reg.errAppends = (s.dev.rn Reg.errAppends + 1) % 2 ^ 32 ∧
        (entriesNow tbc l = [] → m.todo = l.todo ++ [⟨l.wr, BitVec.ofNat 128 (entry (!l.todo.isEmpty)), some x⟩] ∧
          m.entries.get 0 (l.wr % 8) = BitVec.ofNat 128 (entry (!l.todo.isEmpty)))) ∧
      (¬same → 8 ≤ l.wr - l.hnd → m.wr = l.wr ∧ m.hnd = l.hnd ∧ m.lost = l.lost + 1 ∧ m.held = (l.held || holds u) ∧
        m.todo.length = l.todo.length ∧ (entriesNow tbc l = [] → m.todo = l.todo ∧ m.entries = l.entries)) ∧
      (¬same → ((entriesNow tbc l).map (fun (t : ErrTodo) => t.num % 8) ++ [l.wr % 8]).Nodup → entriesAscend tbc l → entriesAscend tbc m)) ∧
  (∀ (s : State) (b : Bool), s.dev.pwrState ≤ 1 →
    (∀ (n : Fin 256) (w : BitVec 24), s.dev.absentReg (Reg.ncStat n) = false →
      Does (.parityError (.ncControl n w) false) s fun e => (e.nc n).failed = true) ∧
    (∀ (n : Fin 256) (p : Fin 2) (i : Fin 16384), s.dev.absentReg (Reg.ncStat n) = false →
      Does (.parityError (.ncAcc n p i) false) s fun e => (e.nc n).acc.get 0 (accKey p i) = 0) ∧
    (∀ i : Fin 4096, meets s.dev (.windowCounter i) b = true →
      Does (.parityError (.windowCounter i) b) s fun e => e.jn.wctr.get 0 i = 0) ∧
    (∀ (k : Fin 64) (l : Fin 8192), s.dev.pondOn k = true → meets s.dev (.pond k l) b = true →
      Does (.parityError (.pond k l) b) s fun e => e.readBad (k * 0x80000 + l * 64) 64 = true)) ∧
  (∀ (s : State) (n : Fin 256) (w : BitVec 24), s.dev.pwrState ≤ 1 → s.dev.absentReg (Reg.ncStat n) = false →
    s.dev.basic = false →
    Does (.parityError (.router n w) false) s fun e =>
      e.rn Reg.errStat = 2 ^ 31 + n.val ∧ e.basic = true ∧ (e.log n).cntFatal = (s.dev.log n).cntFatal + 1)

/-- The MP handles entries one at a time, the most severe first (R449); the log's count moves on and a hold ends (R448). -/
def Piece.ErrorHandling : Prop :=
  (∀ s : State, (2 < s.dev.pwrState ∨ s.dev.nextTodo = none) → Does .errorHandle s fun e => e = s.dev) ∧
  (∀ (s : State) (u : Nat) (t : ErrTodo), s.dev.pwrState ≤ 2 → s.dev.nextTodo = some (u, t) →
    (t.site = none → t.entry.toNat % 16 ≠ clsEvent → Does .errorHandle s fun e =>
      (e.log u).hnd = (s.dev.log u).hnd + 1 ∧ (e.log u).held = false ∧
      (e.log u).todo = (s.dev.log u).todo.filter (fun x => x.num != t.num) ∧
      e = { s.dev with errs := e.errs } ∧ ∀ v : Fin 512, v.val ≠ u → e.log v = s.dev.log v) ∧
    (∀ (n : Fin 256) (w : BitVec 24), t.site = some (.ncControl n w) → u = n.val → Does .errorHandle s fun e =>
      e.flag (Reg.ncStat n) 7 = true ∧ (s.dev.flag (Reg.ncStat n) 7 = false → e.flag (Reg.rtStat n) 0 = true) ∧
      (e.log u).hnd = (s.dev.log u).hnd + 1)) ∧
  (∀ (s : State) (u : Nat) (t : ErrTodo), s.dev.nextTodo = some (u, t) →
    (s.dev.errs.cells.all (fun c => c.2.todo.all (fun x => !keyLt (todoKey c.1 x) (todoKey u t)))) = true)

/-- Failed checks, their logs and their handling. Choices of the model in it: a command whose conditions do not hold leaves the
machine as it was (log entry 7); error sources the manual does not number are open (log entry 29); one cycle of the mesh is
one TBC period (log entry 119); where errors lie (log entry 139). -/
def Obligations.FailedChecksAndTheirHandling : Prop := Piece.FailedChecks ∧ Piece.ErrorHandling

/-- The Dredger (R444) and the DDR5 patrol (R445): a kind that is enabled goes on by one word; what it finds is counted and
answered like any failed check. Choices of the model in it: a command whose conditions do not hold leaves the machine as it
was (log entry 7). -/
def Obligations.DredgerAndPatrol : Prop :=
  (∀ (s : State) (k : Fin 12) (f : Option Site), s.dev.dredges k = false → Does (.dredgerRead k f) s fun e => e = s.dev) ∧
  (∀ (s : State) (k : Fin 12), s.dev.dredges k = true →
    Does (.dredgerRead k none) s fun e =>
      (let x := s.dev.laps.get {} k
       let y := e.laps.get {} k
       (x.pos + 1 < s.dev.lapWords k → y = { x with pos := x.pos + 1 }) ∧
       (s.dev.lapWords k ≤ x.pos + 1 → y.pos = 0 ∧ y.laps = x.laps + 1 ∧ y.began = s.dev.tb.tbc)) ∧
      e = { s.dev with laps := e.laps } ∧ ∀ j : Fin 12, j ≠ k → e.laps.get {} j = s.dev.laps.get {} j) ∧
  (∀ (s : State) (k : Fin 12) (x : Site), s.dev.dredges k = true → siteKind x = some k.val → k ≠ 11 →
    s.dev.siteLives x = true → s.dev.siteCls x = clsData →
    Does (.dredgerRead k (some x)) s fun e =>
      (e.laps.get {} k).found = (s.dev.laps.get {} k).found + 1 ∧
      (e.log (siteUnit x)).cntData = (s.dev.log (siteUnit x)).cntData + 1) ∧
  (∀ (s : State) (l : BitVec 33) (fails : Bool),
    let a := ddrBase + l.toNat * 64
    ((s.dev.dredges 11 = false ∨ s.dev.fld Reg.drgDdrRate 15 0 = 0 ∨ s.dev.isDdr a = false ∨ s.dev.patrolled a = false) →
      Does (.ddrPatrolRead l fails) s fun e => e = s.dev) ∧
    (s.dev.dredges 11 = true → s.dev.fld Reg.drgDdrRate 15 0 ≠ 0 → s.dev.isDdr a = true → s.dev.patrolled a = true →
      Does (.ddrPatrolRead l fails) s fun e =>
        (fails = false → e.readBad a 64 = false ∧ e.regs = s.dev.regs) ∧
        (fails = true → e.readBad a 64 = true ∧ e.rn Reg.drgGoldenErr = (s.dev.rn Reg.drgGoldenErr + 1) % 2 ^ 32) ∧
        keepsMem s.dev e))

/-- The registers that show the fuses. -/
def fuseRegs : List Nat :=
  [Reg.glbIdent, Reg.glbVariant, Reg.pwrCap, Reg.pwrTlim, Reg.secLc, Reg.secSvn, Reg.secKeyslot, Reg.secTamper]

/-- Resets (R7, R455, R456, R494): every register at its reset value but those that show the fuses; on-die memory and DDR5 gone,
host memory as before. The Sentinel block, its log and memories, the AON retention and the tamper record outlive every reset
but power-on. Choices of the model in it: the reset values the manual does not give (log entry 1); a byte that nothing has
written reads as 0 (log entry 5); a command whose conditions do not hold leaves the machine as it was (log entry 7). -/
def Obligations.ResetsOfTheDevice : Prop :=
  let blank (e : Dev) : Prop :=
    (∀ a, a < Dev.hostBase → e.byte a = 0) ∧ e.tb.tbc = 0 ∧ e.tb.running = false ∧ e.bootStep = 0 ∧ e.ready = false ∧
    e.vci = {} ∧ e.harts = ⟨[]⟩ ∧ e.mp = {} ∧ e.sec.tampered = false ∧ e.sec.vault = ⟨[]⟩ ∧ e.pwrState = psRun ∧ e.pins.enCore = false
  let after (d e : Dev) : Prop :=
    (∀ a, a ∉ fuseRegs → e.reg a = if aonReg a then d.reg a else regReset a) ∧ e.sen = d.sen ∧ e.sec.ret = d.sec.ret ∧
    e.fuses = d.fuses ∧ (∀ a, Dev.hostBase ≤ a → e.byte a = d.byte a) ∧ e.fld Reg.secTamper 3 0 = d.fld Reg.secTamper 3 0 ∧ blank e
  (∀ s : State, Does .powerOnReset s fun e =>
    (∀ a, a ∉ fuseRegs → e.reg a = regReset a) ∧ e.reg Reg.glbIdent = BitVec.ofNat 32 s.dev.fuses.ident ∧
    e.reg Reg.glbVariant = BitVec.ofNat 32 s.dev.fuses.variant ∧ e.reg Reg.secLc = BitVec.ofNat 32 s.dev.fuses.lc ∧
    e.fld Reg.secSvn 5 0 = s.dev.fuses.svn % 64 ∧ e.sen = {} ∧ e.sec.ret = {} ∧ e.fuses = s.dev.fuses ∧
    (∀ a, Dev.hostBase ≤ a → e.byte a = s.dev.byte a) ∧ e.fld Reg.secTamper 3 0 = 0 ∧ blank e) ∧
  (∀ s : State, s.dev.resetAllowed = true → Does .sysRstNAssert s fun e => after s.dev e ∧ e.pins.sysRstN = false) ∧
  (∀ s : State, s.dev.resetAllowed = false →
    Does .sysRstNAssert s fun e => e = { s.dev with pins := { s.dev.pins with sysRstN := false } }) ∧
  (∀ (s : State) (m : Master), s.dev.fenced 8 = false → s.dev.reaches m = true → s.dev.resetAllowed = true →
    Does (.glbResetWrite 0xA5A m) s fun e => after s.dev e) ∧
  (∀ (s : State) (v : Word) (m : Master), s.dev.fenced 8 = false → s.dev.reaches m = true → v ≠ 0xA5A →
    Does (.glbResetWrite v m) s fun e =>
      e.rn Reg.glbResetBad = (s.dev.rn Reg.glbResetBad + 1) % 2 ^ 32 ∧ onlyRegsAct [Reg.glbResetBad] s.dev e)

/-- Power-up (R457, R479, R482-R484): the AON step, held while SYS_RST_N is low, asserts EN_CORE; PG_MAIN asserts EN_SD; a supply
that is not good in time stops the sequence with cause 7, and one that fails later is a tamper. -/
def Piece.SuppliesAtPowerUp : Prop :=
  (∀ s : State, s.dev.atStep 0 = true →
    Does .bootAon s fun e =>
      e.bootStep = (if s.dev.pins.sysRstN then 2 else 1) ∧ e.pins.enCore = (s.dev.pins.sysRstN || s.dev.pins.enCore) ∧
      e.fld Reg.pwrSupplyStat 10 8 = s.dev.pins.straps % 8 ∧
      onlyRegs [Reg.pwrSupplyStat, Reg.secBootStat] { s.dev with pins := e.pins } e) ∧
  (∀ s : State, s.dev.atStep 1 = true →
    Does .sysRstNRelease s fun e =>
      e.pins.sysRstN = true ∧ e.bootStep = 2 ∧ e.pins.enCore = true ∧ e.pins.padsHeld = s.dev.pins.padsHeld ∧
      onlyRegs [Reg.pwrSupplyStat, Reg.secBootStat] { s.dev with pins := e.pins } e) ∧
  (∀ s : State, s.dev.atStep 1 = false →
    Does .sysRstNRelease s fun e => e = { s.dev with pins := { s.dev.pins with sysRstN := true } }) ∧
  (∀ s : State, Does .pgMainHigh s fun e =>
    e.pins = { s.dev.pins with pgMain := true, enSd := s.dev.pins.enCore } ∧
    bits (e.view Reg.pwrSupplyStat) 3 1 = 4 + 3 * b2n s.dev.pins.enCore ∧
    bits (e.view Reg.pwrSupplyStat) 10 8 = s.dev.fld Reg.pwrSupplyStat 10 8 ∧
    onlyRegs [] { s.dev with pins := e.pins } e) ∧
  (∀ s : State, s.dev.atStep 2 = true → s.dev.pins.enSd = true → s.dev.pins.pgMain = true →
    Does .bootSupplies s fun e => e.bootStep = 3 ∧ e.tb.running = true ∧ e.tb.tbc = s.dev.tb.tbc ∧ keepsMem s.dev e) ∧
  (∀ s : State, (s.dev.atStep 2 = false ∨ s.dev.pins.enSd = false ∨ s.dev.pins.pgMain = false) →
    Does .bootSupplies s fun e => e = s.dev) ∧
  (∀ s : State, s.dev.atStep 2 = true → s.dev.pins.enCore = true → s.dev.pins.pgMain = false →
    Does .supplyTimeout s fun e =>
      e.pins.enCore = false ∧ e.bootCause = 7 ∧ e.bootStep = 2 ∧ e.flag Reg.secBootStat 31 = false ∧
      keepsRegs [Reg.secBootStat, Reg.pwrSupplyStat] s.dev e ∧ keepsMem s.dev e) ∧
  (∀ s : State, (s.dev.pins.enCore = false ∨ s.dev.pins.pgMain = true) → Does .supplyTimeout s fun e => e = s.dev) ∧
  (∀ s : State, s.dev.pins.pgMain = false →
    Does .pgMainLow s fun e => e = s.dev) ∧
  (∀ s : State, s.dev.pins.pgMain = true → s.dev.pins.enCore = true →
    Does .pgMainLow s fun e =>
      e.pins.pgMain = false ∧ e.flag Reg.secTamper 1 = true ∧ e.sec.tampered = true ∧ e.sec.vault = ⟨[]⟩)

/-- Bring-up (R457, R458, R464, R466, R470): each step runs only as the one in progress, and goes to the next in order; a warm
restart goes from step 6 to step 10; step 11 releases the cores at the runtime's entry address (R303) and ends READY, or in
basic mode where a memory without a spare failed. -/
def Piece.BringUpSteps : Prop :=
  (∀ s : State, s.dev.atStep 3 = true →
    Does .bootFuses s fun e =>
      e.bootStep = (if s.dev.fuses.lc = 5 then 3 else 4) ∧ e.reg Reg.glbVariant = BitVec.ofNat 32 s.dev.fuses.variant ∧
      e.reg Reg.secLc = BitVec.ofNat 32 s.dev.fuses.lc ∧ onlyRegs (Reg.secBootStat :: fuseRegs) s.dev e) ∧
  (∀ s : State, s.dev.atStep 4 = true → s.dev.sec.romWait = false →
    Does .bootRom s fun e =>
      e.sec = { s.dev.sec with romWait := true } ∧ e.mp.held = false ∧ e.bootStep = 4 ∧ (s.dev.pins.perstN = true → e.flag Reg.hifStat 0 = true) ∧
      keepsRegs [Reg.hifStat, Reg.pwrPadHold] s.dev e) ∧
  (∀ (s : State) (v : Word), s.dev.fenced Reg.secBootCtl = false →
    let run : Prop := v.getLsbD 0 = true ∧ s.dev.bootStep = 4 ∧ s.dev.sec.romWait = true ∧ s.dev.sec.tampered = false ∧
      s.dev.pins.tamperN = true
    (run → Does (.bootGo v) s fun e =>
      e.bootStep = 5 ∧ e.bootCause = 0 ∧ e.sec = { s.dev.sec with go := true, warm := v.getLsbD 2 } ∧ e.flag Reg.secBootCtl 2 = v.getLsbD 2 ∧
      keepsRegs [Reg.secBootCtl, Reg.secBootStat] s.dev e ∧ keepsMem s.dev e) ∧
    (¬ run → Does (.bootGo v) s fun e => e.flag Reg.secBootCtl 2 = v.getLsbD 2 ∧ onlyRegsAct [Reg.secBootCtl] s.dev e)) ∧
  (∀ (s : State) (f : List (BitVec 4 × BitVec 12 × DWord)) (n : Option Site), s.dev.atStep 7 = true →
    Does (.bootSramBist f n) s fun e => e.bootStep = 8 ∧ e.sec.fatal = (if s.dev.sec.fatal.isSome then s.dev.sec.fatal else n) ∧ keepsMem s.dev e) ∧
  (∀ (s : State) (c : List (Fin 100 × DWord)), s.dev.atStep 8 = true →
    Does (.bootFlumeSelfTest c) s fun e => e.bootStep = 9 ∧
      (∀ x ∈ c, s.dev.isC2 = false ∨ x.1.val < 50 → (kindColumn, x.1.val) ∈ e.sec.failed.map (fun f => (f.kind, f.index))) ∧
      (∀ x ∈ s.dev.sec.failed, x ∈ e.sec.failed) ∧ keepsMem s.dev e) ∧
  (∀ (s : State) (c : List (Fin 272 × DWord)), s.dev.atStep 9 = true →
    Does (.bootNcSelfTest c) s fun e => e.bootStep = 10 ∧ e.sec.failed = [] ∧
      e.sec.ret.warms = 0 ∧ e.rn Reg.secWarmCount = 0 ∧
      (∀ x ∈ c, s.dev.isC2 = false → s.dev.sec.warm = false → (kindNc, x.1.val) ∈ e.sec.off)) ∧
  (∀ s : State, s.dev.atStep 10 = true →
    Does .bootLeat s fun e => e.bootStep = 11 ∧ e.flag Reg.lkCtl 1 = false ∧
      onlyRegs [Reg.lkCtl, Reg.mrBarLead, Reg.secBootStat] s.dev { e with free := s.dev.free }) ∧
  (∀ (s : State) (ms : Word), s.dev.atStep 11 = true → s.dev.sec.fatal = none →
    Does (.bootRuntime ms) s fun e =>
      e.flag Reg.secBootStat 31 = true ∧ e.flag Reg.secBootStat 30 = s.dev.sec.warm ∧ e.reg Reg.secBootMs = ms ∧
      e.vci.coresDown = s.dev.offCores ∧ e.pwrState = s.dev.pwrState ∧
      (∀ k : Fin 16, bit s.dev.offCores k = false → bit s.dev.vci.coresStopped k = false →
        e.coreRuns k = true ∧ (e.hart k).mode = .m ∧ (e.hart k).pc = (Config.runtimeEntry s.dev.sec.runtime).toNat)) ∧
  (∀ (s : State) (ms : Word) (x : Site), s.dev.atStep 11 = true → s.dev.sec.fatal = some x →
    Does (.bootRuntime ms) s fun e => e.basic = true ∧ e.ready = false ∧ e.reg Reg.secBootMs = ms ∧
      e.rn Reg.errStat = 2 ^ 31 + siteUnit x ∧ (e.log (siteUnit x)).cntFatal = (s.dev.log (siteUnit x)).cntFatal + 1) ∧
  (∀ (s : State) (ms : Word) (b : List (BitVec 4 × BitVec 12 × DWord)) (n : Option Site) (c : List (Fin 100 × DWord)) (u : List (Fin 272 × DWord)),
    let out (k : Nat) (x : Instr) : Prop := s.dev.atStep k = false → Does x s fun e => e = s.dev
    out 0 .bootAon ∧ out 2 .bootSupplies ∧ out 3 .bootFuses ∧ out 4 .bootRom ∧ out 5 .bootFirmware ∧ out 6 .bootDdr5 ∧
    out 7 (.bootSramBist b n) ∧ out 8 (.bootFlumeSelfTest c) ∧ out 9 (.bootNcSelfTest u) ∧ out 10 .bootLeat ∧
    out 11 (.bootRuntime ms))

/-- Power-up and the steps of bring-up. Choices of the model in it: the entry address of the runtime is an opaque function of its
image (log entry 3); a command whose conditions do not hold leaves the machine as it was (log entry 7); clocks after bring-up
are open (log entry 28). -/
def Obligations.PowerUpAndBringUp : Prop := Piece.SuppliesAtPowerUp ∧ Piece.BringUpSteps

/-- Firmware and runtime (R458, R459, R467, R468, R473): a bundle that fails a check takes the ROM back to its wait with the
check's cause and is counted; one that passes starts the firmware, with its identity. The runtime's hash is checked in step
6. -/
def Piece.FirmwareAndRuntime : Prop :=
  (∀ s : State, s.dev.atStep 5 = true → s.dev.sec.go = true → s.dev.bme = true →
    let a := s.dev.rn64 Reg.secFwBaseLo Reg.secFwBaseHi
    let len := s.dev.rn Reg.secFwLen
    let b := s.dev.bytes (Dev.hostBase + a) len
    let refused (cause : Nat) (e : Dev) : Prop :=
      e.bootStep = 4 ∧ e.bootCause = cause ∧ e.sec = { s.dev.sec with go := false } ∧
      e.rn Reg.secFwRejects = (s.dev.rn Reg.secFwRejects + 1) % 2 ^ 32 ∧
      keepsRegs [Reg.secBootStat, Reg.secFwRejects] s.dev e ∧ keepsMem s.dev e
    (len = 0 → Does .bootFirmware s (refused 1)) ∧
    (len ≠ 0 → 2 ^ 47 < a + len → Does .bootFirmware s (refused 5)) ∧
    (len ≠ 0 → a + len ≤ 2 ^ 47 →
      Does .bootFirmware s fun e =>
        (s.dev.bundleCause b len ≠ 0 → refused (s.dev.bundleCause b len) e) ∧
        (s.dev.bundleCause b len = 0 →
          e.bootStep = 6 ∧ e.sec.header = b.take 160 ∧ e.sec.romWait = false ∧ e.sec.go = false ∧
          e.rn Reg.secRun = e.sec.ret.run % 2 ^ 32 ∧ s.dev.sec.ret.run < e.sec.ret.run ∧ keepsMem s.dev e))) ∧
  (∀ s : State, s.dev.atStep 5 = true → s.dev.sec.go = false → Does .bootFirmware s fun e => e = s.dev) ∧
  (∀ s : State, s.dev.atStep 6 = true → s.dev.sec.trained = true → s.dev.bme = true →
    let c := compOf s.dev.sec.header 2
    let a := Dev.hostBase + s.dev.rn64 Reg.secFwBaseLo Reg.secFwBaseHi
    let bundle := s.dev.bytes a (s.dev.rn Reg.secFwLen)
    let img := (bundle.drop c.2.1).take c.2.2.1
    s.dev.readBad a (s.dev.rn Reg.secFwLen) = false →
    (sha256 img ≠ c.2.2.2 → Does .bootDdr5 s fun e => e.bootCause = 6 ∧ e.bootStep = 6 ∧ onlyRegs [Reg.secBootStat] s.dev e) ∧
    (sha256 img = c.2.2.2 → Does .bootDdr5 s fun e =>
      e.bootStep = (if s.dev.sec.warm then 10 else 7) ∧ e.sec.runtime = sha256 img ∧ e.bytes ddrBase (s.dev.rn Reg.secFwLen) = bundle)) ∧
  (∀ s : State, s.dev.atStep 6 = true → s.dev.sec.trained = false → Does .bootDdr5 s fun e => e = s.dev)

/-- Security version and life cycle (R469-R471): a commit raises the fused version to that of the running bundle, never down and
never in a job; a transition of the table burns the new state and resets the device, any other reports why not. -/
def Piece.VersionAndLifeCycle : Prop :=
  (∀ s : State, s.dev.fenced Reg.secSvnCommit = false →
    let run := s.dev.fld Reg.secSvn 21 16
    (s.dev.jobState ≤ jsLoaded → s.dev.sec.header ≠ [] → s.dev.fuses.svn < run →
      Does .svnCommit s fun e => e.fuses = { s.dev.fuses with svn := run } ∧ e.fld Reg.secSvn 5 0 = run ∧
        e.fld Reg.secSvn 21 16 = run ∧ keepsRegs [Reg.secSvn] s.dev e ∧ keepsMem s.dev e) ∧
    ((jsLoaded < s.dev.jobState ∨ s.dev.sec.header = [] ∨ run ≤ s.dev.fuses.svn) →
      Does .svnCommit s fun e => onlyRegsAct [] s.dev e)) ∧
  (∀ (s : State) (v : Word), s.dev.fenced Reg.secLcCtl = false → s.dev.sec.lcWait = none →
    let tgt := v.toNat % 8
    let idle := (s.dev.bootStep = 4 ∧ s.dev.sec.romWait = true) ∨ (s.dev.flag Reg.secBootStat 31 = true ∧ s.dev.jobState = jsNone)
    let code (k : Nat) (e : Dev) : Prop :=
      e.rn Reg.secLcStat = k ∧ e.rn Reg.secLcCtl = tgt ∧ onlyRegsAct [Reg.secLcCtl, Reg.secLcStat] s.dev e
    let burnt (e : Dev) : Prop :=
      e.fuses = { s.dev.fuses with lc := tgt } ∧ e.reg Reg.secLc = BitVec.ofNat 32 tgt ∧ e.sec.vault = ⟨[]⟩ ∧ e.bootStep = 0 ∧
        e.sec.ret = s.dev.sec.ret
    let tells (k : Nat) : Prop := Does (.lifeCycleGo v) s (code k)
    let token := Dev.hostBase + s.dev.rn64 Reg.secLcTokenLo Reg.secLcTokenHi
    (v.getLsbD 31 = false → Does (.lifeCycleGo v) s fun e => e.rn Reg.secLcCtl = tgt ∧ onlyRegsAct [Reg.secLcCtl] s.dev e) ∧
    (v.getLsbD 31 = true →
      (s.dev.sec.tampered = true → tells 4) ∧
      (s.dev.sec.tampered = false → ¬ idle → tells 3) ∧
      (s.dev.sec.tampered = false → idle → lcAllowed s.dev.fuses.lc tgt = false → tells 1) ∧
      (s.dev.sec.tampered = false → idle → lcAllowed s.dev.fuses.lc tgt = true → tgt ≠ 4 → s.dev.resetAllowed = true → Does (.lifeCycleGo v) s burnt) ∧
      (s.dev.sec.tampered = false → idle → lcAllowed s.dev.fuses.lc tgt = true → tgt = 4 → s.dev.bme = true →
        s.dev.resetAllowed = true → token + 7920 ≤ Dev.hostBase + 2 ^ 47 →
        Does (.lifeCycleGo v) s fun e =>
          (s.dev.readBad token 7920 = true ∨ s.dev.tokenOk (s.dev.bytes token 7920) 4 = false → code 2 e) ∧
          (s.dev.readBad token 7920 = false → s.dev.tokenOk (s.dev.bytes token 7920) 4 = true → burnt e)) ∧
      (s.dev.sec.tampered = false → idle → lcAllowed s.dev.fuses.lc tgt = true → tgt = 4 → s.dev.bme = false →
        token + 7920 ≤ Dev.hostBase + 2 ^ 47 →
        Does (.lifeCycleGo v) s fun e => e.sec.lcWait = some 4 ∧ e.fuses = s.dev.fuses ∧ e.rn Reg.secLcStat = s.dev.rn Reg.secLcStat)))

/-- Firmware, security version and life cycle. Choices of the model in it: the signature scheme and the boot ROM are opaque (log
entry 4); a command whose conditions do not hold leaves the machine as it was (log entry 7). -/
def Obligations.FirmwareVersionAndLifeCycle : Prop := Piece.FirmwareAndRuntime ∧ Piece.VersionAndLifeCycle

/-- Attestation (R474): a request without an identity, after a tamper, or with a bad buffer reports it; one that is served writes
384 bytes and the signature over them, which SEC_ATT_SEQ counts; a request while one is served is counted. -/
def Piece.AttestationReports : Prop :=
  (∀ s : State, s.dev.fenced Reg.secAttCtl = false →
    let tells (v : Nat) : Prop :=
      Does .attestationGo s fun e => e.rn Reg.secAttStat = v ∧ onlyRegsAct [Reg.secAttStat] s.dev e
    let room := s.dev.rn64 Reg.secAttDstLo Reg.secAttDstHi + 17472 ≤ 2 ^ 47
    (s.dev.flag Reg.secAttStat 31 = true →
      Does .attestationGo s fun e => e.rn Reg.secAttIgnored = (s.dev.rn Reg.secAttIgnored + 1) % 2 ^ 32 ∧
        onlyRegsAct [Reg.secAttIgnored] s.dev e) ∧
    (s.dev.flag Reg.secAttStat 31 = false →
      (s.dev.sec.tampered = false → s.dev.idKey = [] → tells 1) ∧ (s.dev.sec.tampered = true → tells 2) ∧
      (s.dev.sec.tampered = false → s.dev.idKey ≠ [] → ¬ room → tells 3) ∧
      (s.dev.sec.tampered = false → s.dev.idKey ≠ [] → room → tells 0x80000000))) ∧
  (∀ s : State, s.dev.flag Reg.secAttStat 31 = true → s.dev.bme = true → s.dev.hostWait.any (fun r => r.sender == .report) = false →
    s.dev.sec.tampered = false →
    let a := s.dev.rn64 Reg.secAttDstLo Reg.secAttDstHi
    a + 17472 ≤ 2 ^ 47 →
    Does .attestationDone s fun e =>
      e.bytes (Dev.hostBase + a) 384 = s.dev.reportBody ∧
      e.bytes (Dev.hostBase + a + 384) 17088 = (Config.slhSign s.dev.idKey s.dev.reportBody ++ zeroBytes 17088).take 17088 ∧
      e.rn Reg.secAttSeq = (s.dev.rn Reg.secAttSeq + 1) % 2 ^ 32 ∧ e.flag Reg.secAttStat 31 = false ∧
      keepsRegs [Reg.secAttSeq, Reg.secAttStat] s.dev e ∧ keepsMemBut 0 0 s.dev e) ∧
  (∀ s : State, s.dev.flag Reg.secAttStat 31 = true → s.dev.hostWait.any (fun r => r.sender == .report) = false →
    s.dev.sec.tampered = true →
    Does .attestationDone s fun e => e.rn Reg.secAttStat = 2 ∧ onlyRegs [Reg.secAttStat] s.dev e) ∧
  (∀ s : State, s.dev.flag Reg.secAttStat 31 = false → Does .attestationDone s fun e => e = s.dev)

/-- Tamper and JTAG (R316, R359, R472, R491, R492): a tamper wipes the Vault, is recorded and counted, and ends in basic mode
once firmware runs; boundary-scan instructions take the pads only while SYS_RST_N is low. -/
def Piece.TamperAndBoundaryScan : Prop :=
  (∀ (s : State) (src : TamperSource), s.dev.detects src = true →
    Does (.tamper src) s fun e =>
      e.sec.tampered = true ∧ e.sec.vault = ⟨[]⟩ ∧ e.flag Reg.secTamper (tamperBit src) = true ∧
      e.rn Reg.secTampers = (s.dev.rn Reg.secTampers + 1) % 2 ^ 32 ∧
      (s.dev.pwrState ≠ psNap → s.dev.pwrState ≠ psSentinel →
        (s.dev.flag Reg.secBootStat 31 = true ∨ 5 ≤ s.dev.bootStep) → e.basic = true) ∧
      ((s.dev.pwrState = psNap ∨ s.dev.pwrState = psSentinel) → e.pwrState = s.dev.pwrState ∧ e.bootStep = s.dev.bootStep)) ∧
  (∀ (s : State) (src : TamperSource), s.dev.detects src = false → Does (.tamper src) s fun e => e = s.dev) ∧
  (∀ (s : State) (ir : Byte),
    let pads := ir = 0 ∨ ir = 3 ∨ ir = 4
    Does (.jtagUpdateIr ir) s fun e =>
      e = { s.dev with pins := { s.dev.pins with
        jtagIr := e.pins.jtagIr
        padsHeld := e.pins.padsHeld } } ∧
      (e.pins.padsHeld = true ↔ pads ∧ s.dev.pins.sysRstN = false) ∧
      (pads → s.dev.pins.sysRstN = true → e.pins.jtagIr = 0xFF) ∧
      (pads → s.dev.pins.sysRstN = false → e.pins.jtagIr = ir.toNat) ∧
      ((ir = 1 ∨ ir = 2 ∨ ir = 0xFF) → e.pins.jtagIr = ir.toNat) ∧
      (jtagKnown ir.toNat = false → e.pins.jtagIr = if s.dev.jtagFull then ir.toNat else 0xFF)) ∧
  (∀ s : State, Does .jtagTestLogicReset s fun e =>
    e = { s.dev with pins := { s.dev.pins with jtagIr := 2, padsHeld := false } })

/-- Attestation, tamper and boundary scan. Choices of the model in it: the signature scheme and the boot ROM are opaque (log
entry 4); a command whose conditions do not hold leaves the machine as it was (log entry 7). -/
def Obligations.AttestationTamperAndBoundaryScan : Prop := Piece.AttestationReports ∧ Piece.TamperAndBoundaryScan

/-- A step takes the command at the front of the queue and is exec of it with the queue's rest. Choices of the model in it:
commands that stand for a moment set the time, and an idle step is one period (log entry 10). -/
def Obligations.StepTakesTheFront : Prop :=
  ∀ (d : Dev) (c : Instr) (cs : List Instr), step { dev := d, pending := c :: cs } = exec c { dev := d, pending := cs }

/-- With nothing waiting, one TB_CLK period passes, in SENTINEL one SENT_CLK period, 375 of which make a period of the keeper,
and before the timebase starts nothing changes (R32, R61). That a step stands for one period is the model's choice (log entry
10). Choices of the model in it: commands that stand for a moment set the time, and an idle step is one period (log entry
10). -/
def Obligations.IdleStepLetsTimePass : Prop :=
  ∀ s : State, s.pending = [] → ∃ t, step s = .next t ∧ t.pending = [] ∧
    (s.dev.tbOn = true → t.dev.tb.tbc = s.dev.tb.tbc + 1) ∧
    (s.dev.inSentinel = true → t.dev.tb.sent = (s.dev.tb.sent + 1) % 375 ∧
      (s.dev.tb.sent + 1 < 375 → t.dev.tb.tbc = s.dev.tb.tbc ∧ t.dev.tb.keeper = s.dev.tb.keeper) ∧
      (375 ≤ s.dev.tb.sent + 1 → t.dev.tb.tbc = s.dev.tb.tbc + 48828 + (s.dev.tb.keeper + 1) / 8 ∧
        t.dev.tb.keeper = (s.dev.tb.keeper + 1) % 8)) ∧
    (s.dev.tbOn = false → s.dev.inSentinel = false → t = s)

/-- The machine right after reset: every register at its reset value, no byte written (an unlisted byte reads as 0, log entry 5),
the TBC at 0, no command waiting, before READY; and it is sound. Choices of the model in it: the reset values the manual does
not give (log entry 1); a byte that nothing has written reads as 0 (log entry 5). -/
def Obligations.ResetState : Prop :=
  State.reset.pending = [] ∧ (∀ a, State.reset.dev.reg a = regReset a) ∧ (∀ a, State.reset.dev.byte a = 0) ∧
  State.reset.dev.tb.tbc = 0 ∧ State.reset.dev.tb.running = false ∧ State.reset.dev.ready = false ∧
  State.reset.dev.pwrState = psRun ∧ State.reset.dev.jobState = jsNone ∧ State.reset.sound = true

/-- Every command completes in every state: none is refused, none stops the machine, and none touches the queue. -/
def Obligations.EveryCommandCompletesAndLeavesTheQueue : Prop :=
  ∀ (c : Instr) (s : State), ∃ t, exec c s = .next t ∧ t.pending = s.pending

/-- Every step keeps the queue a queue of commands that the environment may send. -/
def Obligations.StepKeepsTheQueueWellFormed : Prop :=
  ∀ s t : State, s.queueOk = true → step s = .next t → t.queueOk = true

/-- Every step keeps memory, the record of failing bytes, and the register bank in their canonical form. Choices of the model in
it: a byte that nothing has written reads as 0 (log entry 5). -/
def Obligations.StepKeepsTheCanonicalForm : Prop :=
  ∀ s t : State, s.dev.sound = true → step s = .next t → t.dev.sound = true

/-- Fuses (R463, R466, R469): no step changes the serial number, the device secret, the key slots, the fuse map or the variant,
and none lowers the fused security version. -/
def Obligations.FusesStayAndTheSecurityVersionNeverFalls : Prop :=
  ∀ s t : State, step s = .next t →
    t.dev.fuses = { s.dev.fuses with svn := t.dev.fuses.svn, lc := t.dev.fuses.lc } ∧ s.dev.fuses.svn ≤ t.dev.fuses.svn

/-- R67: after alignment, a SYSREF pulse that does not fall on an LEMC boundary is counted, and none realigns the link: it stays
up or down as it was, with its phase unchanged. -/
def Obligations.SysrefPulsesNeverRealign : Prop :=
  (∀ (s : State) (ch : Fin 8) (n : Fin 6) (g : Nat), s.dev.tbOn = true → s.dev.clocksOn = true →
    (s.dev.sys ch).next = some g → s.dev.tb.tbc < g →
    (s.dev.sysMode ch = 2 → (s.dev.sys ch).gapPos < max 1 (s.dev.fld (Reg.sysGap ch) 7 0)) → s.dev.linkEn n = true →
    s.dev.fld (Reg.intkLinkCfg n) 26 24 = ch.val → s.dev.flag (Reg.intkLinkStat n) 4 = false → (s.dev.link n).lemc ≠ none →
    Does (.sysrefPulse ch) s fun e =>
      e.tb.tbc = g ∧
      e.rn (Reg.intkLinkSysrefMiss n) = (s.dev.rn (Reg.intkLinkSysrefMiss n) + b2n (!s.dev.onLemc n g)) % 2 ^ 32 ∧
      (e.link n).lemc = (s.dev.link n).lemc ∧ e.linkUp n = s.dev.linkUp n) ∧
  (∀ (d : Dev) (ch : Fin 8) (n : Fin 6) (t : Nat), d.linkEn n = true → d.fld (Reg.intkLinkCfg n) 26 24 = ch.val →
    d.flag (Reg.intkLinkStat n) 4 = false →
    ((d.sysrefAtIntake ch t).link n).lemc = (d.link n).lemc ∧ (d.sysrefAtIntake ch t).linkUp n = d.linkUp n)

/-- Place of a master in the order of R363. -/
def servedAt : Master → Nat
  | .sideband => 0
  | .host => 1
  | .mp => 2
  | .core c | .service c => 3 + c
  | .sentinel => 19

/-- R364: reads of one free lock in one cycle are served in the order of R363: the first takes the lock and reads 0, each of the
others reads the winner's owner number. -/
def Obligations.FreeLockReadByManyInOneCycle : Prop :=
  ∀ (s : State) (n : Fin 32) (m : Master) (ms : List Master), s.dev.fenced (Reg.mbxLock n) = false → s.dev.pairOwner n = 0 →
    m ∈ ms → (∀ k ∈ ms, servedAt m ≤ servedAt k ∧ s.dev.reaches k = true) →
    Does (.mbxLockRead n ms) s fun e =>
      e.pairOwner n = ownerOf m ∧ e.lastRead = ms.map (fun k => if k = m then 0 else BitVec.ofNat 32 (ownerOf m))

/-- R425: from each value an envelope detector forms its magnitude, saturated, and moves its state up or down toward it. -/
def Obligations.EnvelopeDetectors : Prop :=
  ∀ (s : State) (v : BitVec 16) (good : Bool) (k : Fin 4) (z : Int), s.dev.sen.fifo = [z] →
    s.dev.fld (Reg.senEnvCfg k) 3 0 ≤ 8 → s.dev.sen.env.get 0 k < 2 ^ 32 →
    Does (.sentinelSample v good true) s fun e =>
      let src := s.dev.fld (Reg.senEnvCfg k) 3 0
      let x : Int := if src = 0 then z else (e.sen.bq.get {} (src - 1)).y1
      let t := min x.natAbs (2 ^ 23 - 1) * 2 ^ 8
      let y := s.dev.sen.env.get 0 k
      e.sen.env.get 0 k = (if y < t then y + (t - y) / 2 ^ s.dev.fld (Reg.senEnvCfg k) 11 8
        else y - (y - t) / 2 ^ s.dev.fld (Reg.senEnvCfg k) 15 12) ∧
      e.rn (Reg.senEnvVal k) = e.sen.env.get 0 k / 2 ^ 8
end

