-- ==== Sys2Proof/Laws/Bits.lean ====
section
/-! SUPPORT. Laws of the bit-field helpers. -/

namespace Sys2Proof.Machine

theorem bits_lt (v hi lo : Nat) : bits v hi lo < 2 ^ (hi + 1 - lo) := Nat.mod_lt _ (Nat.two_pow_pos _)

theorem bit_eq_testBit (v i : Nat) : bit v i = v.testBit i := by
  simp only [bit, Nat.testBit, Nat.shiftRight_eq_div_pow, Nat.one_and_eq_mod_two]
  rcases Nat.mod_two_eq_zero_or_one (v / 2 ^ i) with h | h <;> simp [h]

/-- The bits of a number after a field is replaced. -/
theorem testBit_putBits (v hi lo f j : Nat) (h : lo ≤ hi) :
    (putBits v hi lo f).testBit j = if lo ≤ j ∧ j ≤ hi then f.testBit (j - lo) else v.testBit j := by
  have e : putBits v hi lo f =
      2 ^ lo * (2 ^ (hi + 1 - lo) * (v / 2 ^ (hi + 1)) + f % 2 ^ (hi + 1 - lo)) + v % 2 ^ lo := by
    have : 2 ^ (hi + 1) = 2 ^ lo * 2 ^ (hi + 1 - lo) := by rw [← Nat.pow_add]; congr 1; omega
    simp only [putBits]
    rw [Nat.mul_add, ← Nat.mul_assoc, ← this, Nat.mul_comm (v / _), Nat.mul_comm (f % _)]
    omega
  rw [e, Nat.testBit_two_pow_mul_add _ (Nat.mod_lt _ (Nat.two_pow_pos lo))]
  by_cases h1 : j < lo
  · simp [h1, show ¬(lo ≤ j ∧ j ≤ hi) by omega, Nat.testBit_mod_two_pow]
  · rw [if_neg h1, Nat.testBit_two_pow_mul_add _ (Nat.mod_lt _ (Nat.two_pow_pos _))]
    by_cases h2 : j ≤ hi
    · simp [show lo ≤ j ∧ j ≤ hi by omega, show j - lo < hi + 1 - lo by omega, Nat.testBit_mod_two_pow]
    · simp only [show ¬(lo ≤ j ∧ j ≤ hi) by omega, show ¬(j - lo < hi + 1 - lo) by omega, if_false, Nat.testBit_div_two_pow]
      congr 1; omega

theorem testBit_bits (v hi lo j : Nat) : (bits v hi lo).testBit j = (decide (j < hi + 1 - lo) && v.testBit (lo + j)) := by
  simp [bits, Nat.testBit_mod_two_pow, Nat.testBit_div_two_pow, Nat.add_comm]

/-- A field reads what was put into it. -/
theorem bits_putBits_same (v hi lo f : Nat) (h : lo ≤ hi) : bits (putBits v hi lo f) hi lo = f % 2 ^ (hi + 1 - lo) := by
  apply Nat.eq_of_testBit_eq
  intro j
  rw [testBit_bits, testBit_putBits _ _ _ _ _ h, Nat.testBit_mod_two_pow]
  by_cases hj : j < hi + 1 - lo
  · simp [hj, show lo ≤ lo + j ∧ lo + j ≤ hi by omega]
  · simp [hj]

/-- A field apart from the one replaced is unchanged. -/
theorem bits_putBits_ne (v hi lo f hi' lo' : Nat) (h : lo ≤ hi) (hd : hi' < lo ∨ hi < lo') :
    bits (putBits v hi lo f) hi' lo' = bits v hi' lo' := by
  apply Nat.eq_of_testBit_eq
  intro j
  rw [testBit_bits, testBit_bits, testBit_putBits _ _ _ _ _ h]
  by_cases hj : j < hi' + 1 - lo'
  · simp [hj, show ¬(lo ≤ lo' + j ∧ lo' + j ≤ hi) by omega]
  · simp [hj]

@[simp] theorem bit_putBits_same (v i : Nat) (b : Bool) : bit (putBits v i i (b2n b)) i = b := by
  rw [bit_eq_testBit, testBit_putBits _ _ _ _ _ (Nat.le_refl i)]
  cases b <;> simp [b2n]

theorem bit_putBits_ne (v hi lo f j : Nat) (h : lo ≤ hi) (hj : j < lo ∨ hi < j) :
    bit (putBits v hi lo f) j = bit v j := by
  rw [bit_eq_testBit, bit_eq_testBit, testBit_putBits _ _ _ _ _ h, if_neg (by omega)]

/-- A field of a word stays in the word. -/
theorem putBits_lt (v hi lo f n : Nat) (h : lo ≤ hi) (hn : hi < n) (hv : v < 2 ^ n) : putBits v hi lo f < 2 ^ n := by
  apply Nat.lt_pow_two_of_testBit
  intro j hj
  rw [testBit_putBits _ _ _ _ _ h, if_neg (by omega)]
  exact Nat.testBit_lt_two_pow (Nat.lt_of_lt_of_le hv (Nat.pow_le_pow_right (by omega) hj))

@[simp] theorem toBytes_length (n v : Nat) : (toBytes n v).length = n := by
  induction n generalizing v with
  | zero => rfl
  | succ n ih => simp [toBytes, ih]

/-- A number survives its bytes. -/
theorem ofBytes_toBytes (n v : Nat) : ofBytes (toBytes n v) = v % 256 ^ n := by
  induction n generalizing v with
  | zero => simp [toBytes, ofBytes, Nat.mod_one]
  | succ n ih =>
    simp only [toBytes, ofBytes, ih, BitVec.toNat_ofNat]
    rw [show 2 ^ 8 = 256 from rfl, Nat.pow_succ, Nat.mul_comm (256 ^ n) 256, Nat.mod_mul]

end Sys2Proof.Machine
end

