-- ==== Sys2Proof/Laws/SMap.lean ====
section
/-! SUPPORT. Laws of the sparse map: a read after a write, and the canonical form that every operation keeps. -/

namespace Sys2Proof.Machine.SMap

variable {α : Type}

theorem look_del_same (d : α) (k : Nat) (m : List (Nat × α)) : look d (del k m) k = d := by
  induction m with
  | nil => rfl
  | cons c m ih =>
    by_cases h : c.1 = k
    · simpa [del, h] using ih
    · simpa [del, look, h] using ih

theorem look_del_ne (d : α) {k j : Nat} (hj : j ≠ k) (m : List (Nat × α)) : look d (del k m) j = look d m j := by
  induction m with
  | nil => rfl
  | cons c m ih =>
    by_cases h : c.1 = k
    · simp only [del, h, if_true, look, ih]
      simp [show k ≠ j from Ne.symm hj]
    · simp only [del, h, if_false, look, ih]

theorem look_ins_ne (d : α) {k j : Nat} (hj : j ≠ k) (v : α) (m : List (Nat × α)) :
    look d (ins k v m) j = look d m j := by
  induction m with
  | nil => simp [ins, look, Ne.symm hj]
  | cons c m ih =>
    by_cases h : k < c.1
    · simp [ins, h, look, Ne.symm hj]
    · simp only [ins, h, if_false, look, ih]

theorem look_ins_same (d : α) {k : Nat} (v : α) {m : List (Nat × α)} (h : ∀ c ∈ m, c.1 ≠ k) : look d (ins k v m) k = v := by
  induction m with
  | nil => simp [ins, look]
  | cons c m ih =>
    have hc := h c (by simp)
    by_cases hk : k < c.1
    · simp [ins, hk, look]
    · simpa [ins, hk, look, hc] using ih (fun x hx => h x (by simp [hx]))

theorem ne_of_mem_del (k : Nat) (m : List (Nat × α)) : ∀ c ∈ del k m, c.1 ≠ k := by
  induction m with
  | nil => simp [del]
  | cons c m ih =>
    by_cases h : c.1 = k
    · simpa [del, h] using ih
    · intro x hx
      simp only [del, h, if_false, List.mem_cons] at hx
      rcases hx with rfl | hx
      · exact h
      · exact ih x hx

/-- A key reads what was written to it. -/
@[simp] theorem get_set_same [DecidableEq α] (d : α) (m : SMap α) (k : Nat) (v : α) : (m.set d k v).get d k = v := by
  by_cases h : v = d
  · simp [get, set, h, look_del_same]
  · simp [get, set, h, look_ins_same d v (ne_of_mem_del k m.cells)]

/-- A write leaves every other key alone, whatever default either access gives. -/
theorem get_set_ne [DecidableEq α] (d e : α) (m : SMap α) {k j : Nat} (hj : j ≠ k) (v : α) :
    (m.set d k v).get e j = m.get e j := by
  by_cases h : v = d
  · simp [get, set, h, look_del_ne e hj]
  · simp [get, set, h, look_ins_ne e hj, look_del_ne e hj]

theorem get_set [DecidableEq α] (d : α) (m : SMap α) (k j : Nat) (v : α) :
    (m.set d k v).get d j = if j = k then v else m.get d j := by
  by_cases h : j = k
  · subst h; simp
  · simp [h, get_set_ne d d m h]

@[simp] theorem get_empty (d : α) (k : Nat) : (SMap.mk [] : SMap α).get d k = d := rfl

/-- A run of writes reads back at its place, and nowhere else. -/
theorem get_setMany [DecidableEq α] (d : α) (vs : List α) : ∀ (m : SMap α) (k j : Nat),
    (m.setMany d k vs).get d j = if k ≤ j ∧ j < k + vs.length then vs.getD (j - k) d else m.get d j := by
  induction vs with
  | nil => intro m k j; simp [setMany, show ¬(k ≤ j ∧ j < k) by omega]
  | cons v vs ih =>
    intro m k j
    rw [setMany, ih, get_set]
    rcases Nat.lt_trichotomy j k with h | h | h
    · simp [show ¬(k + 1 ≤ j) by omega, show ¬(k ≤ j) by omega, show j ≠ k by omega]
    · subst h; simp [show ¬(j + 1 ≤ j) by omega]
    · obtain ⟨n, rfl⟩ : ∃ n, j = k + 1 + n := ⟨j - (k + 1), by omega⟩
      simp only [show k + 1 ≤ k + 1 + n by omega, show k ≤ k + 1 + n by omega, true_and, List.length_cons,
        show (k + 1 + n < k + 1 + vs.length) = (k + 1 + n < k + (vs.length + 1)) by rw [show k + 1 + vs.length = k + (vs.length + 1) by omega],
        show k + 1 + n - (k + 1) = n by omega, show k + 1 + n - k = n + 1 by omega, List.getD_cons_succ,
        show (k + 1 + n = k) = False by simp; omega, if_false]

/-! ## The canonical form -/

theorem canon_weaken [DecidableEq α] (d : α) {lo : Option Nat} {m : List (Nat × α)} {b : Nat} (h : canon d (some b) m = true)
    (hl : ∀ l, lo = some l → l ≤ b) : canon d lo m = true := by
  cases m with
  | nil => rfl
  | cons c m =>
    simp only [canon, Bool.and_eq_true, decide_eq_true_eq] at h ⊢
    refine ⟨⟨?_, h.1.2⟩, h.2⟩
    cases lo with
    | none => rfl
    | some l => have := hl l rfl; simp; omega

theorem canon_del [DecidableEq α] (d : α) (k : Nat) : ∀ (lo : Option Nat) (m : List (Nat × α)), canon d lo m = true →
    canon d lo (del k m) = true := by
  intro lo m
  induction m generalizing lo with
  | nil => intro h; exact h
  | cons c m ih =>
    intro h
    by_cases hk : c.1 = k
    · simp only [del, hk, if_true]
      apply ih
      simp only [canon, Bool.and_eq_true, decide_eq_true_eq] at h
      refine canon_weaken d h.2 ?_
      intro l hl; subst hl; have := h.1.1; simp at this; omega
    · simp only [del, hk, if_false, canon, Bool.and_eq_true] at h ⊢
      exact ⟨h.1, ih _ h.2⟩

theorem canon_ins [DecidableEq α] (d : α) {k : Nat} {v : α} (hv : v ≠ d) : ∀ (lo : Option Nat) (m : List (Nat × α)),
    canon d lo m = true → (∀ c ∈ m, c.1 ≠ k) → (∀ l, lo = some l → l < k) → canon d lo (ins k v m) = true := by
  intro lo m
  induction m generalizing lo with
  | nil => intro _ _ hl; cases lo <;> simp [ins, canon, hv] ; exact hl _ rfl
  | cons c m ih =>
    intro h hm hl
    have hc := hm c (by simp)
    by_cases hk : k < c.1
    · simp only [canon, Bool.and_eq_true, decide_eq_true_eq] at h
      simp only [ins, hk, if_true, canon, Bool.and_eq_true, decide_eq_true_eq]
      refine ⟨⟨?_, hv⟩, ⟨trivial, h.1.2⟩, h.2⟩
      cases lo with
      | none => rfl
      | some l => simpa using hl l rfl
    · simp only [ins, hk, if_false, canon, Bool.and_eq_true] at h ⊢
      exact ⟨h.1, ih _ h.2 (fun x hx => hm x (by simp [hx])) (by intro l e; cases e; omega)⟩

/-- A write keeps the canonical form. -/
theorem wf_set [DecidableEq α] (d : α) {m : SMap α} (h : m.wf d = true) (k : Nat) (v : α) : (m.set d k v).wf d = true := by
  by_cases hv : v = d
  · simpa [wf, set, hv] using canon_del d k none m.cells h
  · simpa [wf, set, hv] using canon_ins d hv none _ (canon_del d k none m.cells h) (ne_of_mem_del k m.cells) (by simp)

/-- A run of writes keeps the canonical form. -/
theorem wf_setMany [DecidableEq α] (d : α) (vs : List α) : ∀ {m : SMap α} (_ : m.wf d = true) (k : Nat),
    (m.setMany d k vs).wf d = true := by
  induction vs with
  | nil => intro m h k; exact h
  | cons v vs ih => intro m h k; exact ih (wf_set d h k v) (k + 1)

theorem canon_filter [DecidableEq α] (d : α) (p : Nat × α → Bool) : ∀ (lo : Option Nat) (m : List (Nat × α)),
    canon d lo m = true → canon d lo (m.filter p) = true := by
  intro lo m
  induction m generalizing lo with
  | nil => intro h; exact h
  | cons c m ih =>
    intro h
    simp only [canon, Bool.and_eq_true, decide_eq_true_eq] at h
    by_cases hp : p c
    · simp only [List.filter_cons, hp, if_true, canon, Bool.and_eq_true, decide_eq_true_eq]
      exact ⟨h.1, ih _ h.2⟩
    · simp only [List.filter_cons, hp]
      refine ih _ (canon_weaken d h.2 ?_)
      intro l hl; subst hl; have := h.1.1; simp at this; omega

/-- Keeping some of the entries keeps the canonical form. -/
theorem wf_filter [DecidableEq α] (d : α) (p : Nat × α → Bool) {m : SMap α} (h : m.wf d = true) :
    (SMap.mk (m.cells.filter p)).wf d = true := canon_filter d p none m.cells h

theorem wf_empty [DecidableEq α] (d : α) : (SMap.mk [] : SMap α).wf d = true := rfl

end Sys2Proof.Machine.SMap
end

