-- ==== Sys2Proof/Laws/State.lean ====
section
/-! SUPPORT. What each update of the device leaves alone: one lemma per field and update, so that no proof unfolds a record
update. -/

namespace Sys2Proof.Machine.Dev

/-! ### Dev.setReg -/

@[simp] theorem setReg_mem (d : Dev) (a v : Nat) : (d.setReg a v).mem = d.mem := rfl
@[simp] theorem setReg_badMem (d : Dev) (a v : Nat) : (d.setReg a v).badMem = d.badMem := rfl
@[simp] theorem setReg_free (d : Dev) (a v : Nat) : (d.setReg a v).free = d.free := rfl
@[simp] theorem setReg_tb (d : Dev) (a v : Nat) : (d.setReg a v).tb = d.tb := rfl
@[simp] theorem setReg_links (d : Dev) (a v : Nat) : (d.setReg a v).links = d.links := rfl
@[simp] theorem setReg_strms (d : Dev) (a v : Nat) : (d.setReg a v).strms = d.strms := rfl
@[simp] theorem setReg_flume (d : Dev) (a v : Nat) : (d.setReg a v).flume = d.flume := rfl
@[simp] theorem setReg_jn (d : Dev) (a v : Nat) : (d.setReg a v).jn = d.jn := rfl
@[simp] theorem setReg_ledger (d : Dev) (a v : Nat) : (d.setReg a v).ledger = d.ledger := rfl
@[simp] theorem setReg_errs (d : Dev) (a v : Nat) : (d.setReg a v).errs = d.errs := rfl
@[simp] theorem setReg_bme (d : Dev) (a v : Nat) : (d.setReg a v).bme = d.bme := rfl
@[simp] theorem setReg_fnMask (d : Dev) (a v : Nat) : (d.setReg a v).fnMask = d.fnMask := rfl
@[simp] theorem setReg_pcie (d : Dev) (a v : Nat) : (d.setReg a v).pcie = d.pcie := rfl
@[simp] theorem setReg_hostWait (d : Dev) (a v : Nat) : (d.setReg a v).hostWait = d.hostWait := rfl
@[simp] theorem setReg_cache (d : Dev) (a v : Nat) : (d.setReg a v).cache = d.cache := rfl
@[simp] theorem setReg_cacheAge (d : Dev) (a v : Nat) : (d.setReg a v).cacheAge = d.cacheAge := rfl
@[simp] theorem setReg_pondLast (d : Dev) (a v : Nat) : (d.setReg a v).pondLast = d.pondLast := rfl
@[simp] theorem setReg_pfHist (d : Dev) (a v : Nat) : (d.setReg a v).pfHist = d.pfHist := rfl
@[simp] theorem setReg_pfs (d : Dev) (a v : Nat) : (d.setReg a v).pfs = d.pfs := rfl
@[simp] theorem setReg_pfWait (d : Dev) (a v : Nat) : (d.setReg a v).pfWait = d.pfWait := rfl
@[simp] theorem setReg_ncs (d : Dev) (a v : Nat) : (d.setReg a v).ncs = d.ncs := rfl
@[simp] theorem setReg_routers (d : Dev) (a v : Nat) : (d.setReg a v).routers = d.routers := rfl
@[simp] theorem setReg_bar (d : Dev) (a v : Nat) : (d.setReg a v).bar = d.bar := rfl
@[simp] theorem setReg_ports (d : Dev) (a v : Nat) : (d.setReg a v).ports = d.ports := rfl
@[simp] theorem setReg_colls (d : Dev) (a v : Nat) : (d.setReg a v).colls = d.colls := rfl
@[simp] theorem setReg_noticed (d : Dev) (a v : Nat) : (d.setReg a v).noticed = d.noticed := rfl
@[simp] theorem setReg_trigOuts (d : Dev) (a v : Nat) : (d.setReg a v).trigOuts = d.trigOuts := rfl
@[simp] theorem setReg_lineLast (d : Dev) (a v : Nat) : (d.setReg a v).lineLast = d.lineLast := rfl
@[simp] theorem setReg_sen (d : Dev) (a v : Nat) : (d.setReg a v).sen = d.sen := rfl
@[simp] theorem setReg_pwr (d : Dev) (a v : Nat) : (d.setReg a v).pwr = d.pwr := rfl
@[simp] theorem setReg_pins (d : Dev) (a v : Nat) : (d.setReg a v).pins = d.pins := rfl
@[simp] theorem setReg_harts (d : Dev) (a v : Nat) : (d.setReg a v).harts = d.harts := rfl
@[simp] theorem setReg_mp (d : Dev) (a v : Nat) : (d.setReg a v).mp = d.mp := rfl
@[simp] theorem setReg_vci (d : Dev) (a v : Nat) : (d.setReg a v).vci = d.vci := rfl
@[simp] theorem setReg_board (d : Dev) (a v : Nat) : (d.setReg a v).board = d.board := rfl
@[simp] theorem setReg_conduits (d : Dev) (a v : Nat) : (d.setReg a v).conduits = d.conduits := rfl
@[simp] theorem setReg_rings (d : Dev) (a v : Nat) : (d.setReg a v).rings = d.rings := rfl
@[simp] theorem setReg_fuses (d : Dev) (a v : Nat) : (d.setReg a v).fuses = d.fuses := rfl
@[simp] theorem setReg_sec (d : Dev) (a v : Nat) : (d.setReg a v).sec = d.sec := rfl
@[simp] theorem setReg_laps (d : Dev) (a v : Nat) : (d.setReg a v).laps = d.laps := rfl
@[simp] theorem setReg_pondTo (d : Dev) (a v : Nat) : (d.setReg a v).pondTo = d.pondTo := rfl
@[simp] theorem setReg_lastRead (d : Dev) (a v : Nat) : (d.setReg a v).lastRead = d.lastRead := rfl

/-! ### Dev.setFld -/

@[simp] theorem setFld_mem (d : Dev) (a hi lo v : Nat) : (d.setFld a hi lo v).mem = d.mem := by rw [setFld, setReg_mem]
@[simp] theorem setFld_badMem (d : Dev) (a hi lo v : Nat) : (d.setFld a hi lo v).badMem = d.badMem := by rw [setFld, setReg_badMem]
@[simp] theorem setFld_free (d : Dev) (a hi lo v : Nat) : (d.setFld a hi lo v).free = d.free := by rw [setFld, setReg_free]
@[simp] theorem setFld_tb (d : Dev) (a hi lo v : Nat) : (d.setFld a hi lo v).tb = d.tb := by rw [setFld, setReg_tb]
@[simp] theorem setFld_links (d : Dev) (a hi lo v : Nat) : (d.setFld a hi lo v).links = d.links := by rw [setFld, setReg_links]
@[simp] theorem setFld_strms (d : Dev) (a hi lo v : Nat) : (d.setFld a hi lo v).strms = d.strms := by rw [setFld, setReg_strms]
@[simp] theorem setFld_flume (d : Dev) (a hi lo v : Nat) : (d.setFld a hi lo v).flume = d.flume := by rw [setFld, setReg_flume]
@[simp] theorem setFld_jn (d : Dev) (a hi lo v : Nat) : (d.setFld a hi lo v).jn = d.jn := by rw [setFld, setReg_jn]
@[simp] theorem setFld_ledger (d : Dev) (a hi lo v : Nat) : (d.setFld a hi lo v).ledger = d.ledger := by rw [setFld, setReg_ledger]
@[simp] theorem setFld_errs (d : Dev) (a hi lo v : Nat) : (d.setFld a hi lo v).errs = d.errs := by rw [setFld, setReg_errs]
@[simp] theorem setFld_bme (d : Dev) (a hi lo v : Nat) : (d.setFld a hi lo v).bme = d.bme := by rw [setFld, setReg_bme]
@[simp] theorem setFld_fnMask (d : Dev) (a hi lo v : Nat) : (d.setFld a hi lo v).fnMask = d.fnMask := by rw [setFld, setReg_fnMask]
@[simp] theorem setFld_pcie (d : Dev) (a hi lo v : Nat) : (d.setFld a hi lo v).pcie = d.pcie := by rw [setFld, setReg_pcie]
@[simp] theorem setFld_hostWait (d : Dev) (a hi lo v : Nat) : (d.setFld a hi lo v).hostWait = d.hostWait := by rw [setFld, setReg_hostWait]
@[simp] theorem setFld_cache (d : Dev) (a hi lo v : Nat) : (d.setFld a hi lo v).cache = d.cache := by rw [setFld, setReg_cache]
@[simp] theorem setFld_cacheAge (d : Dev) (a hi lo v : Nat) : (d.setFld a hi lo v).cacheAge = d.cacheAge := by rw [setFld, setReg_cacheAge]
@[simp] theorem setFld_pondLast (d : Dev) (a hi lo v : Nat) : (d.setFld a hi lo v).pondLast = d.pondLast := by rw [setFld, setReg_pondLast]
@[simp] theorem setFld_pfHist (d : Dev) (a hi lo v : Nat) : (d.setFld a hi lo v).pfHist = d.pfHist := by rw [setFld, setReg_pfHist]
@[simp] theorem setFld_pfs (d : Dev) (a hi lo v : Nat) : (d.setFld a hi lo v).pfs = d.pfs := by rw [setFld, setReg_pfs]
@[simp] theorem setFld_pfWait (d : Dev) (a hi lo v : Nat) : (d.setFld a hi lo v).pfWait = d.pfWait := by rw [setFld, setReg_pfWait]
@[simp] theorem setFld_ncs (d : Dev) (a hi lo v : Nat) : (d.setFld a hi lo v).ncs = d.ncs := by rw [setFld, setReg_ncs]
@[simp] theorem setFld_routers (d : Dev) (a hi lo v : Nat) : (d.setFld a hi lo v).routers = d.routers := by rw [setFld, setReg_routers]
@[simp] theorem setFld_bar (d : Dev) (a hi lo v : Nat) : (d.setFld a hi lo v).bar = d.bar := by rw [setFld, setReg_bar]
@[simp] theorem setFld_ports (d : Dev) (a hi lo v : Nat) : (d.setFld a hi lo v).ports = d.ports := by rw [setFld, setReg_ports]
@[simp] theorem setFld_colls (d : Dev) (a hi lo v : Nat) : (d.setFld a hi lo v).colls = d.colls := by rw [setFld, setReg_colls]
@[simp] theorem setFld_noticed (d : Dev) (a hi lo v : Nat) : (d.setFld a hi lo v).noticed = d.noticed := by rw [setFld, setReg_noticed]
@[simp] theorem setFld_trigOuts (d : Dev) (a hi lo v : Nat) : (d.setFld a hi lo v).trigOuts = d.trigOuts := by rw [setFld, setReg_trigOuts]
@[simp] theorem setFld_lineLast (d : Dev) (a hi lo v : Nat) : (d.setFld a hi lo v).lineLast = d.lineLast := by rw [setFld, setReg_lineLast]
@[simp] theorem setFld_sen (d : Dev) (a hi lo v : Nat) : (d.setFld a hi lo v).sen = d.sen := by rw [setFld, setReg_sen]
@[simp] theorem setFld_pwr (d : Dev) (a hi lo v : Nat) : (d.setFld a hi lo v).pwr = d.pwr := by rw [setFld, setReg_pwr]
@[simp] theorem setFld_pins (d : Dev) (a hi lo v : Nat) : (d.setFld a hi lo v).pins = d.pins := by rw [setFld, setReg_pins]
@[simp] theorem setFld_harts (d : Dev) (a hi lo v : Nat) : (d.setFld a hi lo v).harts = d.harts := by rw [setFld, setReg_harts]
@[simp] theorem setFld_mp (d : Dev) (a hi lo v : Nat) : (d.setFld a hi lo v).mp = d.mp := by rw [setFld, setReg_mp]
@[simp] theorem setFld_vci (d : Dev) (a hi lo v : Nat) : (d.setFld a hi lo v).vci = d.vci := by rw [setFld, setReg_vci]
@[simp] theorem setFld_board (d : Dev) (a hi lo v : Nat) : (d.setFld a hi lo v).board = d.board := by rw [setFld, setReg_board]
@[simp] theorem setFld_conduits (d : Dev) (a hi lo v : Nat) : (d.setFld a hi lo v).conduits = d.conduits := by rw [setFld, setReg_conduits]
@[simp] theorem setFld_rings (d : Dev) (a hi lo v : Nat) : (d.setFld a hi lo v).rings = d.rings := by rw [setFld, setReg_rings]
@[simp] theorem setFld_fuses (d : Dev) (a hi lo v : Nat) : (d.setFld a hi lo v).fuses = d.fuses := by rw [setFld, setReg_fuses]
@[simp] theorem setFld_sec (d : Dev) (a hi lo v : Nat) : (d.setFld a hi lo v).sec = d.sec := by rw [setFld, setReg_sec]
@[simp] theorem setFld_laps (d : Dev) (a hi lo v : Nat) : (d.setFld a hi lo v).laps = d.laps := by rw [setFld, setReg_laps]
@[simp] theorem setFld_pondTo (d : Dev) (a hi lo v : Nat) : (d.setFld a hi lo v).pondTo = d.pondTo := by rw [setFld, setReg_pondTo]
@[simp] theorem setFld_lastRead (d : Dev) (a hi lo v : Nat) : (d.setFld a hi lo v).lastRead = d.lastRead := by rw [setFld, setReg_lastRead]

/-! ### Dev.setFlag -/

@[simp] theorem setFlag_mem (d : Dev) (a i : Nat) (v : Bool) : (d.setFlag a i v).mem = d.mem := by rw [setFlag, setFld_mem]
@[simp] theorem setFlag_badMem (d : Dev) (a i : Nat) (v : Bool) : (d.setFlag a i v).badMem = d.badMem := by rw [setFlag, setFld_badMem]
@[simp] theorem setFlag_free (d : Dev) (a i : Nat) (v : Bool) : (d.setFlag a i v).free = d.free := by rw [setFlag, setFld_free]
@[simp] theorem setFlag_tb (d : Dev) (a i : Nat) (v : Bool) : (d.setFlag a i v).tb = d.tb := by rw [setFlag, setFld_tb]
@[simp] theorem setFlag_links (d : Dev) (a i : Nat) (v : Bool) : (d.setFlag a i v).links = d.links := by rw [setFlag, setFld_links]
@[simp] theorem setFlag_strms (d : Dev) (a i : Nat) (v : Bool) : (d.setFlag a i v).strms = d.strms := by rw [setFlag, setFld_strms]
@[simp] theorem setFlag_flume (d : Dev) (a i : Nat) (v : Bool) : (d.setFlag a i v).flume = d.flume := by rw [setFlag, setFld_flume]
@[simp] theorem setFlag_jn (d : Dev) (a i : Nat) (v : Bool) : (d.setFlag a i v).jn = d.jn := by rw [setFlag, setFld_jn]
@[simp] theorem setFlag_ledger (d : Dev) (a i : Nat) (v : Bool) : (d.setFlag a i v).ledger = d.ledger := by rw [setFlag, setFld_ledger]
@[simp] theorem setFlag_errs (d : Dev) (a i : Nat) (v : Bool) : (d.setFlag a i v).errs = d.errs := by rw [setFlag, setFld_errs]
@[simp] theorem setFlag_bme (d : Dev) (a i : Nat) (v : Bool) : (d.setFlag a i v).bme = d.bme := by rw [setFlag, setFld_bme]
@[simp] theorem setFlag_fnMask (d : Dev) (a i : Nat) (v : Bool) : (d.setFlag a i v).fnMask = d.fnMask := by rw [setFlag, setFld_fnMask]
@[simp] theorem setFlag_pcie (d : Dev) (a i : Nat) (v : Bool) : (d.setFlag a i v).pcie = d.pcie := by rw [setFlag, setFld_pcie]
@[simp] theorem setFlag_hostWait (d : Dev) (a i : Nat) (v : Bool) : (d.setFlag a i v).hostWait = d.hostWait := by rw [setFlag, setFld_hostWait]
@[simp] theorem setFlag_cache (d : Dev) (a i : Nat) (v : Bool) : (d.setFlag a i v).cache = d.cache := by rw [setFlag, setFld_cache]
@[simp] theorem setFlag_cacheAge (d : Dev) (a i : Nat) (v : Bool) : (d.setFlag a i v).cacheAge = d.cacheAge := by rw [setFlag, setFld_cacheAge]
@[simp] theorem setFlag_pondLast (d : Dev) (a i : Nat) (v : Bool) : (d.setFlag a i v).pondLast = d.pondLast := by rw [setFlag, setFld_pondLast]
@[simp] theorem setFlag_pfHist (d : Dev) (a i : Nat) (v : Bool) : (d.setFlag a i v).pfHist = d.pfHist := by rw [setFlag, setFld_pfHist]
@[simp] theorem setFlag_pfs (d : Dev) (a i : Nat) (v : Bool) : (d.setFlag a i v).pfs = d.pfs := by rw [setFlag, setFld_pfs]
@[simp] theorem setFlag_pfWait (d : Dev) (a i : Nat) (v : Bool) : (d.setFlag a i v).pfWait = d.pfWait := by rw [setFlag, setFld_pfWait]
@[simp] theorem setFlag_ncs (d : Dev) (a i : Nat) (v : Bool) : (d.setFlag a i v).ncs = d.ncs := by rw [setFlag, setFld_ncs]
@[simp] theorem setFlag_routers (d : Dev) (a i : Nat) (v : Bool) : (d.setFlag a i v).routers = d.routers := by rw [setFlag, setFld_routers]
@[simp] theorem setFlag_bar (d : Dev) (a i : Nat) (v : Bool) : (d.setFlag a i v).bar = d.bar := by rw [setFlag, setFld_bar]
@[simp] theorem setFlag_ports (d : Dev) (a i : Nat) (v : Bool) : (d.setFlag a i v).ports = d.ports := by rw [setFlag, setFld_ports]
@[simp] theorem setFlag_colls (d : Dev) (a i : Nat) (v : Bool) : (d.setFlag a i v).colls = d.colls := by rw [setFlag, setFld_colls]
@[simp] theorem setFlag_noticed (d : Dev) (a i : Nat) (v : Bool) : (d.setFlag a i v).noticed = d.noticed := by rw [setFlag, setFld_noticed]
@[simp] theorem setFlag_trigOuts (d : Dev) (a i : Nat) (v : Bool) : (d.setFlag a i v).trigOuts = d.trigOuts := by rw [setFlag, setFld_trigOuts]
@[simp] theorem setFlag_lineLast (d : Dev) (a i : Nat) (v : Bool) : (d.setFlag a i v).lineLast = d.lineLast := by rw [setFlag, setFld_lineLast]
@[simp] theorem setFlag_sen (d : Dev) (a i : Nat) (v : Bool) : (d.setFlag a i v).sen = d.sen := by rw [setFlag, setFld_sen]
@[simp] theorem setFlag_pwr (d : Dev) (a i : Nat) (v : Bool) : (d.setFlag a i v).pwr = d.pwr := by rw [setFlag, setFld_pwr]
@[simp] theorem setFlag_pins (d : Dev) (a i : Nat) (v : Bool) : (d.setFlag a i v).pins = d.pins := by rw [setFlag, setFld_pins]
@[simp] theorem setFlag_harts (d : Dev) (a i : Nat) (v : Bool) : (d.setFlag a i v).harts = d.harts := by rw [setFlag, setFld_harts]
@[simp] theorem setFlag_mp (d : Dev) (a i : Nat) (v : Bool) : (d.setFlag a i v).mp = d.mp := by rw [setFlag, setFld_mp]
@[simp] theorem setFlag_vci (d : Dev) (a i : Nat) (v : Bool) : (d.setFlag a i v).vci = d.vci := by rw [setFlag, setFld_vci]
@[simp] theorem setFlag_board (d : Dev) (a i : Nat) (v : Bool) : (d.setFlag a i v).board = d.board := by rw [setFlag, setFld_board]
@[simp] theorem setFlag_conduits (d : Dev) (a i : Nat) (v : Bool) : (d.setFlag a i v).conduits = d.conduits := by rw [setFlag, setFld_conduits]
@[simp] theorem setFlag_rings (d : Dev) (a i : Nat) (v : Bool) : (d.setFlag a i v).rings = d.rings := by rw [setFlag, setFld_rings]
@[simp] theorem setFlag_fuses (d : Dev) (a i : Nat) (v : Bool) : (d.setFlag a i v).fuses = d.fuses := by rw [setFlag, setFld_fuses]
@[simp] theorem setFlag_sec (d : Dev) (a i : Nat) (v : Bool) : (d.setFlag a i v).sec = d.sec := by rw [setFlag, setFld_sec]
@[simp] theorem setFlag_laps (d : Dev) (a i : Nat) (v : Bool) : (d.setFlag a i v).laps = d.laps := by rw [setFlag, setFld_laps]
@[simp] theorem setFlag_pondTo (d : Dev) (a i : Nat) (v : Bool) : (d.setFlag a i v).pondTo = d.pondTo := by rw [setFlag, setFld_pondTo]
@[simp] theorem setFlag_lastRead (d : Dev) (a i : Nat) (v : Bool) : (d.setFlag a i v).lastRead = d.lastRead := by rw [setFlag, setFld_lastRead]

/-! ### Dev.bump -/

@[simp] theorem bump_mem (d : Dev) (a n : Nat) : (d.bump a n).mem = d.mem := by rw [bump, setReg_mem]
@[simp] theorem bump_badMem (d : Dev) (a n : Nat) : (d.bump a n).badMem = d.badMem := by rw [bump, setReg_badMem]
@[simp] theorem bump_free (d : Dev) (a n : Nat) : (d.bump a n).free = d.free := by rw [bump, setReg_free]
@[simp] theorem bump_tb (d : Dev) (a n : Nat) : (d.bump a n).tb = d.tb := by rw [bump, setReg_tb]
@[simp] theorem bump_links (d : Dev) (a n : Nat) : (d.bump a n).links = d.links := by rw [bump, setReg_links]
@[simp] theorem bump_strms (d : Dev) (a n : Nat) : (d.bump a n).strms = d.strms := by rw [bump, setReg_strms]
@[simp] theorem bump_flume (d : Dev) (a n : Nat) : (d.bump a n).flume = d.flume := by rw [bump, setReg_flume]
@[simp] theorem bump_jn (d : Dev) (a n : Nat) : (d.bump a n).jn = d.jn := by rw [bump, setReg_jn]
@[simp] theorem bump_ledger (d : Dev) (a n : Nat) : (d.bump a n).ledger = d.ledger := by rw [bump, setReg_ledger]
@[simp] theorem bump_errs (d : Dev) (a n : Nat) : (d.bump a n).errs = d.errs := by rw [bump, setReg_errs]
@[simp] theorem bump_bme (d : Dev) (a n : Nat) : (d.bump a n).bme = d.bme := by rw [bump, setReg_bme]
@[simp] theorem bump_fnMask (d : Dev) (a n : Nat) : (d.bump a n).fnMask = d.fnMask := by rw [bump, setReg_fnMask]
@[simp] theorem bump_pcie (d : Dev) (a n : Nat) : (d.bump a n).pcie = d.pcie := by rw [bump, setReg_pcie]
@[simp] theorem bump_hostWait (d : Dev) (a n : Nat) : (d.bump a n).hostWait = d.hostWait := by rw [bump, setReg_hostWait]
@[simp] theorem bump_cache (d : Dev) (a n : Nat) : (d.bump a n).cache = d.cache := by rw [bump, setReg_cache]
@[simp] theorem bump_cacheAge (d : Dev) (a n : Nat) : (d.bump a n).cacheAge = d.cacheAge := by rw [bump, setReg_cacheAge]
@[simp] theorem bump_pondLast (d : Dev) (a n : Nat) : (d.bump a n).pondLast = d.pondLast := by rw [bump, setReg_pondLast]
@[simp] theorem bump_pfHist (d : Dev) (a n : Nat) : (d.bump a n).pfHist = d.pfHist := by rw [bump, setReg_pfHist]
@[simp] theorem bump_pfs (d : Dev) (a n : Nat) : (d.bump a n).pfs = d.pfs := by rw [bump, setReg_pfs]
@[simp] theorem bump_pfWait (d : Dev) (a n : Nat) : (d.bump a n).pfWait = d.pfWait := by rw [bump, setReg_pfWait]
@[simp] theorem bump_ncs (d : Dev) (a n : Nat) : (d.bump a n).ncs = d.ncs := by rw [bump, setReg_ncs]
@[simp] theorem bump_routers (d : Dev) (a n : Nat) : (d.bump a n).routers = d.routers := by rw [bump, setReg_routers]
@[simp] theorem bump_bar (d : Dev) (a n : Nat) : (d.bump a n).bar = d.bar := by rw [bump, setReg_bar]
@[simp] theorem bump_ports (d : Dev) (a n : Nat) : (d.bump a n).ports = d.ports := by rw [bump, setReg_ports]
@[simp] theorem bump_colls (d : Dev) (a n : Nat) : (d.bump a n).colls = d.colls := by rw [bump, setReg_colls]
@[simp] theorem bump_noticed (d : Dev) (a n : Nat) : (d.bump a n).noticed = d.noticed := by rw [bump, setReg_noticed]
@[simp] theorem bump_trigOuts (d : Dev) (a n : Nat) : (d.bump a n).trigOuts = d.trigOuts := by rw [bump, setReg_trigOuts]
@[simp] theorem bump_lineLast (d : Dev) (a n : Nat) : (d.bump a n).lineLast = d.lineLast := by rw [bump, setReg_lineLast]
@[simp] theorem bump_sen (d : Dev) (a n : Nat) : (d.bump a n).sen = d.sen := by rw [bump, setReg_sen]
@[simp] theorem bump_pwr (d : Dev) (a n : Nat) : (d.bump a n).pwr = d.pwr := by rw [bump, setReg_pwr]
@[simp] theorem bump_pins (d : Dev) (a n : Nat) : (d.bump a n).pins = d.pins := by rw [bump, setReg_pins]
@[simp] theorem bump_harts (d : Dev) (a n : Nat) : (d.bump a n).harts = d.harts := by rw [bump, setReg_harts]
@[simp] theorem bump_mp (d : Dev) (a n : Nat) : (d.bump a n).mp = d.mp := by rw [bump, setReg_mp]
@[simp] theorem bump_vci (d : Dev) (a n : Nat) : (d.bump a n).vci = d.vci := by rw [bump, setReg_vci]
@[simp] theorem bump_board (d : Dev) (a n : Nat) : (d.bump a n).board = d.board := by rw [bump, setReg_board]
@[simp] theorem bump_conduits (d : Dev) (a n : Nat) : (d.bump a n).conduits = d.conduits := by rw [bump, setReg_conduits]
@[simp] theorem bump_rings (d : Dev) (a n : Nat) : (d.bump a n).rings = d.rings := by rw [bump, setReg_rings]
@[simp] theorem bump_fuses (d : Dev) (a n : Nat) : (d.bump a n).fuses = d.fuses := by rw [bump, setReg_fuses]
@[simp] theorem bump_sec (d : Dev) (a n : Nat) : (d.bump a n).sec = d.sec := by rw [bump, setReg_sec]
@[simp] theorem bump_laps (d : Dev) (a n : Nat) : (d.bump a n).laps = d.laps := by rw [bump, setReg_laps]
@[simp] theorem bump_pondTo (d : Dev) (a n : Nat) : (d.bump a n).pondTo = d.pondTo := by rw [bump, setReg_pondTo]
@[simp] theorem bump_lastRead (d : Dev) (a n : Nat) : (d.bump a n).lastRead = d.lastRead := by rw [bump, setReg_lastRead]

/-! ### Dev.setReg64 -/

@[simp] theorem setReg64_mem (d : Dev) (lo hi v : Nat) : (d.setReg64 lo hi v).mem = d.mem := by rw [setReg64, setReg_mem, setReg_mem]
@[simp] theorem setReg64_badMem (d : Dev) (lo hi v : Nat) : (d.setReg64 lo hi v).badMem = d.badMem := by rw [setReg64, setReg_badMem, setReg_badMem]
@[simp] theorem setReg64_free (d : Dev) (lo hi v : Nat) : (d.setReg64 lo hi v).free = d.free := by rw [setReg64, setReg_free, setReg_free]
@[simp] theorem setReg64_tb (d : Dev) (lo hi v : Nat) : (d.setReg64 lo hi v).tb = d.tb := by rw [setReg64, setReg_tb, setReg_tb]
@[simp] theorem setReg64_links (d : Dev) (lo hi v : Nat) : (d.setReg64 lo hi v).links = d.links := by rw [setReg64, setReg_links, setReg_links]
@[simp] theorem setReg64_strms (d : Dev) (lo hi v : Nat) : (d.setReg64 lo hi v).strms = d.strms := by rw [setReg64, setReg_strms, setReg_strms]
@[simp] theorem setReg64_flume (d : Dev) (lo hi v : Nat) : (d.setReg64 lo hi v).flume = d.flume := by rw [setReg64, setReg_flume, setReg_flume]
@[simp] theorem setReg64_jn (d : Dev) (lo hi v : Nat) : (d.setReg64 lo hi v).jn = d.jn := by rw [setReg64, setReg_jn, setReg_jn]
@[simp] theorem setReg64_ledger (d : Dev) (lo hi v : Nat) : (d.setReg64 lo hi v).ledger = d.ledger := by rw [setReg64, setReg_ledger, setReg_ledger]
@[simp] theorem setReg64_errs (d : Dev) (lo hi v : Nat) : (d.setReg64 lo hi v).errs = d.errs := by rw [setReg64, setReg_errs, setReg_errs]
@[simp] theorem setReg64_bme (d : Dev) (lo hi v : Nat) : (d.setReg64 lo hi v).bme = d.bme := by rw [setReg64, setReg_bme, setReg_bme]
@[simp] theorem setReg64_fnMask (d : Dev) (lo hi v : Nat) : (d.setReg64 lo hi v).fnMask = d.fnMask := by rw [setReg64, setReg_fnMask, setReg_fnMask]
@[simp] theorem setReg64_pcie (d : Dev) (lo hi v : Nat) : (d.setReg64 lo hi v).pcie = d.pcie := by rw [setReg64, setReg_pcie, setReg_pcie]
@[simp] theorem setReg64_hostWait (d : Dev) (lo hi v : Nat) : (d.setReg64 lo hi v).hostWait = d.hostWait := by rw [setReg64, setReg_hostWait, setReg_hostWait]
@[simp] theorem setReg64_cache (d : Dev) (lo hi v : Nat) : (d.setReg64 lo hi v).cache = d.cache := by rw [setReg64, setReg_cache, setReg_cache]
@[simp] theorem setReg64_cacheAge (d : Dev) (lo hi v : Nat) : (d.setReg64 lo hi v).cacheAge = d.cacheAge := by rw [setReg64, setReg_cacheAge, setReg_cacheAge]
@[simp] theorem setReg64_pondLast (d : Dev) (lo hi v : Nat) : (d.setReg64 lo hi v).pondLast = d.pondLast := by rw [setReg64, setReg_pondLast, setReg_pondLast]
@[simp] theorem setReg64_pfHist (d : Dev) (lo hi v : Nat) : (d.setReg64 lo hi v).pfHist = d.pfHist := by rw [setReg64, setReg_pfHist, setReg_pfHist]
@[simp] theorem setReg64_pfs (d : Dev) (lo hi v : Nat) : (d.setReg64 lo hi v).pfs = d.pfs := by rw [setReg64, setReg_pfs, setReg_pfs]
@[simp] theorem setReg64_pfWait (d : Dev) (lo hi v : Nat) : (d.setReg64 lo hi v).pfWait = d.pfWait := by rw [setReg64, setReg_pfWait, setReg_pfWait]
@[simp] theorem setReg64_ncs (d : Dev) (lo hi v : Nat) : (d.setReg64 lo hi v).ncs = d.ncs := by rw [setReg64, setReg_ncs, setReg_ncs]
@[simp] theorem setReg64_routers (d : Dev) (lo hi v : Nat) : (d.setReg64 lo hi v).routers = d.routers := by rw [setReg64, setReg_routers, setReg_routers]
@[simp] theorem setReg64_bar (d : Dev) (lo hi v : Nat) : (d.setReg64 lo hi v).bar = d.bar := by rw [setReg64, setReg_bar, setReg_bar]
@[simp] theorem setReg64_ports (d : Dev) (lo hi v : Nat) : (d.setReg64 lo hi v).ports = d.ports := by rw [setReg64, setReg_ports, setReg_ports]
@[simp] theorem setReg64_colls (d : Dev) (lo hi v : Nat) : (d.setReg64 lo hi v).colls = d.colls := by rw [setReg64, setReg_colls, setReg_colls]
@[simp] theorem setReg64_noticed (d : Dev) (lo hi v : Nat) : (d.setReg64 lo hi v).noticed = d.noticed := by rw [setReg64, setReg_noticed, setReg_noticed]
@[simp] theorem setReg64_trigOuts (d : Dev) (lo hi v : Nat) : (d.setReg64 lo hi v).trigOuts = d.trigOuts := by rw [setReg64, setReg_trigOuts, setReg_trigOuts]
@[simp] theorem setReg64_lineLast (d : Dev) (lo hi v : Nat) : (d.setReg64 lo hi v).lineLast = d.lineLast := by rw [setReg64, setReg_lineLast, setReg_lineLast]
@[simp] theorem setReg64_sen (d : Dev) (lo hi v : Nat) : (d.setReg64 lo hi v).sen = d.sen := by rw [setReg64, setReg_sen, setReg_sen]
@[simp] theorem setReg64_pwr (d : Dev) (lo hi v : Nat) : (d.setReg64 lo hi v).pwr = d.pwr := by rw [setReg64, setReg_pwr, setReg_pwr]
@[simp] theorem setReg64_pins (d : Dev) (lo hi v : Nat) : (d.setReg64 lo hi v).pins = d.pins := by rw [setReg64, setReg_pins, setReg_pins]
@[simp] theorem setReg64_harts (d : Dev) (lo hi v : Nat) : (d.setReg64 lo hi v).harts = d.harts := by rw [setReg64, setReg_harts, setReg_harts]
@[simp] theorem setReg64_mp (d : Dev) (lo hi v : Nat) : (d.setReg64 lo hi v).mp = d.mp := by rw [setReg64, setReg_mp, setReg_mp]
@[simp] theorem setReg64_vci (d : Dev) (lo hi v : Nat) : (d.setReg64 lo hi v).vci = d.vci := by rw [setReg64, setReg_vci, setReg_vci]
@[simp] theorem setReg64_board (d : Dev) (lo hi v : Nat) : (d.setReg64 lo hi v).board = d.board := by rw [setReg64, setReg_board, setReg_board]
@[simp] theorem setReg64_conduits (d : Dev) (lo hi v : Nat) : (d.setReg64 lo hi v).conduits = d.conduits := by rw [setReg64, setReg_conduits, setReg_conduits]
@[simp] theorem setReg64_rings (d : Dev) (lo hi v : Nat) : (d.setReg64 lo hi v).rings = d.rings := by rw [setReg64, setReg_rings, setReg_rings]
@[simp] theorem setReg64_fuses (d : Dev) (lo hi v : Nat) : (d.setReg64 lo hi v).fuses = d.fuses := by rw [setReg64, setReg_fuses, setReg_fuses]
@[simp] theorem setReg64_sec (d : Dev) (lo hi v : Nat) : (d.setReg64 lo hi v).sec = d.sec := by rw [setReg64, setReg_sec, setReg_sec]
@[simp] theorem setReg64_laps (d : Dev) (lo hi v : Nat) : (d.setReg64 lo hi v).laps = d.laps := by rw [setReg64, setReg_laps, setReg_laps]
@[simp] theorem setReg64_pondTo (d : Dev) (lo hi v : Nat) : (d.setReg64 lo hi v).pondTo = d.pondTo := by rw [setReg64, setReg_pondTo, setReg_pondTo]
@[simp] theorem setReg64_lastRead (d : Dev) (lo hi v : Nat) : (d.setReg64 lo hi v).lastRead = d.lastRead := by rw [setReg64, setReg_lastRead, setReg_lastRead]

/-! ### Dev.bump64 -/

@[simp] theorem bump64_mem (d : Dev) (lo hi n : Nat) : (d.bump64 lo hi n).mem = d.mem := by rw [bump64, setReg64_mem]
@[simp] theorem bump64_badMem (d : Dev) (lo hi n : Nat) : (d.bump64 lo hi n).badMem = d.badMem := by rw [bump64, setReg64_badMem]
@[simp] theorem bump64_free (d : Dev) (lo hi n : Nat) : (d.bump64 lo hi n).free = d.free := by rw [bump64, setReg64_free]
@[simp] theorem bump64_tb (d : Dev) (lo hi n : Nat) : (d.bump64 lo hi n).tb = d.tb := by rw [bump64, setReg64_tb]
@[simp] theorem bump64_links (d : Dev) (lo hi n : Nat) : (d.bump64 lo hi n).links = d.links := by rw [bump64, setReg64_links]
@[simp] theorem bump64_strms (d : Dev) (lo hi n : Nat) : (d.bump64 lo hi n).strms = d.strms := by rw [bump64, setReg64_strms]
@[simp] theorem bump64_flume (d : Dev) (lo hi n : Nat) : (d.bump64 lo hi n).flume = d.flume := by rw [bump64, setReg64_flume]
@[simp] theorem bump64_jn (d : Dev) (lo hi n : Nat) : (d.bump64 lo hi n).jn = d.jn := by rw [bump64, setReg64_jn]
@[simp] theorem bump64_ledger (d : Dev) (lo hi n : Nat) : (d.bump64 lo hi n).ledger = d.ledger := by rw [bump64, setReg64_ledger]
@[simp] theorem bump64_errs (d : Dev) (lo hi n : Nat) : (d.bump64 lo hi n).errs = d.errs := by rw [bump64, setReg64_errs]
@[simp] theorem bump64_bme (d : Dev) (lo hi n : Nat) : (d.bump64 lo hi n).bme = d.bme := by rw [bump64, setReg64_bme]
@[simp] theorem bump64_fnMask (d : Dev) (lo hi n : Nat) : (d.bump64 lo hi n).fnMask = d.fnMask := by rw [bump64, setReg64_fnMask]
@[simp] theorem bump64_pcie (d : Dev) (lo hi n : Nat) : (d.bump64 lo hi n).pcie = d.pcie := by rw [bump64, setReg64_pcie]
@[simp] theorem bump64_hostWait (d : Dev) (lo hi n : Nat) : (d.bump64 lo hi n).hostWait = d.hostWait := by rw [bump64, setReg64_hostWait]
@[simp] theorem bump64_cache (d : Dev) (lo hi n : Nat) : (d.bump64 lo hi n).cache = d.cache := by rw [bump64, setReg64_cache]
@[simp] theorem bump64_cacheAge (d : Dev) (lo hi n : Nat) : (d.bump64 lo hi n).cacheAge = d.cacheAge := by rw [bump64, setReg64_cacheAge]
@[simp] theorem bump64_pondLast (d : Dev) (lo hi n : Nat) : (d.bump64 lo hi n).pondLast = d.pondLast := by rw [bump64, setReg64_pondLast]
@[simp] theorem bump64_pfHist (d : Dev) (lo hi n : Nat) : (d.bump64 lo hi n).pfHist = d.pfHist := by rw [bump64, setReg64_pfHist]
@[simp] theorem bump64_pfs (d : Dev) (lo hi n : Nat) : (d.bump64 lo hi n).pfs = d.pfs := by rw [bump64, setReg64_pfs]
@[simp] theorem bump64_pfWait (d : Dev) (lo hi n : Nat) : (d.bump64 lo hi n).pfWait = d.pfWait := by rw [bump64, setReg64_pfWait]
@[simp] theorem bump64_ncs (d : Dev) (lo hi n : Nat) : (d.bump64 lo hi n).ncs = d.ncs := by rw [bump64, setReg64_ncs]
@[simp] theorem bump64_routers (d : Dev) (lo hi n : Nat) : (d.bump64 lo hi n).routers = d.routers := by rw [bump64, setReg64_routers]
@[simp] theorem bump64_bar (d : Dev) (lo hi n : Nat) : (d.bump64 lo hi n).bar = d.bar := by rw [bump64, setReg64_bar]
@[simp] theorem bump64_ports (d : Dev) (lo hi n : Nat) : (d.bump64 lo hi n).ports = d.ports := by rw [bump64, setReg64_ports]
@[simp] theorem bump64_colls (d : Dev) (lo hi n : Nat) : (d.bump64 lo hi n).colls = d.colls := by rw [bump64, setReg64_colls]
@[simp] theorem bump64_noticed (d : Dev) (lo hi n : Nat) : (d.bump64 lo hi n).noticed = d.noticed := by rw [bump64, setReg64_noticed]
@[simp] theorem bump64_trigOuts (d : Dev) (lo hi n : Nat) : (d.bump64 lo hi n).trigOuts = d.trigOuts := by rw [bump64, setReg64_trigOuts]
@[simp] theorem bump64_lineLast (d : Dev) (lo hi n : Nat) : (d.bump64 lo hi n).lineLast = d.lineLast := by rw [bump64, setReg64_lineLast]
@[simp] theorem bump64_sen (d : Dev) (lo hi n : Nat) : (d.bump64 lo hi n).sen = d.sen := by rw [bump64, setReg64_sen]
@[simp] theorem bump64_pwr (d : Dev) (lo hi n : Nat) : (d.bump64 lo hi n).pwr = d.pwr := by rw [bump64, setReg64_pwr]
@[simp] theorem bump64_pins (d : Dev) (lo hi n : Nat) : (d.bump64 lo hi n).pins = d.pins := by rw [bump64, setReg64_pins]
@[simp] theorem bump64_harts (d : Dev) (lo hi n : Nat) : (d.bump64 lo hi n).harts = d.harts := by rw [bump64, setReg64_harts]
@[simp] theorem bump64_mp (d : Dev) (lo hi n : Nat) : (d.bump64 lo hi n).mp = d.mp := by rw [bump64, setReg64_mp]
@[simp] theorem bump64_vci (d : Dev) (lo hi n : Nat) : (d.bump64 lo hi n).vci = d.vci := by rw [bump64, setReg64_vci]
@[simp] theorem bump64_board (d : Dev) (lo hi n : Nat) : (d.bump64 lo hi n).board = d.board := by rw [bump64, setReg64_board]
@[simp] theorem bump64_conduits (d : Dev) (lo hi n : Nat) : (d.bump64 lo hi n).conduits = d.conduits := by rw [bump64, setReg64_conduits]
@[simp] theorem bump64_rings (d : Dev) (lo hi n : Nat) : (d.bump64 lo hi n).rings = d.rings := by rw [bump64, setReg64_rings]
@[simp] theorem bump64_fuses (d : Dev) (lo hi n : Nat) : (d.bump64 lo hi n).fuses = d.fuses := by rw [bump64, setReg64_fuses]
@[simp] theorem bump64_sec (d : Dev) (lo hi n : Nat) : (d.bump64 lo hi n).sec = d.sec := by rw [bump64, setReg64_sec]
@[simp] theorem bump64_laps (d : Dev) (lo hi n : Nat) : (d.bump64 lo hi n).laps = d.laps := by rw [bump64, setReg64_laps]
@[simp] theorem bump64_pondTo (d : Dev) (lo hi n : Nat) : (d.bump64 lo hi n).pondTo = d.pondTo := by rw [bump64, setReg64_pondTo]
@[simp] theorem bump64_lastRead (d : Dev) (lo hi n : Nat) : (d.bump64 lo hi n).lastRead = d.lastRead := by rw [bump64, setReg64_lastRead]

/-! ### Dev.drew -/

@[simp] theorem drew_regs (d : Dev) : (d.drew).regs = d.regs := rfl
@[simp] theorem drew_mem (d : Dev) : (d.drew).mem = d.mem := rfl
@[simp] theorem drew_badMem (d : Dev) : (d.drew).badMem = d.badMem := rfl
@[simp] theorem drew_tb (d : Dev) : (d.drew).tb = d.tb := rfl
@[simp] theorem drew_links (d : Dev) : (d.drew).links = d.links := rfl
@[simp] theorem drew_strms (d : Dev) : (d.drew).strms = d.strms := rfl
@[simp] theorem drew_flume (d : Dev) : (d.drew).flume = d.flume := rfl
@[simp] theorem drew_jn (d : Dev) : (d.drew).jn = d.jn := rfl
@[simp] theorem drew_ledger (d : Dev) : (d.drew).ledger = d.ledger := rfl
@[simp] theorem drew_errs (d : Dev) : (d.drew).errs = d.errs := rfl
@[simp] theorem drew_bme (d : Dev) : (d.drew).bme = d.bme := rfl
@[simp] theorem drew_fnMask (d : Dev) : (d.drew).fnMask = d.fnMask := rfl
@[simp] theorem drew_pcie (d : Dev) : (d.drew).pcie = d.pcie := rfl
@[simp] theorem drew_hostWait (d : Dev) : (d.drew).hostWait = d.hostWait := rfl
@[simp] theorem drew_cache (d : Dev) : (d.drew).cache = d.cache := rfl
@[simp] theorem drew_cacheAge (d : Dev) : (d.drew).cacheAge = d.cacheAge := rfl
@[simp] theorem drew_pondLast (d : Dev) : (d.drew).pondLast = d.pondLast := rfl
@[simp] theorem drew_pfHist (d : Dev) : (d.drew).pfHist = d.pfHist := rfl
@[simp] theorem drew_pfs (d : Dev) : (d.drew).pfs = d.pfs := rfl
@[simp] theorem drew_pfWait (d : Dev) : (d.drew).pfWait = d.pfWait := rfl
@[simp] theorem drew_ncs (d : Dev) : (d.drew).ncs = d.ncs := rfl
@[simp] theorem drew_routers (d : Dev) : (d.drew).routers = d.routers := rfl
@[simp] theorem drew_bar (d : Dev) : (d.drew).bar = d.bar := rfl
@[simp] theorem drew_ports (d : Dev) : (d.drew).ports = d.ports := rfl
@[simp] theorem drew_colls (d : Dev) : (d.drew).colls = d.colls := rfl
@[simp] theorem drew_noticed (d : Dev) : (d.drew).noticed = d.noticed := rfl
@[simp] theorem drew_trigOuts (d : Dev) : (d.drew).trigOuts = d.trigOuts := rfl
@[simp] theorem drew_lineLast (d : Dev) : (d.drew).lineLast = d.lineLast := rfl
@[simp] theorem drew_sen (d : Dev) : (d.drew).sen = d.sen := rfl
@[simp] theorem drew_pwr (d : Dev) : (d.drew).pwr = d.pwr := rfl
@[simp] theorem drew_pins (d : Dev) : (d.drew).pins = d.pins := rfl
@[simp] theorem drew_harts (d : Dev) : (d.drew).harts = d.harts := rfl
@[simp] theorem drew_mp (d : Dev) : (d.drew).mp = d.mp := rfl
@[simp] theorem drew_vci (d : Dev) : (d.drew).vci = d.vci := rfl
@[simp] theorem drew_board (d : Dev) : (d.drew).board = d.board := rfl
@[simp] theorem drew_conduits (d : Dev) : (d.drew).conduits = d.conduits := rfl
@[simp] theorem drew_rings (d : Dev) : (d.drew).rings = d.rings := rfl
@[simp] theorem drew_fuses (d : Dev) : (d.drew).fuses = d.fuses := rfl
@[simp] theorem drew_sec (d : Dev) : (d.drew).sec = d.sec := rfl
@[simp] theorem drew_laps (d : Dev) : (d.drew).laps = d.laps := rfl
@[simp] theorem drew_pondTo (d : Dev) : (d.drew).pondTo = d.pondTo := rfl
@[simp] theorem drew_lastRead (d : Dev) : (d.drew).lastRead = d.lastRead := rfl

/-! ### Dev.putBytes -/

@[simp] theorem putBytes_regs (d : Dev) (a : Nat) (bs : List Byte) : (d.putBytes a bs).regs = d.regs := rfl
@[simp] theorem putBytes_free (d : Dev) (a : Nat) (bs : List Byte) : (d.putBytes a bs).free = d.free := rfl
@[simp] theorem putBytes_tb (d : Dev) (a : Nat) (bs : List Byte) : (d.putBytes a bs).tb = d.tb := rfl
@[simp] theorem putBytes_links (d : Dev) (a : Nat) (bs : List Byte) : (d.putBytes a bs).links = d.links := rfl
@[simp] theorem putBytes_strms (d : Dev) (a : Nat) (bs : List Byte) : (d.putBytes a bs).strms = d.strms := rfl
@[simp] theorem putBytes_flume (d : Dev) (a : Nat) (bs : List Byte) : (d.putBytes a bs).flume = d.flume := rfl
@[simp] theorem putBytes_jn (d : Dev) (a : Nat) (bs : List Byte) : (d.putBytes a bs).jn = d.jn := rfl
@[simp] theorem putBytes_ledger (d : Dev) (a : Nat) (bs : List Byte) : (d.putBytes a bs).ledger = d.ledger := rfl
@[simp] theorem putBytes_errs (d : Dev) (a : Nat) (bs : List Byte) : (d.putBytes a bs).errs = d.errs := rfl
@[simp] theorem putBytes_bme (d : Dev) (a : Nat) (bs : List Byte) : (d.putBytes a bs).bme = d.bme := rfl
@[simp] theorem putBytes_fnMask (d : Dev) (a : Nat) (bs : List Byte) : (d.putBytes a bs).fnMask = d.fnMask := rfl
@[simp] theorem putBytes_pcie (d : Dev) (a : Nat) (bs : List Byte) : (d.putBytes a bs).pcie = d.pcie := rfl
@[simp] theorem putBytes_hostWait (d : Dev) (a : Nat) (bs : List Byte) : (d.putBytes a bs).hostWait = d.hostWait := rfl
@[simp] theorem putBytes_cacheAge (d : Dev) (a : Nat) (bs : List Byte) : (d.putBytes a bs).cacheAge = d.cacheAge := rfl
@[simp] theorem putBytes_pondLast (d : Dev) (a : Nat) (bs : List Byte) : (d.putBytes a bs).pondLast = d.pondLast := rfl
@[simp] theorem putBytes_pfHist (d : Dev) (a : Nat) (bs : List Byte) : (d.putBytes a bs).pfHist = d.pfHist := rfl
@[simp] theorem putBytes_pfs (d : Dev) (a : Nat) (bs : List Byte) : (d.putBytes a bs).pfs = d.pfs := rfl
@[simp] theorem putBytes_pfWait (d : Dev) (a : Nat) (bs : List Byte) : (d.putBytes a bs).pfWait = d.pfWait := rfl
@[simp] theorem putBytes_ncs (d : Dev) (a : Nat) (bs : List Byte) : (d.putBytes a bs).ncs = d.ncs := rfl
@[simp] theorem putBytes_routers (d : Dev) (a : Nat) (bs : List Byte) : (d.putBytes a bs).routers = d.routers := rfl
@[simp] theorem putBytes_bar (d : Dev) (a : Nat) (bs : List Byte) : (d.putBytes a bs).bar = d.bar := rfl
@[simp] theorem putBytes_ports (d : Dev) (a : Nat) (bs : List Byte) : (d.putBytes a bs).ports = d.ports := rfl
@[simp] theorem putBytes_colls (d : Dev) (a : Nat) (bs : List Byte) : (d.putBytes a bs).colls = d.colls := rfl
@[simp] theorem putBytes_noticed (d : Dev) (a : Nat) (bs : List Byte) : (d.putBytes a bs).noticed = d.noticed := rfl
@[simp] theorem putBytes_trigOuts (d : Dev) (a : Nat) (bs : List Byte) : (d.putBytes a bs).trigOuts = d.trigOuts := rfl
@[simp] theorem putBytes_lineLast (d : Dev) (a : Nat) (bs : List Byte) : (d.putBytes a bs).lineLast = d.lineLast := rfl
@[simp] theorem putBytes_sen (d : Dev) (a : Nat) (bs : List Byte) : (d.putBytes a bs).sen = d.sen := rfl
@[simp] theorem putBytes_pwr (d : Dev) (a : Nat) (bs : List Byte) : (d.putBytes a bs).pwr = d.pwr := rfl
@[simp] theorem putBytes_pins (d : Dev) (a : Nat) (bs : List Byte) : (d.putBytes a bs).pins = d.pins := rfl
@[simp] theorem putBytes_harts (d : Dev) (a : Nat) (bs : List Byte) : (d.putBytes a bs).harts = d.harts := rfl
@[simp] theorem putBytes_mp (d : Dev) (a : Nat) (bs : List Byte) : (d.putBytes a bs).mp = d.mp := rfl
@[simp] theorem putBytes_vci (d : Dev) (a : Nat) (bs : List Byte) : (d.putBytes a bs).vci = d.vci := rfl
@[simp] theorem putBytes_board (d : Dev) (a : Nat) (bs : List Byte) : (d.putBytes a bs).board = d.board := rfl
@[simp] theorem putBytes_conduits (d : Dev) (a : Nat) (bs : List Byte) : (d.putBytes a bs).conduits = d.conduits := rfl
@[simp] theorem putBytes_rings (d : Dev) (a : Nat) (bs : List Byte) : (d.putBytes a bs).rings = d.rings := rfl
@[simp] theorem putBytes_fuses (d : Dev) (a : Nat) (bs : List Byte) : (d.putBytes a bs).fuses = d.fuses := rfl
@[simp] theorem putBytes_sec (d : Dev) (a : Nat) (bs : List Byte) : (d.putBytes a bs).sec = d.sec := rfl
@[simp] theorem putBytes_laps (d : Dev) (a : Nat) (bs : List Byte) : (d.putBytes a bs).laps = d.laps := rfl
@[simp] theorem putBytes_pondTo (d : Dev) (a : Nat) (bs : List Byte) : (d.putBytes a bs).pondTo = d.pondTo := rfl
@[simp] theorem putBytes_lastRead (d : Dev) (a : Nat) (bs : List Byte) : (d.putBytes a bs).lastRead = d.lastRead := rfl

/-! ### Dev.putNum -/

@[simp] theorem putNum_regs (d : Dev) (a n v : Nat) : (d.putNum a n v).regs = d.regs := by rw [putNum, putBytes_regs]
@[simp] theorem putNum_free (d : Dev) (a n v : Nat) : (d.putNum a n v).free = d.free := by rw [putNum, putBytes_free]
@[simp] theorem putNum_tb (d : Dev) (a n v : Nat) : (d.putNum a n v).tb = d.tb := by rw [putNum, putBytes_tb]
@[simp] theorem putNum_links (d : Dev) (a n v : Nat) : (d.putNum a n v).links = d.links := by rw [putNum, putBytes_links]
@[simp] theorem putNum_strms (d : Dev) (a n v : Nat) : (d.putNum a n v).strms = d.strms := by rw [putNum, putBytes_strms]
@[simp] theorem putNum_flume (d : Dev) (a n v : Nat) : (d.putNum a n v).flume = d.flume := by rw [putNum, putBytes_flume]
@[simp] theorem putNum_jn (d : Dev) (a n v : Nat) : (d.putNum a n v).jn = d.jn := by rw [putNum, putBytes_jn]
@[simp] theorem putNum_ledger (d : Dev) (a n v : Nat) : (d.putNum a n v).ledger = d.ledger := by rw [putNum, putBytes_ledger]
@[simp] theorem putNum_errs (d : Dev) (a n v : Nat) : (d.putNum a n v).errs = d.errs := by rw [putNum, putBytes_errs]
@[simp] theorem putNum_bme (d : Dev) (a n v : Nat) : (d.putNum a n v).bme = d.bme := by rw [putNum, putBytes_bme]
@[simp] theorem putNum_fnMask (d : Dev) (a n v : Nat) : (d.putNum a n v).fnMask = d.fnMask := by rw [putNum, putBytes_fnMask]
@[simp] theorem putNum_pcie (d : Dev) (a n v : Nat) : (d.putNum a n v).pcie = d.pcie := by rw [putNum, putBytes_pcie]
@[simp] theorem putNum_hostWait (d : Dev) (a n v : Nat) : (d.putNum a n v).hostWait = d.hostWait := by rw [putNum, putBytes_hostWait]
@[simp] theorem putNum_cacheAge (d : Dev) (a n v : Nat) : (d.putNum a n v).cacheAge = d.cacheAge := by rw [putNum, putBytes_cacheAge]
@[simp] theorem putNum_pondLast (d : Dev) (a n v : Nat) : (d.putNum a n v).pondLast = d.pondLast := by rw [putNum, putBytes_pondLast]
@[simp] theorem putNum_pfHist (d : Dev) (a n v : Nat) : (d.putNum a n v).pfHist = d.pfHist := by rw [putNum, putBytes_pfHist]
@[simp] theorem putNum_pfs (d : Dev) (a n v : Nat) : (d.putNum a n v).pfs = d.pfs := by rw [putNum, putBytes_pfs]
@[simp] theorem putNum_pfWait (d : Dev) (a n v : Nat) : (d.putNum a n v).pfWait = d.pfWait := by rw [putNum, putBytes_pfWait]
@[simp] theorem putNum_ncs (d : Dev) (a n v : Nat) : (d.putNum a n v).ncs = d.ncs := by rw [putNum, putBytes_ncs]
@[simp] theorem putNum_routers (d : Dev) (a n v : Nat) : (d.putNum a n v).routers = d.routers := by rw [putNum, putBytes_routers]
@[simp] theorem putNum_bar (d : Dev) (a n v : Nat) : (d.putNum a n v).bar = d.bar := by rw [putNum, putBytes_bar]
@[simp] theorem putNum_ports (d : Dev) (a n v : Nat) : (d.putNum a n v).ports = d.ports := by rw [putNum, putBytes_ports]
@[simp] theorem putNum_colls (d : Dev) (a n v : Nat) : (d.putNum a n v).colls = d.colls := by rw [putNum, putBytes_colls]
@[simp] theorem putNum_noticed (d : Dev) (a n v : Nat) : (d.putNum a n v).noticed = d.noticed := by rw [putNum, putBytes_noticed]
@[simp] theorem putNum_trigOuts (d : Dev) (a n v : Nat) : (d.putNum a n v).trigOuts = d.trigOuts := by rw [putNum, putBytes_trigOuts]
@[simp] theorem putNum_lineLast (d : Dev) (a n v : Nat) : (d.putNum a n v).lineLast = d.lineLast := by rw [putNum, putBytes_lineLast]
@[simp] theorem putNum_sen (d : Dev) (a n v : Nat) : (d.putNum a n v).sen = d.sen := by rw [putNum, putBytes_sen]
@[simp] theorem putNum_pwr (d : Dev) (a n v : Nat) : (d.putNum a n v).pwr = d.pwr := by rw [putNum, putBytes_pwr]
@[simp] theorem putNum_pins (d : Dev) (a n v : Nat) : (d.putNum a n v).pins = d.pins := by rw [putNum, putBytes_pins]
@[simp] theorem putNum_harts (d : Dev) (a n v : Nat) : (d.putNum a n v).harts = d.harts := by rw [putNum, putBytes_harts]
@[simp] theorem putNum_mp (d : Dev) (a n v : Nat) : (d.putNum a n v).mp = d.mp := by rw [putNum, putBytes_mp]
@[simp] theorem putNum_vci (d : Dev) (a n v : Nat) : (d.putNum a n v).vci = d.vci := by rw [putNum, putBytes_vci]
@[simp] theorem putNum_board (d : Dev) (a n v : Nat) : (d.putNum a n v).board = d.board := by rw [putNum, putBytes_board]
@[simp] theorem putNum_conduits (d : Dev) (a n v : Nat) : (d.putNum a n v).conduits = d.conduits := by rw [putNum, putBytes_conduits]
@[simp] theorem putNum_rings (d : Dev) (a n v : Nat) : (d.putNum a n v).rings = d.rings := by rw [putNum, putBytes_rings]
@[simp] theorem putNum_fuses (d : Dev) (a n v : Nat) : (d.putNum a n v).fuses = d.fuses := by rw [putNum, putBytes_fuses]
@[simp] theorem putNum_sec (d : Dev) (a n v : Nat) : (d.putNum a n v).sec = d.sec := by rw [putNum, putBytes_sec]
@[simp] theorem putNum_laps (d : Dev) (a n v : Nat) : (d.putNum a n v).laps = d.laps := by rw [putNum, putBytes_laps]
@[simp] theorem putNum_pondTo (d : Dev) (a n v : Nat) : (d.putNum a n v).pondTo = d.pondTo := by rw [putNum, putBytes_pondTo]
@[simp] theorem putNum_lastRead (d : Dev) (a n v : Nat) : (d.putNum a n v).lastRead = d.lastRead := by rw [putNum, putBytes_lastRead]

/-! ### Dev.setBadLine -/

@[simp] theorem setBadLine_regs (d : Dev) (a : Nat) (b : Bool) : (d.setBadLine a b).regs = d.regs := rfl
@[simp] theorem setBadLine_mem (d : Dev) (a : Nat) (b : Bool) : (d.setBadLine a b).mem = d.mem := rfl
@[simp] theorem setBadLine_free (d : Dev) (a : Nat) (b : Bool) : (d.setBadLine a b).free = d.free := rfl
@[simp] theorem setBadLine_tb (d : Dev) (a : Nat) (b : Bool) : (d.setBadLine a b).tb = d.tb := rfl
@[simp] theorem setBadLine_links (d : Dev) (a : Nat) (b : Bool) : (d.setBadLine a b).links = d.links := rfl
@[simp] theorem setBadLine_strms (d : Dev) (a : Nat) (b : Bool) : (d.setBadLine a b).strms = d.strms := rfl
@[simp] theorem setBadLine_flume (d : Dev) (a : Nat) (b : Bool) : (d.setBadLine a b).flume = d.flume := rfl
@[simp] theorem setBadLine_jn (d : Dev) (a : Nat) (b : Bool) : (d.setBadLine a b).jn = d.jn := rfl
@[simp] theorem setBadLine_ledger (d : Dev) (a : Nat) (b : Bool) : (d.setBadLine a b).ledger = d.ledger := rfl
@[simp] theorem setBadLine_errs (d : Dev) (a : Nat) (b : Bool) : (d.setBadLine a b).errs = d.errs := rfl
@[simp] theorem setBadLine_bme (d : Dev) (a : Nat) (b : Bool) : (d.setBadLine a b).bme = d.bme := rfl
@[simp] theorem setBadLine_fnMask (d : Dev) (a : Nat) (b : Bool) : (d.setBadLine a b).fnMask = d.fnMask := rfl
@[simp] theorem setBadLine_pcie (d : Dev) (a : Nat) (b : Bool) : (d.setBadLine a b).pcie = d.pcie := rfl
@[simp] theorem setBadLine_hostWait (d : Dev) (a : Nat) (b : Bool) : (d.setBadLine a b).hostWait = d.hostWait := rfl
@[simp] theorem setBadLine_cache (d : Dev) (a : Nat) (b : Bool) : (d.setBadLine a b).cache = d.cache := rfl
@[simp] theorem setBadLine_cacheAge (d : Dev) (a : Nat) (b : Bool) : (d.setBadLine a b).cacheAge = d.cacheAge := rfl
@[simp] theorem setBadLine_pondLast (d : Dev) (a : Nat) (b : Bool) : (d.setBadLine a b).pondLast = d.pondLast := rfl
@[simp] theorem setBadLine_pfHist (d : Dev) (a : Nat) (b : Bool) : (d.setBadLine a b).pfHist = d.pfHist := rfl
@[simp] theorem setBadLine_pfs (d : Dev) (a : Nat) (b : Bool) : (d.setBadLine a b).pfs = d.pfs := rfl
@[simp] theorem setBadLine_pfWait (d : Dev) (a : Nat) (b : Bool) : (d.setBadLine a b).pfWait = d.pfWait := rfl
@[simp] theorem setBadLine_ncs (d : Dev) (a : Nat) (b : Bool) : (d.setBadLine a b).ncs = d.ncs := rfl
@[simp] theorem setBadLine_routers (d : Dev) (a : Nat) (b : Bool) : (d.setBadLine a b).routers = d.routers := rfl
@[simp] theorem setBadLine_bar (d : Dev) (a : Nat) (b : Bool) : (d.setBadLine a b).bar = d.bar := rfl
@[simp] theorem setBadLine_ports (d : Dev) (a : Nat) (b : Bool) : (d.setBadLine a b).ports = d.ports := rfl
@[simp] theorem setBadLine_colls (d : Dev) (a : Nat) (b : Bool) : (d.setBadLine a b).colls = d.colls := rfl
@[simp] theorem setBadLine_noticed (d : Dev) (a : Nat) (b : Bool) : (d.setBadLine a b).noticed = d.noticed := rfl
@[simp] theorem setBadLine_trigOuts (d : Dev) (a : Nat) (b : Bool) : (d.setBadLine a b).trigOuts = d.trigOuts := rfl
@[simp] theorem setBadLine_lineLast (d : Dev) (a : Nat) (b : Bool) : (d.setBadLine a b).lineLast = d.lineLast := rfl
@[simp] theorem setBadLine_sen (d : Dev) (a : Nat) (b : Bool) : (d.setBadLine a b).sen = d.sen := rfl
@[simp] theorem setBadLine_pwr (d : Dev) (a : Nat) (b : Bool) : (d.setBadLine a b).pwr = d.pwr := rfl
@[simp] theorem setBadLine_pins (d : Dev) (a : Nat) (b : Bool) : (d.setBadLine a b).pins = d.pins := rfl
@[simp] theorem setBadLine_harts (d : Dev) (a : Nat) (b : Bool) : (d.setBadLine a b).harts = d.harts := rfl
@[simp] theorem setBadLine_mp (d : Dev) (a : Nat) (b : Bool) : (d.setBadLine a b).mp = d.mp := rfl
@[simp] theorem setBadLine_vci (d : Dev) (a : Nat) (b : Bool) : (d.setBadLine a b).vci = d.vci := rfl
@[simp] theorem setBadLine_board (d : Dev) (a : Nat) (b : Bool) : (d.setBadLine a b).board = d.board := rfl
@[simp] theorem setBadLine_conduits (d : Dev) (a : Nat) (b : Bool) : (d.setBadLine a b).conduits = d.conduits := rfl
@[simp] theorem setBadLine_rings (d : Dev) (a : Nat) (b : Bool) : (d.setBadLine a b).rings = d.rings := rfl
@[simp] theorem setBadLine_fuses (d : Dev) (a : Nat) (b : Bool) : (d.setBadLine a b).fuses = d.fuses := rfl
@[simp] theorem setBadLine_sec (d : Dev) (a : Nat) (b : Bool) : (d.setBadLine a b).sec = d.sec := rfl
@[simp] theorem setBadLine_laps (d : Dev) (a : Nat) (b : Bool) : (d.setBadLine a b).laps = d.laps := rfl
@[simp] theorem setBadLine_pondTo (d : Dev) (a : Nat) (b : Bool) : (d.setBadLine a b).pondTo = d.pondTo := rfl
@[simp] theorem setBadLine_lastRead (d : Dev) (a : Nat) (b : Bool) : (d.setBadLine a b).lastRead = d.lastRead := rfl

/-! ### Dev.setLog -/

@[simp] theorem setLog_regs (d : Dev) (u : Nat) (l : ErrLog) : (d.setLog u l).regs = d.regs := rfl
@[simp] theorem setLog_mem (d : Dev) (u : Nat) (l : ErrLog) : (d.setLog u l).mem = d.mem := rfl
@[simp] theorem setLog_badMem (d : Dev) (u : Nat) (l : ErrLog) : (d.setLog u l).badMem = d.badMem := rfl
@[simp] theorem setLog_free (d : Dev) (u : Nat) (l : ErrLog) : (d.setLog u l).free = d.free := rfl
@[simp] theorem setLog_tb (d : Dev) (u : Nat) (l : ErrLog) : (d.setLog u l).tb = d.tb := rfl
@[simp] theorem setLog_links (d : Dev) (u : Nat) (l : ErrLog) : (d.setLog u l).links = d.links := rfl
@[simp] theorem setLog_strms (d : Dev) (u : Nat) (l : ErrLog) : (d.setLog u l).strms = d.strms := rfl
@[simp] theorem setLog_flume (d : Dev) (u : Nat) (l : ErrLog) : (d.setLog u l).flume = d.flume := rfl
@[simp] theorem setLog_jn (d : Dev) (u : Nat) (l : ErrLog) : (d.setLog u l).jn = d.jn := rfl
@[simp] theorem setLog_ledger (d : Dev) (u : Nat) (l : ErrLog) : (d.setLog u l).ledger = d.ledger := rfl
@[simp] theorem setLog_bme (d : Dev) (u : Nat) (l : ErrLog) : (d.setLog u l).bme = d.bme := rfl
@[simp] theorem setLog_fnMask (d : Dev) (u : Nat) (l : ErrLog) : (d.setLog u l).fnMask = d.fnMask := rfl
@[simp] theorem setLog_pcie (d : Dev) (u : Nat) (l : ErrLog) : (d.setLog u l).pcie = d.pcie := rfl
@[simp] theorem setLog_hostWait (d : Dev) (u : Nat) (l : ErrLog) : (d.setLog u l).hostWait = d.hostWait := rfl
@[simp] theorem setLog_cache (d : Dev) (u : Nat) (l : ErrLog) : (d.setLog u l).cache = d.cache := rfl
@[simp] theorem setLog_cacheAge (d : Dev) (u : Nat) (l : ErrLog) : (d.setLog u l).cacheAge = d.cacheAge := rfl
@[simp] theorem setLog_pondLast (d : Dev) (u : Nat) (l : ErrLog) : (d.setLog u l).pondLast = d.pondLast := rfl
@[simp] theorem setLog_pfHist (d : Dev) (u : Nat) (l : ErrLog) : (d.setLog u l).pfHist = d.pfHist := rfl
@[simp] theorem setLog_pfs (d : Dev) (u : Nat) (l : ErrLog) : (d.setLog u l).pfs = d.pfs := rfl
@[simp] theorem setLog_pfWait (d : Dev) (u : Nat) (l : ErrLog) : (d.setLog u l).pfWait = d.pfWait := rfl
@[simp] theorem setLog_ncs (d : Dev) (u : Nat) (l : ErrLog) : (d.setLog u l).ncs = d.ncs := rfl
@[simp] theorem setLog_routers (d : Dev) (u : Nat) (l : ErrLog) : (d.setLog u l).routers = d.routers := rfl
@[simp] theorem setLog_bar (d : Dev) (u : Nat) (l : ErrLog) : (d.setLog u l).bar = d.bar := rfl
@[simp] theorem setLog_ports (d : Dev) (u : Nat) (l : ErrLog) : (d.setLog u l).ports = d.ports := rfl
@[simp] theorem setLog_colls (d : Dev) (u : Nat) (l : ErrLog) : (d.setLog u l).colls = d.colls := rfl
@[simp] theorem setLog_noticed (d : Dev) (u : Nat) (l : ErrLog) : (d.setLog u l).noticed = d.noticed := rfl
@[simp] theorem setLog_trigOuts (d : Dev) (u : Nat) (l : ErrLog) : (d.setLog u l).trigOuts = d.trigOuts := rfl
@[simp] theorem setLog_lineLast (d : Dev) (u : Nat) (l : ErrLog) : (d.setLog u l).lineLast = d.lineLast := rfl
@[simp] theorem setLog_sen (d : Dev) (u : Nat) (l : ErrLog) : (d.setLog u l).sen = d.sen := rfl
@[simp] theorem setLog_pwr (d : Dev) (u : Nat) (l : ErrLog) : (d.setLog u l).pwr = d.pwr := rfl
@[simp] theorem setLog_pins (d : Dev) (u : Nat) (l : ErrLog) : (d.setLog u l).pins = d.pins := rfl
@[simp] theorem setLog_harts (d : Dev) (u : Nat) (l : ErrLog) : (d.setLog u l).harts = d.harts := rfl
@[simp] theorem setLog_mp (d : Dev) (u : Nat) (l : ErrLog) : (d.setLog u l).mp = d.mp := rfl
@[simp] theorem setLog_vci (d : Dev) (u : Nat) (l : ErrLog) : (d.setLog u l).vci = d.vci := rfl
@[simp] theorem setLog_board (d : Dev) (u : Nat) (l : ErrLog) : (d.setLog u l).board = d.board := rfl
@[simp] theorem setLog_conduits (d : Dev) (u : Nat) (l : ErrLog) : (d.setLog u l).conduits = d.conduits := rfl
@[simp] theorem setLog_rings (d : Dev) (u : Nat) (l : ErrLog) : (d.setLog u l).rings = d.rings := rfl
@[simp] theorem setLog_fuses (d : Dev) (u : Nat) (l : ErrLog) : (d.setLog u l).fuses = d.fuses := rfl
@[simp] theorem setLog_sec (d : Dev) (u : Nat) (l : ErrLog) : (d.setLog u l).sec = d.sec := rfl
@[simp] theorem setLog_laps (d : Dev) (u : Nat) (l : ErrLog) : (d.setLog u l).laps = d.laps := rfl
@[simp] theorem setLog_pondTo (d : Dev) (u : Nat) (l : ErrLog) : (d.setLog u l).pondTo = d.pondTo := rfl
@[simp] theorem setLog_lastRead (d : Dev) (u : Nat) (l : ErrLog) : (d.setLog u l).lastRead = d.lastRead := rfl

/-! ### Dev.activity -/

@[simp] theorem activity_regs (d : Dev) : (d.activity).regs = d.regs := rfl
@[simp] theorem activity_mem (d : Dev) : (d.activity).mem = d.mem := rfl
@[simp] theorem activity_badMem (d : Dev) : (d.activity).badMem = d.badMem := rfl
@[simp] theorem activity_free (d : Dev) : (d.activity).free = d.free := rfl
@[simp] theorem activity_tb (d : Dev) : (d.activity).tb = d.tb := rfl
@[simp] theorem activity_links (d : Dev) : (d.activity).links = d.links := rfl
@[simp] theorem activity_strms (d : Dev) : (d.activity).strms = d.strms := rfl
@[simp] theorem activity_flume (d : Dev) : (d.activity).flume = d.flume := rfl
@[simp] theorem activity_jn (d : Dev) : (d.activity).jn = d.jn := rfl
@[simp] theorem activity_ledger (d : Dev) : (d.activity).ledger = d.ledger := rfl
@[simp] theorem activity_errs (d : Dev) : (d.activity).errs = d.errs := rfl
@[simp] theorem activity_bme (d : Dev) : (d.activity).bme = d.bme := rfl
@[simp] theorem activity_fnMask (d : Dev) : (d.activity).fnMask = d.fnMask := rfl
@[simp] theorem activity_pcie (d : Dev) : (d.activity).pcie = d.pcie := rfl
@[simp] theorem activity_hostWait (d : Dev) : (d.activity).hostWait = d.hostWait := rfl
@[simp] theorem activity_cache (d : Dev) : (d.activity).cache = d.cache := rfl
@[simp] theorem activity_cacheAge (d : Dev) : (d.activity).cacheAge = d.cacheAge := rfl
@[simp] theorem activity_pondLast (d : Dev) : (d.activity).pondLast = d.pondLast := rfl
@[simp] theorem activity_pfHist (d : Dev) : (d.activity).pfHist = d.pfHist := rfl
@[simp] theorem activity_pfs (d : Dev) : (d.activity).pfs = d.pfs := rfl
@[simp] theorem activity_pfWait (d : Dev) : (d.activity).pfWait = d.pfWait := rfl
@[simp] theorem activity_ncs (d : Dev) : (d.activity).ncs = d.ncs := rfl
@[simp] theorem activity_routers (d : Dev) : (d.activity).routers = d.routers := rfl
@[simp] theorem activity_bar (d : Dev) : (d.activity).bar = d.bar := rfl
@[simp] theorem activity_ports (d : Dev) : (d.activity).ports = d.ports := rfl
@[simp] theorem activity_colls (d : Dev) : (d.activity).colls = d.colls := rfl
@[simp] theorem activity_noticed (d : Dev) : (d.activity).noticed = d.noticed := rfl
@[simp] theorem activity_trigOuts (d : Dev) : (d.activity).trigOuts = d.trigOuts := rfl
@[simp] theorem activity_lineLast (d : Dev) : (d.activity).lineLast = d.lineLast := rfl
@[simp] theorem activity_sen (d : Dev) : (d.activity).sen = d.sen := rfl
@[simp] theorem activity_pins (d : Dev) : (d.activity).pins = d.pins := rfl
@[simp] theorem activity_harts (d : Dev) : (d.activity).harts = d.harts := rfl
@[simp] theorem activity_mp (d : Dev) : (d.activity).mp = d.mp := rfl
@[simp] theorem activity_vci (d : Dev) : (d.activity).vci = d.vci := rfl
@[simp] theorem activity_board (d : Dev) : (d.activity).board = d.board := rfl
@[simp] theorem activity_conduits (d : Dev) : (d.activity).conduits = d.conduits := rfl
@[simp] theorem activity_rings (d : Dev) : (d.activity).rings = d.rings := rfl
@[simp] theorem activity_fuses (d : Dev) : (d.activity).fuses = d.fuses := rfl
@[simp] theorem activity_sec (d : Dev) : (d.activity).sec = d.sec := rfl
@[simp] theorem activity_laps (d : Dev) : (d.activity).laps = d.laps := rfl
@[simp] theorem activity_pondTo (d : Dev) : (d.activity).pondTo = d.pondTo := rfl
@[simp] theorem activity_lastRead (d : Dev) : (d.activity).lastRead = d.lastRead := rfl

/-! ### Dev.setLink -/

@[simp] theorem setLink_regs (d : Dev) (n : Nat) (x : Link) : (d.setLink n x).regs = d.regs := rfl
@[simp] theorem setLink_mem (d : Dev) (n : Nat) (x : Link) : (d.setLink n x).mem = d.mem := rfl
@[simp] theorem setLink_badMem (d : Dev) (n : Nat) (x : Link) : (d.setLink n x).badMem = d.badMem := rfl
@[simp] theorem setLink_free (d : Dev) (n : Nat) (x : Link) : (d.setLink n x).free = d.free := rfl
@[simp] theorem setLink_tb (d : Dev) (n : Nat) (x : Link) : (d.setLink n x).tb = d.tb := rfl
@[simp] theorem setLink_strms (d : Dev) (n : Nat) (x : Link) : (d.setLink n x).strms = d.strms := rfl
@[simp] theorem setLink_flume (d : Dev) (n : Nat) (x : Link) : (d.setLink n x).flume = d.flume := rfl
@[simp] theorem setLink_jn (d : Dev) (n : Nat) (x : Link) : (d.setLink n x).jn = d.jn := rfl
@[simp] theorem setLink_ledger (d : Dev) (n : Nat) (x : Link) : (d.setLink n x).ledger = d.ledger := rfl
@[simp] theorem setLink_errs (d : Dev) (n : Nat) (x : Link) : (d.setLink n x).errs = d.errs := rfl
@[simp] theorem setLink_bme (d : Dev) (n : Nat) (x : Link) : (d.setLink n x).bme = d.bme := rfl
@[simp] theorem setLink_fnMask (d : Dev) (n : Nat) (x : Link) : (d.setLink n x).fnMask = d.fnMask := rfl
@[simp] theorem setLink_pcie (d : Dev) (n : Nat) (x : Link) : (d.setLink n x).pcie = d.pcie := rfl
@[simp] theorem setLink_hostWait (d : Dev) (n : Nat) (x : Link) : (d.setLink n x).hostWait = d.hostWait := rfl
@[simp] theorem setLink_cache (d : Dev) (n : Nat) (x : Link) : (d.setLink n x).cache = d.cache := rfl
@[simp] theorem setLink_cacheAge (d : Dev) (n : Nat) (x : Link) : (d.setLink n x).cacheAge = d.cacheAge := rfl
@[simp] theorem setLink_pondLast (d : Dev) (n : Nat) (x : Link) : (d.setLink n x).pondLast = d.pondLast := rfl
@[simp] theorem setLink_pfHist (d : Dev) (n : Nat) (x : Link) : (d.setLink n x).pfHist = d.pfHist := rfl
@[simp] theorem setLink_pfs (d : Dev) (n : Nat) (x : Link) : (d.setLink n x).pfs = d.pfs := rfl
@[simp] theorem setLink_pfWait (d : Dev) (n : Nat) (x : Link) : (d.setLink n x).pfWait = d.pfWait := rfl
@[simp] theorem setLink_ncs (d : Dev) (n : Nat) (x : Link) : (d.setLink n x).ncs = d.ncs := rfl
@[simp] theorem setLink_routers (d : Dev) (n : Nat) (x : Link) : (d.setLink n x).routers = d.routers := rfl
@[simp] theorem setLink_bar (d : Dev) (n : Nat) (x : Link) : (d.setLink n x).bar = d.bar := rfl
@[simp] theorem setLink_ports (d : Dev) (n : Nat) (x : Link) : (d.setLink n x).ports = d.ports := rfl
@[simp] theorem setLink_colls (d : Dev) (n : Nat) (x : Link) : (d.setLink n x).colls = d.colls := rfl
@[simp] theorem setLink_noticed (d : Dev) (n : Nat) (x : Link) : (d.setLink n x).noticed = d.noticed := rfl
@[simp] theorem setLink_trigOuts (d : Dev) (n : Nat) (x : Link) : (d.setLink n x).trigOuts = d.trigOuts := rfl
@[simp] theorem setLink_lineLast (d : Dev) (n : Nat) (x : Link) : (d.setLink n x).lineLast = d.lineLast := rfl
@[simp] theorem setLink_sen (d : Dev) (n : Nat) (x : Link) : (d.setLink n x).sen = d.sen := rfl
@[simp] theorem setLink_pwr (d : Dev) (n : Nat) (x : Link) : (d.setLink n x).pwr = d.pwr := rfl
@[simp] theorem setLink_pins (d : Dev) (n : Nat) (x : Link) : (d.setLink n x).pins = d.pins := rfl
@[simp] theorem setLink_harts (d : Dev) (n : Nat) (x : Link) : (d.setLink n x).harts = d.harts := rfl
@[simp] theorem setLink_mp (d : Dev) (n : Nat) (x : Link) : (d.setLink n x).mp = d.mp := rfl
@[simp] theorem setLink_vci (d : Dev) (n : Nat) (x : Link) : (d.setLink n x).vci = d.vci := rfl
@[simp] theorem setLink_board (d : Dev) (n : Nat) (x : Link) : (d.setLink n x).board = d.board := rfl
@[simp] theorem setLink_conduits (d : Dev) (n : Nat) (x : Link) : (d.setLink n x).conduits = d.conduits := rfl
@[simp] theorem setLink_rings (d : Dev) (n : Nat) (x : Link) : (d.setLink n x).rings = d.rings := rfl
@[simp] theorem setLink_fuses (d : Dev) (n : Nat) (x : Link) : (d.setLink n x).fuses = d.fuses := rfl
@[simp] theorem setLink_sec (d : Dev) (n : Nat) (x : Link) : (d.setLink n x).sec = d.sec := rfl
@[simp] theorem setLink_laps (d : Dev) (n : Nat) (x : Link) : (d.setLink n x).laps = d.laps := rfl
@[simp] theorem setLink_pondTo (d : Dev) (n : Nat) (x : Link) : (d.setLink n x).pondTo = d.pondTo := rfl
@[simp] theorem setLink_lastRead (d : Dev) (n : Nat) (x : Link) : (d.setLink n x).lastRead = d.lastRead := rfl

/-! ### Dev.setStrm -/

@[simp] theorem setStrm_regs (d : Dev) (n : Nat) (x : Strm) : (d.setStrm n x).regs = d.regs := rfl
@[simp] theorem setStrm_mem (d : Dev) (n : Nat) (x : Strm) : (d.setStrm n x).mem = d.mem := rfl
@[simp] theorem setStrm_badMem (d : Dev) (n : Nat) (x : Strm) : (d.setStrm n x).badMem = d.badMem := rfl
@[simp] theorem setStrm_free (d : Dev) (n : Nat) (x : Strm) : (d.setStrm n x).free = d.free := rfl
@[simp] theorem setStrm_tb (d : Dev) (n : Nat) (x : Strm) : (d.setStrm n x).tb = d.tb := rfl
@[simp] theorem setStrm_links (d : Dev) (n : Nat) (x : Strm) : (d.setStrm n x).links = d.links := rfl
@[simp] theorem setStrm_flume (d : Dev) (n : Nat) (x : Strm) : (d.setStrm n x).flume = d.flume := rfl
@[simp] theorem setStrm_jn (d : Dev) (n : Nat) (x : Strm) : (d.setStrm n x).jn = d.jn := rfl
@[simp] theorem setStrm_ledger (d : Dev) (n : Nat) (x : Strm) : (d.setStrm n x).ledger = d.ledger := rfl
@[simp] theorem setStrm_errs (d : Dev) (n : Nat) (x : Strm) : (d.setStrm n x).errs = d.errs := rfl
@[simp] theorem setStrm_bme (d : Dev) (n : Nat) (x : Strm) : (d.setStrm n x).bme = d.bme := rfl
@[simp] theorem setStrm_fnMask (d : Dev) (n : Nat) (x : Strm) : (d.setStrm n x).fnMask = d.fnMask := rfl
@[simp] theorem setStrm_pcie (d : Dev) (n : Nat) (x : Strm) : (d.setStrm n x).pcie = d.pcie := rfl
@[simp] theorem setStrm_hostWait (d : Dev) (n : Nat) (x : Strm) : (d.setStrm n x).hostWait = d.hostWait := rfl
@[simp] theorem setStrm_cache (d : Dev) (n : Nat) (x : Strm) : (d.setStrm n x).cache = d.cache := rfl
@[simp] theorem setStrm_cacheAge (d : Dev) (n : Nat) (x : Strm) : (d.setStrm n x).cacheAge = d.cacheAge := rfl
@[simp] theorem setStrm_pondLast (d : Dev) (n : Nat) (x : Strm) : (d.setStrm n x).pondLast = d.pondLast := rfl
@[simp] theorem setStrm_pfHist (d : Dev) (n : Nat) (x : Strm) : (d.setStrm n x).pfHist = d.pfHist := rfl
@[simp] theorem setStrm_pfs (d : Dev) (n : Nat) (x : Strm) : (d.setStrm n x).pfs = d.pfs := rfl
@[simp] theorem setStrm_pfWait (d : Dev) (n : Nat) (x : Strm) : (d.setStrm n x).pfWait = d.pfWait := rfl
@[simp] theorem setStrm_ncs (d : Dev) (n : Nat) (x : Strm) : (d.setStrm n x).ncs = d.ncs := rfl
@[simp] theorem setStrm_routers (d : Dev) (n : Nat) (x : Strm) : (d.setStrm n x).routers = d.routers := rfl
@[simp] theorem setStrm_bar (d : Dev) (n : Nat) (x : Strm) : (d.setStrm n x).bar = d.bar := rfl
@[simp] theorem setStrm_ports (d : Dev) (n : Nat) (x : Strm) : (d.setStrm n x).ports = d.ports := rfl
@[simp] theorem setStrm_colls (d : Dev) (n : Nat) (x : Strm) : (d.setStrm n x).colls = d.colls := rfl
@[simp] theorem setStrm_noticed (d : Dev) (n : Nat) (x : Strm) : (d.setStrm n x).noticed = d.noticed := rfl
@[simp] theorem setStrm_trigOuts (d : Dev) (n : Nat) (x : Strm) : (d.setStrm n x).trigOuts = d.trigOuts := rfl
@[simp] theorem setStrm_lineLast (d : Dev) (n : Nat) (x : Strm) : (d.setStrm n x).lineLast = d.lineLast := rfl
@[simp] theorem setStrm_sen (d : Dev) (n : Nat) (x : Strm) : (d.setStrm n x).sen = d.sen := rfl
@[simp] theorem setStrm_pwr (d : Dev) (n : Nat) (x : Strm) : (d.setStrm n x).pwr = d.pwr := rfl
@[simp] theorem setStrm_pins (d : Dev) (n : Nat) (x : Strm) : (d.setStrm n x).pins = d.pins := rfl
@[simp] theorem setStrm_harts (d : Dev) (n : Nat) (x : Strm) : (d.setStrm n x).harts = d.harts := rfl
@[simp] theorem setStrm_mp (d : Dev) (n : Nat) (x : Strm) : (d.setStrm n x).mp = d.mp := rfl
@[simp] theorem setStrm_vci (d : Dev) (n : Nat) (x : Strm) : (d.setStrm n x).vci = d.vci := rfl
@[simp] theorem setStrm_board (d : Dev) (n : Nat) (x : Strm) : (d.setStrm n x).board = d.board := rfl
@[simp] theorem setStrm_conduits (d : Dev) (n : Nat) (x : Strm) : (d.setStrm n x).conduits = d.conduits := rfl
@[simp] theorem setStrm_rings (d : Dev) (n : Nat) (x : Strm) : (d.setStrm n x).rings = d.rings := rfl
@[simp] theorem setStrm_fuses (d : Dev) (n : Nat) (x : Strm) : (d.setStrm n x).fuses = d.fuses := rfl
@[simp] theorem setStrm_sec (d : Dev) (n : Nat) (x : Strm) : (d.setStrm n x).sec = d.sec := rfl
@[simp] theorem setStrm_laps (d : Dev) (n : Nat) (x : Strm) : (d.setStrm n x).laps = d.laps := rfl
@[simp] theorem setStrm_pondTo (d : Dev) (n : Nat) (x : Strm) : (d.setStrm n x).pondTo = d.pondTo := rfl
@[simp] theorem setStrm_lastRead (d : Dev) (n : Nat) (x : Strm) : (d.setStrm n x).lastRead = d.lastRead := rfl

/-! ### Dev.setJn -/

@[simp] theorem setJn_regs (d : Dev) (x : Junction) : (d.setJn x).regs = d.regs := rfl
@[simp] theorem setJn_mem (d : Dev) (x : Junction) : (d.setJn x).mem = d.mem := rfl
@[simp] theorem setJn_badMem (d : Dev) (x : Junction) : (d.setJn x).badMem = d.badMem := rfl
@[simp] theorem setJn_free (d : Dev) (x : Junction) : (d.setJn x).free = d.free := rfl
@[simp] theorem setJn_tb (d : Dev) (x : Junction) : (d.setJn x).tb = d.tb := rfl
@[simp] theorem setJn_links (d : Dev) (x : Junction) : (d.setJn x).links = d.links := rfl
@[simp] theorem setJn_strms (d : Dev) (x : Junction) : (d.setJn x).strms = d.strms := rfl
@[simp] theorem setJn_flume (d : Dev) (x : Junction) : (d.setJn x).flume = d.flume := rfl
@[simp] theorem setJn_ledger (d : Dev) (x : Junction) : (d.setJn x).ledger = d.ledger := rfl
@[simp] theorem setJn_errs (d : Dev) (x : Junction) : (d.setJn x).errs = d.errs := rfl
@[simp] theorem setJn_bme (d : Dev) (x : Junction) : (d.setJn x).bme = d.bme := rfl
@[simp] theorem setJn_fnMask (d : Dev) (x : Junction) : (d.setJn x).fnMask = d.fnMask := rfl
@[simp] theorem setJn_pcie (d : Dev) (x : Junction) : (d.setJn x).pcie = d.pcie := rfl
@[simp] theorem setJn_hostWait (d : Dev) (x : Junction) : (d.setJn x).hostWait = d.hostWait := rfl
@[simp] theorem setJn_cache (d : Dev) (x : Junction) : (d.setJn x).cache = d.cache := rfl
@[simp] theorem setJn_cacheAge (d : Dev) (x : Junction) : (d.setJn x).cacheAge = d.cacheAge := rfl
@[simp] theorem setJn_pondLast (d : Dev) (x : Junction) : (d.setJn x).pondLast = d.pondLast := rfl
@[simp] theorem setJn_pfHist (d : Dev) (x : Junction) : (d.setJn x).pfHist = d.pfHist := rfl
@[simp] theorem setJn_pfs (d : Dev) (x : Junction) : (d.setJn x).pfs = d.pfs := rfl
@[simp] theorem setJn_pfWait (d : Dev) (x : Junction) : (d.setJn x).pfWait = d.pfWait := rfl
@[simp] theorem setJn_ncs (d : Dev) (x : Junction) : (d.setJn x).ncs = d.ncs := rfl
@[simp] theorem setJn_routers (d : Dev) (x : Junction) : (d.setJn x).routers = d.routers := rfl
@[simp] theorem setJn_bar (d : Dev) (x : Junction) : (d.setJn x).bar = d.bar := rfl
@[simp] theorem setJn_ports (d : Dev) (x : Junction) : (d.setJn x).ports = d.ports := rfl
@[simp] theorem setJn_colls (d : Dev) (x : Junction) : (d.setJn x).colls = d.colls := rfl
@[simp] theorem setJn_noticed (d : Dev) (x : Junction) : (d.setJn x).noticed = d.noticed := rfl
@[simp] theorem setJn_trigOuts (d : Dev) (x : Junction) : (d.setJn x).trigOuts = d.trigOuts := rfl
@[simp] theorem setJn_lineLast (d : Dev) (x : Junction) : (d.setJn x).lineLast = d.lineLast := rfl
@[simp] theorem setJn_sen (d : Dev) (x : Junction) : (d.setJn x).sen = d.sen := rfl
@[simp] theorem setJn_pwr (d : Dev) (x : Junction) : (d.setJn x).pwr = d.pwr := rfl
@[simp] theorem setJn_pins (d : Dev) (x : Junction) : (d.setJn x).pins = d.pins := rfl
@[simp] theorem setJn_harts (d : Dev) (x : Junction) : (d.setJn x).harts = d.harts := rfl
@[simp] theorem setJn_mp (d : Dev) (x : Junction) : (d.setJn x).mp = d.mp := rfl
@[simp] theorem setJn_vci (d : Dev) (x : Junction) : (d.setJn x).vci = d.vci := rfl
@[simp] theorem setJn_board (d : Dev) (x : Junction) : (d.setJn x).board = d.board := rfl
@[simp] theorem setJn_conduits (d : Dev) (x : Junction) : (d.setJn x).conduits = d.conduits := rfl
@[simp] theorem setJn_rings (d : Dev) (x : Junction) : (d.setJn x).rings = d.rings := rfl
@[simp] theorem setJn_fuses (d : Dev) (x : Junction) : (d.setJn x).fuses = d.fuses := rfl
@[simp] theorem setJn_sec (d : Dev) (x : Junction) : (d.setJn x).sec = d.sec := rfl
@[simp] theorem setJn_laps (d : Dev) (x : Junction) : (d.setJn x).laps = d.laps := rfl
@[simp] theorem setJn_pondTo (d : Dev) (x : Junction) : (d.setJn x).pondTo = d.pondTo := rfl
@[simp] theorem setJn_lastRead (d : Dev) (x : Junction) : (d.setJn x).lastRead = d.lastRead := rfl

/-! ### Dev.setColl -/

@[simp] theorem setColl_regs (d : Dev) (n : Nat) (x : Coll) : (d.setColl n x).regs = d.regs := rfl
@[simp] theorem setColl_mem (d : Dev) (n : Nat) (x : Coll) : (d.setColl n x).mem = d.mem := rfl
@[simp] theorem setColl_badMem (d : Dev) (n : Nat) (x : Coll) : (d.setColl n x).badMem = d.badMem := rfl
@[simp] theorem setColl_free (d : Dev) (n : Nat) (x : Coll) : (d.setColl n x).free = d.free := rfl
@[simp] theorem setColl_tb (d : Dev) (n : Nat) (x : Coll) : (d.setColl n x).tb = d.tb := rfl
@[simp] theorem setColl_links (d : Dev) (n : Nat) (x : Coll) : (d.setColl n x).links = d.links := rfl
@[simp] theorem setColl_strms (d : Dev) (n : Nat) (x : Coll) : (d.setColl n x).strms = d.strms := rfl
@[simp] theorem setColl_flume (d : Dev) (n : Nat) (x : Coll) : (d.setColl n x).flume = d.flume := rfl
@[simp] theorem setColl_jn (d : Dev) (n : Nat) (x : Coll) : (d.setColl n x).jn = d.jn := rfl
@[simp] theorem setColl_ledger (d : Dev) (n : Nat) (x : Coll) : (d.setColl n x).ledger = d.ledger := rfl
@[simp] theorem setColl_errs (d : Dev) (n : Nat) (x : Coll) : (d.setColl n x).errs = d.errs := rfl
@[simp] theorem setColl_bme (d : Dev) (n : Nat) (x : Coll) : (d.setColl n x).bme = d.bme := rfl
@[simp] theorem setColl_fnMask (d : Dev) (n : Nat) (x : Coll) : (d.setColl n x).fnMask = d.fnMask := rfl
@[simp] theorem setColl_pcie (d : Dev) (n : Nat) (x : Coll) : (d.setColl n x).pcie = d.pcie := rfl
@[simp] theorem setColl_hostWait (d : Dev) (n : Nat) (x : Coll) : (d.setColl n x).hostWait = d.hostWait := rfl
@[simp] theorem setColl_cache (d : Dev) (n : Nat) (x : Coll) : (d.setColl n x).cache = d.cache := rfl
@[simp] theorem setColl_cacheAge (d : Dev) (n : Nat) (x : Coll) : (d.setColl n x).cacheAge = d.cacheAge := rfl
@[simp] theorem setColl_pondLast (d : Dev) (n : Nat) (x : Coll) : (d.setColl n x).pondLast = d.pondLast := rfl
@[simp] theorem setColl_pfHist (d : Dev) (n : Nat) (x : Coll) : (d.setColl n x).pfHist = d.pfHist := rfl
@[simp] theorem setColl_pfs (d : Dev) (n : Nat) (x : Coll) : (d.setColl n x).pfs = d.pfs := rfl
@[simp] theorem setColl_pfWait (d : Dev) (n : Nat) (x : Coll) : (d.setColl n x).pfWait = d.pfWait := rfl
@[simp] theorem setColl_ncs (d : Dev) (n : Nat) (x : Coll) : (d.setColl n x).ncs = d.ncs := rfl
@[simp] theorem setColl_routers (d : Dev) (n : Nat) (x : Coll) : (d.setColl n x).routers = d.routers := rfl
@[simp] theorem setColl_bar (d : Dev) (n : Nat) (x : Coll) : (d.setColl n x).bar = d.bar := rfl
@[simp] theorem setColl_ports (d : Dev) (n : Nat) (x : Coll) : (d.setColl n x).ports = d.ports := rfl
@[simp] theorem setColl_noticed (d : Dev) (n : Nat) (x : Coll) : (d.setColl n x).noticed = d.noticed := rfl
@[simp] theorem setColl_trigOuts (d : Dev) (n : Nat) (x : Coll) : (d.setColl n x).trigOuts = d.trigOuts := rfl
@[simp] theorem setColl_lineLast (d : Dev) (n : Nat) (x : Coll) : (d.setColl n x).lineLast = d.lineLast := rfl
@[simp] theorem setColl_sen (d : Dev) (n : Nat) (x : Coll) : (d.setColl n x).sen = d.sen := rfl
@[simp] theorem setColl_pwr (d : Dev) (n : Nat) (x : Coll) : (d.setColl n x).pwr = d.pwr := rfl
@[simp] theorem setColl_pins (d : Dev) (n : Nat) (x : Coll) : (d.setColl n x).pins = d.pins := rfl
@[simp] theorem setColl_harts (d : Dev) (n : Nat) (x : Coll) : (d.setColl n x).harts = d.harts := rfl
@[simp] theorem setColl_mp (d : Dev) (n : Nat) (x : Coll) : (d.setColl n x).mp = d.mp := rfl
@[simp] theorem setColl_vci (d : Dev) (n : Nat) (x : Coll) : (d.setColl n x).vci = d.vci := rfl
@[simp] theorem setColl_board (d : Dev) (n : Nat) (x : Coll) : (d.setColl n x).board = d.board := rfl
@[simp] theorem setColl_conduits (d : Dev) (n : Nat) (x : Coll) : (d.setColl n x).conduits = d.conduits := rfl
@[simp] theorem setColl_rings (d : Dev) (n : Nat) (x : Coll) : (d.setColl n x).rings = d.rings := rfl
@[simp] theorem setColl_fuses (d : Dev) (n : Nat) (x : Coll) : (d.setColl n x).fuses = d.fuses := rfl
@[simp] theorem setColl_sec (d : Dev) (n : Nat) (x : Coll) : (d.setColl n x).sec = d.sec := rfl
@[simp] theorem setColl_laps (d : Dev) (n : Nat) (x : Coll) : (d.setColl n x).laps = d.laps := rfl
@[simp] theorem setColl_pondTo (d : Dev) (n : Nat) (x : Coll) : (d.setColl n x).pondTo = d.pondTo := rfl
@[simp] theorem setColl_lastRead (d : Dev) (n : Nat) (x : Coll) : (d.setColl n x).lastRead = d.lastRead := rfl

/-! ### Dev.setPort -/

@[simp] theorem setPort_regs (d : Dev) (n : Nat) (x : Port) : (d.setPort n x).regs = d.regs := rfl
@[simp] theorem setPort_mem (d : Dev) (n : Nat) (x : Port) : (d.setPort n x).mem = d.mem := rfl
@[simp] theorem setPort_badMem (d : Dev) (n : Nat) (x : Port) : (d.setPort n x).badMem = d.badMem := rfl
@[simp] theorem setPort_free (d : Dev) (n : Nat) (x : Port) : (d.setPort n x).free = d.free := rfl
@[simp] theorem setPort_tb (d : Dev) (n : Nat) (x : Port) : (d.setPort n x).tb = d.tb := rfl
@[simp] theorem setPort_links (d : Dev) (n : Nat) (x : Port) : (d.setPort n x).links = d.links := rfl
@[simp] theorem setPort_strms (d : Dev) (n : Nat) (x : Port) : (d.setPort n x).strms = d.strms := rfl
@[simp] theorem setPort_flume (d : Dev) (n : Nat) (x : Port) : (d.setPort n x).flume = d.flume := rfl
@[simp] theorem setPort_jn (d : Dev) (n : Nat) (x : Port) : (d.setPort n x).jn = d.jn := rfl
@[simp] theorem setPort_ledger (d : Dev) (n : Nat) (x : Port) : (d.setPort n x).ledger = d.ledger := rfl
@[simp] theorem setPort_errs (d : Dev) (n : Nat) (x : Port) : (d.setPort n x).errs = d.errs := rfl
@[simp] theorem setPort_bme (d : Dev) (n : Nat) (x : Port) : (d.setPort n x).bme = d.bme := rfl
@[simp] theorem setPort_fnMask (d : Dev) (n : Nat) (x : Port) : (d.setPort n x).fnMask = d.fnMask := rfl
@[simp] theorem setPort_pcie (d : Dev) (n : Nat) (x : Port) : (d.setPort n x).pcie = d.pcie := rfl
@[simp] theorem setPort_hostWait (d : Dev) (n : Nat) (x : Port) : (d.setPort n x).hostWait = d.hostWait := rfl
@[simp] theorem setPort_cache (d : Dev) (n : Nat) (x : Port) : (d.setPort n x).cache = d.cache := rfl
@[simp] theorem setPort_cacheAge (d : Dev) (n : Nat) (x : Port) : (d.setPort n x).cacheAge = d.cacheAge := rfl
@[simp] theorem setPort_pondLast (d : Dev) (n : Nat) (x : Port) : (d.setPort n x).pondLast = d.pondLast := rfl
@[simp] theorem setPort_pfHist (d : Dev) (n : Nat) (x : Port) : (d.setPort n x).pfHist = d.pfHist := rfl
@[simp] theorem setPort_pfs (d : Dev) (n : Nat) (x : Port) : (d.setPort n x).pfs = d.pfs := rfl
@[simp] theorem setPort_pfWait (d : Dev) (n : Nat) (x : Port) : (d.setPort n x).pfWait = d.pfWait := rfl
@[simp] theorem setPort_ncs (d : Dev) (n : Nat) (x : Port) : (d.setPort n x).ncs = d.ncs := rfl
@[simp] theorem setPort_routers (d : Dev) (n : Nat) (x : Port) : (d.setPort n x).routers = d.routers := rfl
@[simp] theorem setPort_bar (d : Dev) (n : Nat) (x : Port) : (d.setPort n x).bar = d.bar := rfl
@[simp] theorem setPort_colls (d : Dev) (n : Nat) (x : Port) : (d.setPort n x).colls = d.colls := rfl
@[simp] theorem setPort_noticed (d : Dev) (n : Nat) (x : Port) : (d.setPort n x).noticed = d.noticed := rfl
@[simp] theorem setPort_trigOuts (d : Dev) (n : Nat) (x : Port) : (d.setPort n x).trigOuts = d.trigOuts := rfl
@[simp] theorem setPort_lineLast (d : Dev) (n : Nat) (x : Port) : (d.setPort n x).lineLast = d.lineLast := rfl
@[simp] theorem setPort_sen (d : Dev) (n : Nat) (x : Port) : (d.setPort n x).sen = d.sen := rfl
@[simp] theorem setPort_pwr (d : Dev) (n : Nat) (x : Port) : (d.setPort n x).pwr = d.pwr := rfl
@[simp] theorem setPort_pins (d : Dev) (n : Nat) (x : Port) : (d.setPort n x).pins = d.pins := rfl
@[simp] theorem setPort_harts (d : Dev) (n : Nat) (x : Port) : (d.setPort n x).harts = d.harts := rfl
@[simp] theorem setPort_mp (d : Dev) (n : Nat) (x : Port) : (d.setPort n x).mp = d.mp := rfl
@[simp] theorem setPort_vci (d : Dev) (n : Nat) (x : Port) : (d.setPort n x).vci = d.vci := rfl
@[simp] theorem setPort_board (d : Dev) (n : Nat) (x : Port) : (d.setPort n x).board = d.board := rfl
@[simp] theorem setPort_conduits (d : Dev) (n : Nat) (x : Port) : (d.setPort n x).conduits = d.conduits := rfl
@[simp] theorem setPort_rings (d : Dev) (n : Nat) (x : Port) : (d.setPort n x).rings = d.rings := rfl
@[simp] theorem setPort_fuses (d : Dev) (n : Nat) (x : Port) : (d.setPort n x).fuses = d.fuses := rfl
@[simp] theorem setPort_sec (d : Dev) (n : Nat) (x : Port) : (d.setPort n x).sec = d.sec := rfl
@[simp] theorem setPort_laps (d : Dev) (n : Nat) (x : Port) : (d.setPort n x).laps = d.laps := rfl
@[simp] theorem setPort_pondTo (d : Dev) (n : Nat) (x : Port) : (d.setPort n x).pondTo = d.pondTo := rfl
@[simp] theorem setPort_lastRead (d : Dev) (n : Nat) (x : Port) : (d.setPort n x).lastRead = d.lastRead := rfl

/-! ### Dev.setNc -/

@[simp] theorem setNc_regs (d : Dev) (n : Nat) (x : Nc) : (d.setNc n x).regs = d.regs := rfl
@[simp] theorem setNc_mem (d : Dev) (n : Nat) (x : Nc) : (d.setNc n x).mem = d.mem := rfl
@[simp] theorem setNc_badMem (d : Dev) (n : Nat) (x : Nc) : (d.setNc n x).badMem = d.badMem := rfl
@[simp] theorem setNc_free (d : Dev) (n : Nat) (x : Nc) : (d.setNc n x).free = d.free := rfl
@[simp] theorem setNc_tb (d : Dev) (n : Nat) (x : Nc) : (d.setNc n x).tb = d.tb := rfl
@[simp] theorem setNc_links (d : Dev) (n : Nat) (x : Nc) : (d.setNc n x).links = d.links := rfl
@[simp] theorem setNc_strms (d : Dev) (n : Nat) (x : Nc) : (d.setNc n x).strms = d.strms := rfl
@[simp] theorem setNc_flume (d : Dev) (n : Nat) (x : Nc) : (d.setNc n x).flume = d.flume := rfl
@[simp] theorem setNc_jn (d : Dev) (n : Nat) (x : Nc) : (d.setNc n x).jn = d.jn := rfl
@[simp] theorem setNc_ledger (d : Dev) (n : Nat) (x : Nc) : (d.setNc n x).ledger = d.ledger := rfl
@[simp] theorem setNc_errs (d : Dev) (n : Nat) (x : Nc) : (d.setNc n x).errs = d.errs := rfl
@[simp] theorem setNc_bme (d : Dev) (n : Nat) (x : Nc) : (d.setNc n x).bme = d.bme := rfl
@[simp] theorem setNc_fnMask (d : Dev) (n : Nat) (x : Nc) : (d.setNc n x).fnMask = d.fnMask := rfl
@[simp] theorem setNc_pcie (d : Dev) (n : Nat) (x : Nc) : (d.setNc n x).pcie = d.pcie := rfl
@[simp] theorem setNc_hostWait (d : Dev) (n : Nat) (x : Nc) : (d.setNc n x).hostWait = d.hostWait := rfl
@[simp] theorem setNc_cache (d : Dev) (n : Nat) (x : Nc) : (d.setNc n x).cache = d.cache := rfl
@[simp] theorem setNc_cacheAge (d : Dev) (n : Nat) (x : Nc) : (d.setNc n x).cacheAge = d.cacheAge := rfl
@[simp] theorem setNc_pondLast (d : Dev) (n : Nat) (x : Nc) : (d.setNc n x).pondLast = d.pondLast := rfl
@[simp] theorem setNc_pfHist (d : Dev) (n : Nat) (x : Nc) : (d.setNc n x).pfHist = d.pfHist := rfl
@[simp] theorem setNc_pfs (d : Dev) (n : Nat) (x : Nc) : (d.setNc n x).pfs = d.pfs := rfl
@[simp] theorem setNc_pfWait (d : Dev) (n : Nat) (x : Nc) : (d.setNc n x).pfWait = d.pfWait := rfl
@[simp] theorem setNc_routers (d : Dev) (n : Nat) (x : Nc) : (d.setNc n x).routers = d.routers := rfl
@[simp] theorem setNc_bar (d : Dev) (n : Nat) (x : Nc) : (d.setNc n x).bar = d.bar := rfl
@[simp] theorem setNc_ports (d : Dev) (n : Nat) (x : Nc) : (d.setNc n x).ports = d.ports := rfl
@[simp] theorem setNc_colls (d : Dev) (n : Nat) (x : Nc) : (d.setNc n x).colls = d.colls := rfl
@[simp] theorem setNc_noticed (d : Dev) (n : Nat) (x : Nc) : (d.setNc n x).noticed = d.noticed := rfl
@[simp] theorem setNc_trigOuts (d : Dev) (n : Nat) (x : Nc) : (d.setNc n x).trigOuts = d.trigOuts := rfl
@[simp] theorem setNc_lineLast (d : Dev) (n : Nat) (x : Nc) : (d.setNc n x).lineLast = d.lineLast := rfl
@[simp] theorem setNc_sen (d : Dev) (n : Nat) (x : Nc) : (d.setNc n x).sen = d.sen := rfl
@[simp] theorem setNc_pwr (d : Dev) (n : Nat) (x : Nc) : (d.setNc n x).pwr = d.pwr := rfl
@[simp] theorem setNc_pins (d : Dev) (n : Nat) (x : Nc) : (d.setNc n x).pins = d.pins := rfl
@[simp] theorem setNc_harts (d : Dev) (n : Nat) (x : Nc) : (d.setNc n x).harts = d.harts := rfl
@[simp] theorem setNc_mp (d : Dev) (n : Nat) (x : Nc) : (d.setNc n x).mp = d.mp := rfl
@[simp] theorem setNc_vci (d : Dev) (n : Nat) (x : Nc) : (d.setNc n x).vci = d.vci := rfl
@[simp] theorem setNc_board (d : Dev) (n : Nat) (x : Nc) : (d.setNc n x).board = d.board := rfl
@[simp] theorem setNc_conduits (d : Dev) (n : Nat) (x : Nc) : (d.setNc n x).conduits = d.conduits := rfl
@[simp] theorem setNc_rings (d : Dev) (n : Nat) (x : Nc) : (d.setNc n x).rings = d.rings := rfl
@[simp] theorem setNc_fuses (d : Dev) (n : Nat) (x : Nc) : (d.setNc n x).fuses = d.fuses := rfl
@[simp] theorem setNc_sec (d : Dev) (n : Nat) (x : Nc) : (d.setNc n x).sec = d.sec := rfl
@[simp] theorem setNc_laps (d : Dev) (n : Nat) (x : Nc) : (d.setNc n x).laps = d.laps := rfl
@[simp] theorem setNc_pondTo (d : Dev) (n : Nat) (x : Nc) : (d.setNc n x).pondTo = d.pondTo := rfl
@[simp] theorem setNc_lastRead (d : Dev) (n : Nat) (x : Nc) : (d.setNc n x).lastRead = d.lastRead := rfl

/-! ### Dev.setRouter -/

@[simp] theorem setRouter_regs (d : Dev) (n : Nat) (x : Router) : (d.setRouter n x).regs = d.regs := rfl
@[simp] theorem setRouter_mem (d : Dev) (n : Nat) (x : Router) : (d.setRouter n x).mem = d.mem := rfl
@[simp] theorem setRouter_badMem (d : Dev) (n : Nat) (x : Router) : (d.setRouter n x).badMem = d.badMem := rfl
@[simp] theorem setRouter_free (d : Dev) (n : Nat) (x : Router) : (d.setRouter n x).free = d.free := rfl
@[simp] theorem setRouter_tb (d : Dev) (n : Nat) (x : Router) : (d.setRouter n x).tb = d.tb := rfl
@[simp] theorem setRouter_links (d : Dev) (n : Nat) (x : Router) : (d.setRouter n x).links = d.links := rfl
@[simp] theorem setRouter_strms (d : Dev) (n : Nat) (x : Router) : (d.setRouter n x).strms = d.strms := rfl
@[simp] theorem setRouter_flume (d : Dev) (n : Nat) (x : Router) : (d.setRouter n x).flume = d.flume := rfl
@[simp] theorem setRouter_jn (d : Dev) (n : Nat) (x : Router) : (d.setRouter n x).jn = d.jn := rfl
@[simp] theorem setRouter_ledger (d : Dev) (n : Nat) (x : Router) : (d.setRouter n x).ledger = d.ledger := rfl
@[simp] theorem setRouter_errs (d : Dev) (n : Nat) (x : Router) : (d.setRouter n x).errs = d.errs := rfl
@[simp] theorem setRouter_bme (d : Dev) (n : Nat) (x : Router) : (d.setRouter n x).bme = d.bme := rfl
@[simp] theorem setRouter_fnMask (d : Dev) (n : Nat) (x : Router) : (d.setRouter n x).fnMask = d.fnMask := rfl
@[simp] theorem setRouter_pcie (d : Dev) (n : Nat) (x : Router) : (d.setRouter n x).pcie = d.pcie := rfl
@[simp] theorem setRouter_hostWait (d : Dev) (n : Nat) (x : Router) : (d.setRouter n x).hostWait = d.hostWait := rfl
@[simp] theorem setRouter_cache (d : Dev) (n : Nat) (x : Router) : (d.setRouter n x).cache = d.cache := rfl
@[simp] theorem setRouter_cacheAge (d : Dev) (n : Nat) (x : Router) : (d.setRouter n x).cacheAge = d.cacheAge := rfl
@[simp] theorem setRouter_pondLast (d : Dev) (n : Nat) (x : Router) : (d.setRouter n x).pondLast = d.pondLast := rfl
@[simp] theorem setRouter_pfHist (d : Dev) (n : Nat) (x : Router) : (d.setRouter n x).pfHist = d.pfHist := rfl
@[simp] theorem setRouter_pfs (d : Dev) (n : Nat) (x : Router) : (d.setRouter n x).pfs = d.pfs := rfl
@[simp] theorem setRouter_pfWait (d : Dev) (n : Nat) (x : Router) : (d.setRouter n x).pfWait = d.pfWait := rfl
@[simp] theorem setRouter_ncs (d : Dev) (n : Nat) (x : Router) : (d.setRouter n x).ncs = d.ncs := rfl
@[simp] theorem setRouter_bar (d : Dev) (n : Nat) (x : Router) : (d.setRouter n x).bar = d.bar := rfl
@[simp] theorem setRouter_ports (d : Dev) (n : Nat) (x : Router) : (d.setRouter n x).ports = d.ports := rfl
@[simp] theorem setRouter_colls (d : Dev) (n : Nat) (x : Router) : (d.setRouter n x).colls = d.colls := rfl
@[simp] theorem setRouter_noticed (d : Dev) (n : Nat) (x : Router) : (d.setRouter n x).noticed = d.noticed := rfl
@[simp] theorem setRouter_trigOuts (d : Dev) (n : Nat) (x : Router) : (d.setRouter n x).trigOuts = d.trigOuts := rfl
@[simp] theorem setRouter_lineLast (d : Dev) (n : Nat) (x : Router) : (d.setRouter n x).lineLast = d.lineLast := rfl
@[simp] theorem setRouter_sen (d : Dev) (n : Nat) (x : Router) : (d.setRouter n x).sen = d.sen := rfl
@[simp] theorem setRouter_pwr (d : Dev) (n : Nat) (x : Router) : (d.setRouter n x).pwr = d.pwr := rfl
@[simp] theorem setRouter_pins (d : Dev) (n : Nat) (x : Router) : (d.setRouter n x).pins = d.pins := rfl
@[simp] theorem setRouter_harts (d : Dev) (n : Nat) (x : Router) : (d.setRouter n x).harts = d.harts := rfl
@[simp] theorem setRouter_mp (d : Dev) (n : Nat) (x : Router) : (d.setRouter n x).mp = d.mp := rfl
@[simp] theorem setRouter_vci (d : Dev) (n : Nat) (x : Router) : (d.setRouter n x).vci = d.vci := rfl
@[simp] theorem setRouter_board (d : Dev) (n : Nat) (x : Router) : (d.setRouter n x).board = d.board := rfl
@[simp] theorem setRouter_conduits (d : Dev) (n : Nat) (x : Router) : (d.setRouter n x).conduits = d.conduits := rfl
@[simp] theorem setRouter_rings (d : Dev) (n : Nat) (x : Router) : (d.setRouter n x).rings = d.rings := rfl
@[simp] theorem setRouter_fuses (d : Dev) (n : Nat) (x : Router) : (d.setRouter n x).fuses = d.fuses := rfl
@[simp] theorem setRouter_sec (d : Dev) (n : Nat) (x : Router) : (d.setRouter n x).sec = d.sec := rfl
@[simp] theorem setRouter_laps (d : Dev) (n : Nat) (x : Router) : (d.setRouter n x).laps = d.laps := rfl
@[simp] theorem setRouter_pondTo (d : Dev) (n : Nat) (x : Router) : (d.setRouter n x).pondTo = d.pondTo := rfl
@[simp] theorem setRouter_lastRead (d : Dev) (n : Nat) (x : Router) : (d.setRouter n x).lastRead = d.lastRead := rfl

/-! ### Dev.setRing -/

@[simp] theorem setRing_regs (d : Dev) (n : Nat) (x : Ring) : (d.setRing n x).regs = d.regs := rfl
@[simp] theorem setRing_mem (d : Dev) (n : Nat) (x : Ring) : (d.setRing n x).mem = d.mem := rfl
@[simp] theorem setRing_badMem (d : Dev) (n : Nat) (x : Ring) : (d.setRing n x).badMem = d.badMem := rfl
@[simp] theorem setRing_free (d : Dev) (n : Nat) (x : Ring) : (d.setRing n x).free = d.free := rfl
@[simp] theorem setRing_tb (d : Dev) (n : Nat) (x : Ring) : (d.setRing n x).tb = d.tb := rfl
@[simp] theorem setRing_links (d : Dev) (n : Nat) (x : Ring) : (d.setRing n x).links = d.links := rfl
@[simp] theorem setRing_strms (d : Dev) (n : Nat) (x : Ring) : (d.setRing n x).strms = d.strms := rfl
@[simp] theorem setRing_flume (d : Dev) (n : Nat) (x : Ring) : (d.setRing n x).flume = d.flume := rfl
@[simp] theorem setRing_jn (d : Dev) (n : Nat) (x : Ring) : (d.setRing n x).jn = d.jn := rfl
@[simp] theorem setRing_ledger (d : Dev) (n : Nat) (x : Ring) : (d.setRing n x).ledger = d.ledger := rfl
@[simp] theorem setRing_errs (d : Dev) (n : Nat) (x : Ring) : (d.setRing n x).errs = d.errs := rfl
@[simp] theorem setRing_bme (d : Dev) (n : Nat) (x : Ring) : (d.setRing n x).bme = d.bme := rfl
@[simp] theorem setRing_fnMask (d : Dev) (n : Nat) (x : Ring) : (d.setRing n x).fnMask = d.fnMask := rfl
@[simp] theorem setRing_pcie (d : Dev) (n : Nat) (x : Ring) : (d.setRing n x).pcie = d.pcie := rfl
@[simp] theorem setRing_hostWait (d : Dev) (n : Nat) (x : Ring) : (d.setRing n x).hostWait = d.hostWait := rfl
@[simp] theorem setRing_cache (d : Dev) (n : Nat) (x : Ring) : (d.setRing n x).cache = d.cache := rfl
@[simp] theorem setRing_cacheAge (d : Dev) (n : Nat) (x : Ring) : (d.setRing n x).cacheAge = d.cacheAge := rfl
@[simp] theorem setRing_pondLast (d : Dev) (n : Nat) (x : Ring) : (d.setRing n x).pondLast = d.pondLast := rfl
@[simp] theorem setRing_pfHist (d : Dev) (n : Nat) (x : Ring) : (d.setRing n x).pfHist = d.pfHist := rfl
@[simp] theorem setRing_pfs (d : Dev) (n : Nat) (x : Ring) : (d.setRing n x).pfs = d.pfs := rfl
@[simp] theorem setRing_pfWait (d : Dev) (n : Nat) (x : Ring) : (d.setRing n x).pfWait = d.pfWait := rfl
@[simp] theorem setRing_ncs (d : Dev) (n : Nat) (x : Ring) : (d.setRing n x).ncs = d.ncs := rfl
@[simp] theorem setRing_routers (d : Dev) (n : Nat) (x : Ring) : (d.setRing n x).routers = d.routers := rfl
@[simp] theorem setRing_bar (d : Dev) (n : Nat) (x : Ring) : (d.setRing n x).bar = d.bar := rfl
@[simp] theorem setRing_ports (d : Dev) (n : Nat) (x : Ring) : (d.setRing n x).ports = d.ports := rfl
@[simp] theorem setRing_colls (d : Dev) (n : Nat) (x : Ring) : (d.setRing n x).colls = d.colls := rfl
@[simp] theorem setRing_noticed (d : Dev) (n : Nat) (x : Ring) : (d.setRing n x).noticed = d.noticed := rfl
@[simp] theorem setRing_trigOuts (d : Dev) (n : Nat) (x : Ring) : (d.setRing n x).trigOuts = d.trigOuts := rfl
@[simp] theorem setRing_lineLast (d : Dev) (n : Nat) (x : Ring) : (d.setRing n x).lineLast = d.lineLast := rfl
@[simp] theorem setRing_sen (d : Dev) (n : Nat) (x : Ring) : (d.setRing n x).sen = d.sen := rfl
@[simp] theorem setRing_pwr (d : Dev) (n : Nat) (x : Ring) : (d.setRing n x).pwr = d.pwr := rfl
@[simp] theorem setRing_pins (d : Dev) (n : Nat) (x : Ring) : (d.setRing n x).pins = d.pins := rfl
@[simp] theorem setRing_harts (d : Dev) (n : Nat) (x : Ring) : (d.setRing n x).harts = d.harts := rfl
@[simp] theorem setRing_mp (d : Dev) (n : Nat) (x : Ring) : (d.setRing n x).mp = d.mp := rfl
@[simp] theorem setRing_vci (d : Dev) (n : Nat) (x : Ring) : (d.setRing n x).vci = d.vci := rfl
@[simp] theorem setRing_board (d : Dev) (n : Nat) (x : Ring) : (d.setRing n x).board = d.board := rfl
@[simp] theorem setRing_conduits (d : Dev) (n : Nat) (x : Ring) : (d.setRing n x).conduits = d.conduits := rfl
@[simp] theorem setRing_fuses (d : Dev) (n : Nat) (x : Ring) : (d.setRing n x).fuses = d.fuses := rfl
@[simp] theorem setRing_sec (d : Dev) (n : Nat) (x : Ring) : (d.setRing n x).sec = d.sec := rfl
@[simp] theorem setRing_laps (d : Dev) (n : Nat) (x : Ring) : (d.setRing n x).laps = d.laps := rfl
@[simp] theorem setRing_pondTo (d : Dev) (n : Nat) (x : Ring) : (d.setRing n x).pondTo = d.pondTo := rfl
@[simp] theorem setRing_lastRead (d : Dev) (n : Nat) (x : Ring) : (d.setRing n x).lastRead = d.lastRead := rfl

/-! ### Dev.setConduit -/

@[simp] theorem setConduit_mem (d : Dev) (n : Nat) (x : Conduit) : (d.setConduit n x).mem = d.mem := rfl
@[simp] theorem setConduit_badMem (d : Dev) (n : Nat) (x : Conduit) : (d.setConduit n x).badMem = d.badMem := rfl
@[simp] theorem setConduit_free (d : Dev) (n : Nat) (x : Conduit) : (d.setConduit n x).free = d.free := rfl
@[simp] theorem setConduit_tb (d : Dev) (n : Nat) (x : Conduit) : (d.setConduit n x).tb = d.tb := rfl
@[simp] theorem setConduit_links (d : Dev) (n : Nat) (x : Conduit) : (d.setConduit n x).links = d.links := rfl
@[simp] theorem setConduit_strms (d : Dev) (n : Nat) (x : Conduit) : (d.setConduit n x).strms = d.strms := rfl
@[simp] theorem setConduit_flume (d : Dev) (n : Nat) (x : Conduit) : (d.setConduit n x).flume = d.flume := rfl
@[simp] theorem setConduit_jn (d : Dev) (n : Nat) (x : Conduit) : (d.setConduit n x).jn = d.jn := rfl
@[simp] theorem setConduit_ledger (d : Dev) (n : Nat) (x : Conduit) : (d.setConduit n x).ledger = d.ledger := rfl
@[simp] theorem setConduit_errs (d : Dev) (n : Nat) (x : Conduit) : (d.setConduit n x).errs = d.errs := rfl
@[simp] theorem setConduit_bme (d : Dev) (n : Nat) (x : Conduit) : (d.setConduit n x).bme = d.bme := rfl
@[simp] theorem setConduit_fnMask (d : Dev) (n : Nat) (x : Conduit) : (d.setConduit n x).fnMask = d.fnMask := rfl
@[simp] theorem setConduit_pcie (d : Dev) (n : Nat) (x : Conduit) : (d.setConduit n x).pcie = d.pcie := rfl
@[simp] theorem setConduit_hostWait (d : Dev) (n : Nat) (x : Conduit) : (d.setConduit n x).hostWait = d.hostWait := rfl
@[simp] theorem setConduit_cache (d : Dev) (n : Nat) (x : Conduit) : (d.setConduit n x).cache = d.cache := rfl
@[simp] theorem setConduit_cacheAge (d : Dev) (n : Nat) (x : Conduit) : (d.setConduit n x).cacheAge = d.cacheAge := rfl
@[simp] theorem setConduit_pondLast (d : Dev) (n : Nat) (x : Conduit) : (d.setConduit n x).pondLast = d.pondLast := rfl
@[simp] theorem setConduit_pfHist (d : Dev) (n : Nat) (x : Conduit) : (d.setConduit n x).pfHist = d.pfHist := rfl
@[simp] theorem setConduit_pfs (d : Dev) (n : Nat) (x : Conduit) : (d.setConduit n x).pfs = d.pfs := rfl
@[simp] theorem setConduit_pfWait (d : Dev) (n : Nat) (x : Conduit) : (d.setConduit n x).pfWait = d.pfWait := rfl
@[simp] theorem setConduit_ncs (d : Dev) (n : Nat) (x : Conduit) : (d.setConduit n x).ncs = d.ncs := rfl
@[simp] theorem setConduit_routers (d : Dev) (n : Nat) (x : Conduit) : (d.setConduit n x).routers = d.routers := rfl
@[simp] theorem setConduit_bar (d : Dev) (n : Nat) (x : Conduit) : (d.setConduit n x).bar = d.bar := rfl
@[simp] theorem setConduit_ports (d : Dev) (n : Nat) (x : Conduit) : (d.setConduit n x).ports = d.ports := rfl
@[simp] theorem setConduit_colls (d : Dev) (n : Nat) (x : Conduit) : (d.setConduit n x).colls = d.colls := rfl
@[simp] theorem setConduit_noticed (d : Dev) (n : Nat) (x : Conduit) : (d.setConduit n x).noticed = d.noticed := rfl
@[simp] theorem setConduit_trigOuts (d : Dev) (n : Nat) (x : Conduit) : (d.setConduit n x).trigOuts = d.trigOuts := rfl
@[simp] theorem setConduit_lineLast (d : Dev) (n : Nat) (x : Conduit) : (d.setConduit n x).lineLast = d.lineLast := rfl
@[simp] theorem setConduit_sen (d : Dev) (n : Nat) (x : Conduit) : (d.setConduit n x).sen = d.sen := rfl
@[simp] theorem setConduit_pwr (d : Dev) (n : Nat) (x : Conduit) : (d.setConduit n x).pwr = d.pwr := rfl
@[simp] theorem setConduit_pins (d : Dev) (n : Nat) (x : Conduit) : (d.setConduit n x).pins = d.pins := rfl
@[simp] theorem setConduit_harts (d : Dev) (n : Nat) (x : Conduit) : (d.setConduit n x).harts = d.harts := rfl
@[simp] theorem setConduit_mp (d : Dev) (n : Nat) (x : Conduit) : (d.setConduit n x).mp = d.mp := rfl
@[simp] theorem setConduit_vci (d : Dev) (n : Nat) (x : Conduit) : (d.setConduit n x).vci = d.vci := rfl
@[simp] theorem setConduit_board (d : Dev) (n : Nat) (x : Conduit) : (d.setConduit n x).board = d.board := rfl
@[simp] theorem setConduit_rings (d : Dev) (n : Nat) (x : Conduit) : (d.setConduit n x).rings = d.rings := rfl
@[simp] theorem setConduit_fuses (d : Dev) (n : Nat) (x : Conduit) : (d.setConduit n x).fuses = d.fuses := rfl
@[simp] theorem setConduit_sec (d : Dev) (n : Nat) (x : Conduit) : (d.setConduit n x).sec = d.sec := rfl
@[simp] theorem setConduit_laps (d : Dev) (n : Nat) (x : Conduit) : (d.setConduit n x).laps = d.laps := rfl
@[simp] theorem setConduit_pondTo (d : Dev) (n : Nat) (x : Conduit) : (d.setConduit n x).pondTo = d.pondTo := rfl
@[simp] theorem setConduit_lastRead (d : Dev) (n : Nat) (x : Conduit) : (d.setConduit n x).lastRead = d.lastRead := rfl

/-! ### Dev.setTrigOut -/

@[simp] theorem setTrigOut_regs (d : Dev) (n : Nat) (x : TrigOut) : (d.setTrigOut n x).regs = d.regs := rfl
@[simp] theorem setTrigOut_mem (d : Dev) (n : Nat) (x : TrigOut) : (d.setTrigOut n x).mem = d.mem := rfl
@[simp] theorem setTrigOut_badMem (d : Dev) (n : Nat) (x : TrigOut) : (d.setTrigOut n x).badMem = d.badMem := rfl
@[simp] theorem setTrigOut_free (d : Dev) (n : Nat) (x : TrigOut) : (d.setTrigOut n x).free = d.free := rfl
@[simp] theorem setTrigOut_tb (d : Dev) (n : Nat) (x : TrigOut) : (d.setTrigOut n x).tb = d.tb := rfl
@[simp] theorem setTrigOut_links (d : Dev) (n : Nat) (x : TrigOut) : (d.setTrigOut n x).links = d.links := rfl
@[simp] theorem setTrigOut_strms (d : Dev) (n : Nat) (x : TrigOut) : (d.setTrigOut n x).strms = d.strms := rfl
@[simp] theorem setTrigOut_flume (d : Dev) (n : Nat) (x : TrigOut) : (d.setTrigOut n x).flume = d.flume := rfl
@[simp] theorem setTrigOut_jn (d : Dev) (n : Nat) (x : TrigOut) : (d.setTrigOut n x).jn = d.jn := rfl
@[simp] theorem setTrigOut_ledger (d : Dev) (n : Nat) (x : TrigOut) : (d.setTrigOut n x).ledger = d.ledger := rfl
@[simp] theorem setTrigOut_errs (d : Dev) (n : Nat) (x : TrigOut) : (d.setTrigOut n x).errs = d.errs := rfl
@[simp] theorem setTrigOut_bme (d : Dev) (n : Nat) (x : TrigOut) : (d.setTrigOut n x).bme = d.bme := rfl
@[simp] theorem setTrigOut_fnMask (d : Dev) (n : Nat) (x : TrigOut) : (d.setTrigOut n x).fnMask = d.fnMask := rfl
@[simp] theorem setTrigOut_pcie (d : Dev) (n : Nat) (x : TrigOut) : (d.setTrigOut n x).pcie = d.pcie := rfl
@[simp] theorem setTrigOut_hostWait (d : Dev) (n : Nat) (x : TrigOut) : (d.setTrigOut n x).hostWait = d.hostWait := rfl
@[simp] theorem setTrigOut_cache (d : Dev) (n : Nat) (x : TrigOut) : (d.setTrigOut n x).cache = d.cache := rfl
@[simp] theorem setTrigOut_cacheAge (d : Dev) (n : Nat) (x : TrigOut) : (d.setTrigOut n x).cacheAge = d.cacheAge := rfl
@[simp] theorem setTrigOut_pondLast (d : Dev) (n : Nat) (x : TrigOut) : (d.setTrigOut n x).pondLast = d.pondLast := rfl
@[simp] theorem setTrigOut_pfHist (d : Dev) (n : Nat) (x : TrigOut) : (d.setTrigOut n x).pfHist = d.pfHist := rfl
@[simp] theorem setTrigOut_pfs (d : Dev) (n : Nat) (x : TrigOut) : (d.setTrigOut n x).pfs = d.pfs := rfl
@[simp] theorem setTrigOut_pfWait (d : Dev) (n : Nat) (x : TrigOut) : (d.setTrigOut n x).pfWait = d.pfWait := rfl
@[simp] theorem setTrigOut_ncs (d : Dev) (n : Nat) (x : TrigOut) : (d.setTrigOut n x).ncs = d.ncs := rfl
@[simp] theorem setTrigOut_routers (d : Dev) (n : Nat) (x : TrigOut) : (d.setTrigOut n x).routers = d.routers := rfl
@[simp] theorem setTrigOut_bar (d : Dev) (n : Nat) (x : TrigOut) : (d.setTrigOut n x).bar = d.bar := rfl
@[simp] theorem setTrigOut_ports (d : Dev) (n : Nat) (x : TrigOut) : (d.setTrigOut n x).ports = d.ports := rfl
@[simp] theorem setTrigOut_colls (d : Dev) (n : Nat) (x : TrigOut) : (d.setTrigOut n x).colls = d.colls := rfl
@[simp] theorem setTrigOut_noticed (d : Dev) (n : Nat) (x : TrigOut) : (d.setTrigOut n x).noticed = d.noticed := rfl
@[simp] theorem setTrigOut_lineLast (d : Dev) (n : Nat) (x : TrigOut) : (d.setTrigOut n x).lineLast = d.lineLast := rfl
@[simp] theorem setTrigOut_sen (d : Dev) (n : Nat) (x : TrigOut) : (d.setTrigOut n x).sen = d.sen := rfl
@[simp] theorem setTrigOut_pwr (d : Dev) (n : Nat) (x : TrigOut) : (d.setTrigOut n x).pwr = d.pwr := rfl
@[simp] theorem setTrigOut_pins (d : Dev) (n : Nat) (x : TrigOut) : (d.setTrigOut n x).pins = d.pins := rfl
@[simp] theorem setTrigOut_harts (d : Dev) (n : Nat) (x : TrigOut) : (d.setTrigOut n x).harts = d.harts := rfl
@[simp] theorem setTrigOut_mp (d : Dev) (n : Nat) (x : TrigOut) : (d.setTrigOut n x).mp = d.mp := rfl
@[simp] theorem setTrigOut_vci (d : Dev) (n : Nat) (x : TrigOut) : (d.setTrigOut n x).vci = d.vci := rfl
@[simp] theorem setTrigOut_board (d : Dev) (n : Nat) (x : TrigOut) : (d.setTrigOut n x).board = d.board := rfl
@[simp] theorem setTrigOut_conduits (d : Dev) (n : Nat) (x : TrigOut) : (d.setTrigOut n x).conduits = d.conduits := rfl
@[simp] theorem setTrigOut_rings (d : Dev) (n : Nat) (x : TrigOut) : (d.setTrigOut n x).rings = d.rings := rfl
@[simp] theorem setTrigOut_fuses (d : Dev) (n : Nat) (x : TrigOut) : (d.setTrigOut n x).fuses = d.fuses := rfl
@[simp] theorem setTrigOut_sec (d : Dev) (n : Nat) (x : TrigOut) : (d.setTrigOut n x).sec = d.sec := rfl
@[simp] theorem setTrigOut_laps (d : Dev) (n : Nat) (x : TrigOut) : (d.setTrigOut n x).laps = d.laps := rfl
@[simp] theorem setTrigOut_pondTo (d : Dev) (n : Nat) (x : TrigOut) : (d.setTrigOut n x).pondTo = d.pondTo := rfl
@[simp] theorem setTrigOut_lastRead (d : Dev) (n : Nat) (x : TrigOut) : (d.setTrigOut n x).lastRead = d.lastRead := rfl

/-! ### Dev.setSys -/

@[simp] theorem setSys_regs (d : Dev) (n : Nat) (x : Sysref) : (d.setSys n x).regs = d.regs := rfl
@[simp] theorem setSys_mem (d : Dev) (n : Nat) (x : Sysref) : (d.setSys n x).mem = d.mem := rfl
@[simp] theorem setSys_badMem (d : Dev) (n : Nat) (x : Sysref) : (d.setSys n x).badMem = d.badMem := rfl
@[simp] theorem setSys_free (d : Dev) (n : Nat) (x : Sysref) : (d.setSys n x).free = d.free := rfl
@[simp] theorem setSys_links (d : Dev) (n : Nat) (x : Sysref) : (d.setSys n x).links = d.links := rfl
@[simp] theorem setSys_strms (d : Dev) (n : Nat) (x : Sysref) : (d.setSys n x).strms = d.strms := rfl
@[simp] theorem setSys_flume (d : Dev) (n : Nat) (x : Sysref) : (d.setSys n x).flume = d.flume := rfl
@[simp] theorem setSys_jn (d : Dev) (n : Nat) (x : Sysref) : (d.setSys n x).jn = d.jn := rfl
@[simp] theorem setSys_ledger (d : Dev) (n : Nat) (x : Sysref) : (d.setSys n x).ledger = d.ledger := rfl
@[simp] theorem setSys_errs (d : Dev) (n : Nat) (x : Sysref) : (d.setSys n x).errs = d.errs := rfl
@[simp] theorem setSys_bme (d : Dev) (n : Nat) (x : Sysref) : (d.setSys n x).bme = d.bme := rfl
@[simp] theorem setSys_fnMask (d : Dev) (n : Nat) (x : Sysref) : (d.setSys n x).fnMask = d.fnMask := rfl
@[simp] theorem setSys_pcie (d : Dev) (n : Nat) (x : Sysref) : (d.setSys n x).pcie = d.pcie := rfl
@[simp] theorem setSys_hostWait (d : Dev) (n : Nat) (x : Sysref) : (d.setSys n x).hostWait = d.hostWait := rfl
@[simp] theorem setSys_cache (d : Dev) (n : Nat) (x : Sysref) : (d.setSys n x).cache = d.cache := rfl
@[simp] theorem setSys_cacheAge (d : Dev) (n : Nat) (x : Sysref) : (d.setSys n x).cacheAge = d.cacheAge := rfl
@[simp] theorem setSys_pondLast (d : Dev) (n : Nat) (x : Sysref) : (d.setSys n x).pondLast = d.pondLast := rfl
@[simp] theorem setSys_pfHist (d : Dev) (n : Nat) (x : Sysref) : (d.setSys n x).pfHist = d.pfHist := rfl
@[simp] theorem setSys_pfs (d : Dev) (n : Nat) (x : Sysref) : (d.setSys n x).pfs = d.pfs := rfl
@[simp] theorem setSys_pfWait (d : Dev) (n : Nat) (x : Sysref) : (d.setSys n x).pfWait = d.pfWait := rfl
@[simp] theorem setSys_ncs (d : Dev) (n : Nat) (x : Sysref) : (d.setSys n x).ncs = d.ncs := rfl
@[simp] theorem setSys_routers (d : Dev) (n : Nat) (x : Sysref) : (d.setSys n x).routers = d.routers := rfl
@[simp] theorem setSys_bar (d : Dev) (n : Nat) (x : Sysref) : (d.setSys n x).bar = d.bar := rfl
@[simp] theorem setSys_ports (d : Dev) (n : Nat) (x : Sysref) : (d.setSys n x).ports = d.ports := rfl
@[simp] theorem setSys_colls (d : Dev) (n : Nat) (x : Sysref) : (d.setSys n x).colls = d.colls := rfl
@[simp] theorem setSys_noticed (d : Dev) (n : Nat) (x : Sysref) : (d.setSys n x).noticed = d.noticed := rfl
@[simp] theorem setSys_trigOuts (d : Dev) (n : Nat) (x : Sysref) : (d.setSys n x).trigOuts = d.trigOuts := rfl
@[simp] theorem setSys_lineLast (d : Dev) (n : Nat) (x : Sysref) : (d.setSys n x).lineLast = d.lineLast := rfl
@[simp] theorem setSys_sen (d : Dev) (n : Nat) (x : Sysref) : (d.setSys n x).sen = d.sen := rfl
@[simp] theorem setSys_pwr (d : Dev) (n : Nat) (x : Sysref) : (d.setSys n x).pwr = d.pwr := rfl
@[simp] theorem setSys_pins (d : Dev) (n : Nat) (x : Sysref) : (d.setSys n x).pins = d.pins := rfl
@[simp] theorem setSys_harts (d : Dev) (n : Nat) (x : Sysref) : (d.setSys n x).harts = d.harts := rfl
@[simp] theorem setSys_mp (d : Dev) (n : Nat) (x : Sysref) : (d.setSys n x).mp = d.mp := rfl
@[simp] theorem setSys_vci (d : Dev) (n : Nat) (x : Sysref) : (d.setSys n x).vci = d.vci := rfl
@[simp] theorem setSys_board (d : Dev) (n : Nat) (x : Sysref) : (d.setSys n x).board = d.board := rfl
@[simp] theorem setSys_conduits (d : Dev) (n : Nat) (x : Sysref) : (d.setSys n x).conduits = d.conduits := rfl
@[simp] theorem setSys_rings (d : Dev) (n : Nat) (x : Sysref) : (d.setSys n x).rings = d.rings := rfl
@[simp] theorem setSys_fuses (d : Dev) (n : Nat) (x : Sysref) : (d.setSys n x).fuses = d.fuses := rfl
@[simp] theorem setSys_sec (d : Dev) (n : Nat) (x : Sysref) : (d.setSys n x).sec = d.sec := rfl
@[simp] theorem setSys_laps (d : Dev) (n : Nat) (x : Sysref) : (d.setSys n x).laps = d.laps := rfl
@[simp] theorem setSys_pondTo (d : Dev) (n : Nat) (x : Sysref) : (d.setSys n x).pondTo = d.pondTo := rfl
@[simp] theorem setSys_lastRead (d : Dev) (n : Nat) (x : Sysref) : (d.setSys n x).lastRead = d.lastRead := rfl

/-! ### Dev.setXch -/

@[simp] theorem setXch_regs (d : Dev) (n : Nat) (x : Exchange) : (d.setXch n x).regs = d.regs := rfl
@[simp] theorem setXch_mem (d : Dev) (n : Nat) (x : Exchange) : (d.setXch n x).mem = d.mem := rfl
@[simp] theorem setXch_badMem (d : Dev) (n : Nat) (x : Exchange) : (d.setXch n x).badMem = d.badMem := rfl
@[simp] theorem setXch_free (d : Dev) (n : Nat) (x : Exchange) : (d.setXch n x).free = d.free := rfl
@[simp] theorem setXch_links (d : Dev) (n : Nat) (x : Exchange) : (d.setXch n x).links = d.links := rfl
@[simp] theorem setXch_strms (d : Dev) (n : Nat) (x : Exchange) : (d.setXch n x).strms = d.strms := rfl
@[simp] theorem setXch_flume (d : Dev) (n : Nat) (x : Exchange) : (d.setXch n x).flume = d.flume := rfl
@[simp] theorem setXch_jn (d : Dev) (n : Nat) (x : Exchange) : (d.setXch n x).jn = d.jn := rfl
@[simp] theorem setXch_ledger (d : Dev) (n : Nat) (x : Exchange) : (d.setXch n x).ledger = d.ledger := rfl
@[simp] theorem setXch_errs (d : Dev) (n : Nat) (x : Exchange) : (d.setXch n x).errs = d.errs := rfl
@[simp] theorem setXch_bme (d : Dev) (n : Nat) (x : Exchange) : (d.setXch n x).bme = d.bme := rfl
@[simp] theorem setXch_fnMask (d : Dev) (n : Nat) (x : Exchange) : (d.setXch n x).fnMask = d.fnMask := rfl
@[simp] theorem setXch_pcie (d : Dev) (n : Nat) (x : Exchange) : (d.setXch n x).pcie = d.pcie := rfl
@[simp] theorem setXch_hostWait (d : Dev) (n : Nat) (x : Exchange) : (d.setXch n x).hostWait = d.hostWait := rfl
@[simp] theorem setXch_cache (d : Dev) (n : Nat) (x : Exchange) : (d.setXch n x).cache = d.cache := rfl
@[simp] theorem setXch_cacheAge (d : Dev) (n : Nat) (x : Exchange) : (d.setXch n x).cacheAge = d.cacheAge := rfl
@[simp] theorem setXch_pondLast (d : Dev) (n : Nat) (x : Exchange) : (d.setXch n x).pondLast = d.pondLast := rfl
@[simp] theorem setXch_pfHist (d : Dev) (n : Nat) (x : Exchange) : (d.setXch n x).pfHist = d.pfHist := rfl
@[simp] theorem setXch_pfs (d : Dev) (n : Nat) (x : Exchange) : (d.setXch n x).pfs = d.pfs := rfl
@[simp] theorem setXch_pfWait (d : Dev) (n : Nat) (x : Exchange) : (d.setXch n x).pfWait = d.pfWait := rfl
@[simp] theorem setXch_ncs (d : Dev) (n : Nat) (x : Exchange) : (d.setXch n x).ncs = d.ncs := rfl
@[simp] theorem setXch_routers (d : Dev) (n : Nat) (x : Exchange) : (d.setXch n x).routers = d.routers := rfl
@[simp] theorem setXch_bar (d : Dev) (n : Nat) (x : Exchange) : (d.setXch n x).bar = d.bar := rfl
@[simp] theorem setXch_ports (d : Dev) (n : Nat) (x : Exchange) : (d.setXch n x).ports = d.ports := rfl
@[simp] theorem setXch_colls (d : Dev) (n : Nat) (x : Exchange) : (d.setXch n x).colls = d.colls := rfl
@[simp] theorem setXch_noticed (d : Dev) (n : Nat) (x : Exchange) : (d.setXch n x).noticed = d.noticed := rfl
@[simp] theorem setXch_trigOuts (d : Dev) (n : Nat) (x : Exchange) : (d.setXch n x).trigOuts = d.trigOuts := rfl
@[simp] theorem setXch_lineLast (d : Dev) (n : Nat) (x : Exchange) : (d.setXch n x).lineLast = d.lineLast := rfl
@[simp] theorem setXch_sen (d : Dev) (n : Nat) (x : Exchange) : (d.setXch n x).sen = d.sen := rfl
@[simp] theorem setXch_pwr (d : Dev) (n : Nat) (x : Exchange) : (d.setXch n x).pwr = d.pwr := rfl
@[simp] theorem setXch_pins (d : Dev) (n : Nat) (x : Exchange) : (d.setXch n x).pins = d.pins := rfl
@[simp] theorem setXch_harts (d : Dev) (n : Nat) (x : Exchange) : (d.setXch n x).harts = d.harts := rfl
@[simp] theorem setXch_mp (d : Dev) (n : Nat) (x : Exchange) : (d.setXch n x).mp = d.mp := rfl
@[simp] theorem setXch_vci (d : Dev) (n : Nat) (x : Exchange) : (d.setXch n x).vci = d.vci := rfl
@[simp] theorem setXch_board (d : Dev) (n : Nat) (x : Exchange) : (d.setXch n x).board = d.board := rfl
@[simp] theorem setXch_conduits (d : Dev) (n : Nat) (x : Exchange) : (d.setXch n x).conduits = d.conduits := rfl
@[simp] theorem setXch_rings (d : Dev) (n : Nat) (x : Exchange) : (d.setXch n x).rings = d.rings := rfl
@[simp] theorem setXch_fuses (d : Dev) (n : Nat) (x : Exchange) : (d.setXch n x).fuses = d.fuses := rfl
@[simp] theorem setXch_sec (d : Dev) (n : Nat) (x : Exchange) : (d.setXch n x).sec = d.sec := rfl
@[simp] theorem setXch_laps (d : Dev) (n : Nat) (x : Exchange) : (d.setXch n x).laps = d.laps := rfl
@[simp] theorem setXch_pondTo (d : Dev) (n : Nat) (x : Exchange) : (d.setXch n x).pondTo = d.pondTo := rfl
@[simp] theorem setXch_lastRead (d : Dev) (n : Nat) (x : Exchange) : (d.setXch n x).lastRead = d.lastRead := rfl

/-! ### Dev.setGt -/

@[simp] theorem setGt_regs (d : Dev) (n : Nat) (x : Gt) : (d.setGt n x).regs = d.regs := rfl
@[simp] theorem setGt_mem (d : Dev) (n : Nat) (x : Gt) : (d.setGt n x).mem = d.mem := rfl
@[simp] theorem setGt_badMem (d : Dev) (n : Nat) (x : Gt) : (d.setGt n x).badMem = d.badMem := rfl
@[simp] theorem setGt_free (d : Dev) (n : Nat) (x : Gt) : (d.setGt n x).free = d.free := rfl
@[simp] theorem setGt_links (d : Dev) (n : Nat) (x : Gt) : (d.setGt n x).links = d.links := rfl
@[simp] theorem setGt_strms (d : Dev) (n : Nat) (x : Gt) : (d.setGt n x).strms = d.strms := rfl
@[simp] theorem setGt_flume (d : Dev) (n : Nat) (x : Gt) : (d.setGt n x).flume = d.flume := rfl
@[simp] theorem setGt_jn (d : Dev) (n : Nat) (x : Gt) : (d.setGt n x).jn = d.jn := rfl
@[simp] theorem setGt_ledger (d : Dev) (n : Nat) (x : Gt) : (d.setGt n x).ledger = d.ledger := rfl
@[simp] theorem setGt_errs (d : Dev) (n : Nat) (x : Gt) : (d.setGt n x).errs = d.errs := rfl
@[simp] theorem setGt_bme (d : Dev) (n : Nat) (x : Gt) : (d.setGt n x).bme = d.bme := rfl
@[simp] theorem setGt_fnMask (d : Dev) (n : Nat) (x : Gt) : (d.setGt n x).fnMask = d.fnMask := rfl
@[simp] theorem setGt_pcie (d : Dev) (n : Nat) (x : Gt) : (d.setGt n x).pcie = d.pcie := rfl
@[simp] theorem setGt_hostWait (d : Dev) (n : Nat) (x : Gt) : (d.setGt n x).hostWait = d.hostWait := rfl
@[simp] theorem setGt_cache (d : Dev) (n : Nat) (x : Gt) : (d.setGt n x).cache = d.cache := rfl
@[simp] theorem setGt_cacheAge (d : Dev) (n : Nat) (x : Gt) : (d.setGt n x).cacheAge = d.cacheAge := rfl
@[simp] theorem setGt_pondLast (d : Dev) (n : Nat) (x : Gt) : (d.setGt n x).pondLast = d.pondLast := rfl
@[simp] theorem setGt_pfHist (d : Dev) (n : Nat) (x : Gt) : (d.setGt n x).pfHist = d.pfHist := rfl
@[simp] theorem setGt_pfs (d : Dev) (n : Nat) (x : Gt) : (d.setGt n x).pfs = d.pfs := rfl
@[simp] theorem setGt_pfWait (d : Dev) (n : Nat) (x : Gt) : (d.setGt n x).pfWait = d.pfWait := rfl
@[simp] theorem setGt_ncs (d : Dev) (n : Nat) (x : Gt) : (d.setGt n x).ncs = d.ncs := rfl
@[simp] theorem setGt_routers (d : Dev) (n : Nat) (x : Gt) : (d.setGt n x).routers = d.routers := rfl
@[simp] theorem setGt_bar (d : Dev) (n : Nat) (x : Gt) : (d.setGt n x).bar = d.bar := rfl
@[simp] theorem setGt_ports (d : Dev) (n : Nat) (x : Gt) : (d.setGt n x).ports = d.ports := rfl
@[simp] theorem setGt_colls (d : Dev) (n : Nat) (x : Gt) : (d.setGt n x).colls = d.colls := rfl
@[simp] theorem setGt_noticed (d : Dev) (n : Nat) (x : Gt) : (d.setGt n x).noticed = d.noticed := rfl
@[simp] theorem setGt_trigOuts (d : Dev) (n : Nat) (x : Gt) : (d.setGt n x).trigOuts = d.trigOuts := rfl
@[simp] theorem setGt_lineLast (d : Dev) (n : Nat) (x : Gt) : (d.setGt n x).lineLast = d.lineLast := rfl
@[simp] theorem setGt_sen (d : Dev) (n : Nat) (x : Gt) : (d.setGt n x).sen = d.sen := rfl
@[simp] theorem setGt_pwr (d : Dev) (n : Nat) (x : Gt) : (d.setGt n x).pwr = d.pwr := rfl
@[simp] theorem setGt_pins (d : Dev) (n : Nat) (x : Gt) : (d.setGt n x).pins = d.pins := rfl
@[simp] theorem setGt_harts (d : Dev) (n : Nat) (x : Gt) : (d.setGt n x).harts = d.harts := rfl
@[simp] theorem setGt_mp (d : Dev) (n : Nat) (x : Gt) : (d.setGt n x).mp = d.mp := rfl
@[simp] theorem setGt_vci (d : Dev) (n : Nat) (x : Gt) : (d.setGt n x).vci = d.vci := rfl
@[simp] theorem setGt_board (d : Dev) (n : Nat) (x : Gt) : (d.setGt n x).board = d.board := rfl
@[simp] theorem setGt_conduits (d : Dev) (n : Nat) (x : Gt) : (d.setGt n x).conduits = d.conduits := rfl
@[simp] theorem setGt_rings (d : Dev) (n : Nat) (x : Gt) : (d.setGt n x).rings = d.rings := rfl
@[simp] theorem setGt_fuses (d : Dev) (n : Nat) (x : Gt) : (d.setGt n x).fuses = d.fuses := rfl
@[simp] theorem setGt_sec (d : Dev) (n : Nat) (x : Gt) : (d.setGt n x).sec = d.sec := rfl
@[simp] theorem setGt_laps (d : Dev) (n : Nat) (x : Gt) : (d.setGt n x).laps = d.laps := rfl
@[simp] theorem setGt_pondTo (d : Dev) (n : Nat) (x : Gt) : (d.setGt n x).pondTo = d.pondTo := rfl
@[simp] theorem setGt_lastRead (d : Dev) (n : Nat) (x : Gt) : (d.setGt n x).lastRead = d.lastRead := rfl

/-! ### Dev.setCell -/

@[simp] theorem setCell_regs (d : Dev) (r c : Nat) (x : Cell) : (d.setCell r c x).regs = d.regs := rfl
@[simp] theorem setCell_mem (d : Dev) (r c : Nat) (x : Cell) : (d.setCell r c x).mem = d.mem := rfl
@[simp] theorem setCell_badMem (d : Dev) (r c : Nat) (x : Cell) : (d.setCell r c x).badMem = d.badMem := rfl
@[simp] theorem setCell_free (d : Dev) (r c : Nat) (x : Cell) : (d.setCell r c x).free = d.free := rfl
@[simp] theorem setCell_tb (d : Dev) (r c : Nat) (x : Cell) : (d.setCell r c x).tb = d.tb := rfl
@[simp] theorem setCell_links (d : Dev) (r c : Nat) (x : Cell) : (d.setCell r c x).links = d.links := rfl
@[simp] theorem setCell_strms (d : Dev) (r c : Nat) (x : Cell) : (d.setCell r c x).strms = d.strms := rfl
@[simp] theorem setCell_jn (d : Dev) (r c : Nat) (x : Cell) : (d.setCell r c x).jn = d.jn := rfl
@[simp] theorem setCell_ledger (d : Dev) (r c : Nat) (x : Cell) : (d.setCell r c x).ledger = d.ledger := rfl
@[simp] theorem setCell_errs (d : Dev) (r c : Nat) (x : Cell) : (d.setCell r c x).errs = d.errs := rfl
@[simp] theorem setCell_bme (d : Dev) (r c : Nat) (x : Cell) : (d.setCell r c x).bme = d.bme := rfl
@[simp] theorem setCell_fnMask (d : Dev) (r c : Nat) (x : Cell) : (d.setCell r c x).fnMask = d.fnMask := rfl
@[simp] theorem setCell_pcie (d : Dev) (r c : Nat) (x : Cell) : (d.setCell r c x).pcie = d.pcie := rfl
@[simp] theorem setCell_hostWait (d : Dev) (r c : Nat) (x : Cell) : (d.setCell r c x).hostWait = d.hostWait := rfl
@[simp] theorem setCell_cache (d : Dev) (r c : Nat) (x : Cell) : (d.setCell r c x).cache = d.cache := rfl
@[simp] theorem setCell_cacheAge (d : Dev) (r c : Nat) (x : Cell) : (d.setCell r c x).cacheAge = d.cacheAge := rfl
@[simp] theorem setCell_pondLast (d : Dev) (r c : Nat) (x : Cell) : (d.setCell r c x).pondLast = d.pondLast := rfl
@[simp] theorem setCell_pfHist (d : Dev) (r c : Nat) (x : Cell) : (d.setCell r c x).pfHist = d.pfHist := rfl
@[simp] theorem setCell_pfs (d : Dev) (r c : Nat) (x : Cell) : (d.setCell r c x).pfs = d.pfs := rfl
@[simp] theorem setCell_pfWait (d : Dev) (r c : Nat) (x : Cell) : (d.setCell r c x).pfWait = d.pfWait := rfl
@[simp] theorem setCell_ncs (d : Dev) (r c : Nat) (x : Cell) : (d.setCell r c x).ncs = d.ncs := rfl
@[simp] theorem setCell_routers (d : Dev) (r c : Nat) (x : Cell) : (d.setCell r c x).routers = d.routers := rfl
@[simp] theorem setCell_bar (d : Dev) (r c : Nat) (x : Cell) : (d.setCell r c x).bar = d.bar := rfl
@[simp] theorem setCell_ports (d : Dev) (r c : Nat) (x : Cell) : (d.setCell r c x).ports = d.ports := rfl
@[simp] theorem setCell_colls (d : Dev) (r c : Nat) (x : Cell) : (d.setCell r c x).colls = d.colls := rfl
@[simp] theorem setCell_noticed (d : Dev) (r c : Nat) (x : Cell) : (d.setCell r c x).noticed = d.noticed := rfl
@[simp] theorem setCell_trigOuts (d : Dev) (r c : Nat) (x : Cell) : (d.setCell r c x).trigOuts = d.trigOuts := rfl
@[simp] theorem setCell_lineLast (d : Dev) (r c : Nat) (x : Cell) : (d.setCell r c x).lineLast = d.lineLast := rfl
@[simp] theorem setCell_sen (d : Dev) (r c : Nat) (x : Cell) : (d.setCell r c x).sen = d.sen := rfl
@[simp] theorem setCell_pwr (d : Dev) (r c : Nat) (x : Cell) : (d.setCell r c x).pwr = d.pwr := rfl
@[simp] theorem setCell_pins (d : Dev) (r c : Nat) (x : Cell) : (d.setCell r c x).pins = d.pins := rfl
@[simp] theorem setCell_harts (d : Dev) (r c : Nat) (x : Cell) : (d.setCell r c x).harts = d.harts := rfl
@[simp] theorem setCell_mp (d : Dev) (r c : Nat) (x : Cell) : (d.setCell r c x).mp = d.mp := rfl
@[simp] theorem setCell_vci (d : Dev) (r c : Nat) (x : Cell) : (d.setCell r c x).vci = d.vci := rfl
@[simp] theorem setCell_board (d : Dev) (r c : Nat) (x : Cell) : (d.setCell r c x).board = d.board := rfl
@[simp] theorem setCell_conduits (d : Dev) (r c : Nat) (x : Cell) : (d.setCell r c x).conduits = d.conduits := rfl
@[simp] theorem setCell_rings (d : Dev) (r c : Nat) (x : Cell) : (d.setCell r c x).rings = d.rings := rfl
@[simp] theorem setCell_fuses (d : Dev) (r c : Nat) (x : Cell) : (d.setCell r c x).fuses = d.fuses := rfl
@[simp] theorem setCell_sec (d : Dev) (r c : Nat) (x : Cell) : (d.setCell r c x).sec = d.sec := rfl
@[simp] theorem setCell_laps (d : Dev) (r c : Nat) (x : Cell) : (d.setCell r c x).laps = d.laps := rfl
@[simp] theorem setCell_pondTo (d : Dev) (r c : Nat) (x : Cell) : (d.setCell r c x).pondTo = d.pondTo := rfl
@[simp] theorem setCell_lastRead (d : Dev) (r c : Nat) (x : Cell) : (d.setCell r c x).lastRead = d.lastRead := rfl

end Sys2Proof.Machine.Dev
end

