-- ==== Sys2Proof/Laws/Ops.lean ====
section
/-! SUPPORT. Laws of the shared operations: what each can do, once, so that no proof unfolds it. -/

namespace Sys2Proof.Machine

namespace Dev

/-! ## Registers -/

theorem rn_lt (d : Dev) (a : Nat) : d.rn a < 2 ^ 32 := (d.reg a).isLt

theorem reg_of_regs {d e : Dev} (h : d.regs = e.regs) (a : Nat) : d.reg a = e.reg a := by rw [reg, reg, h]
theorem rn_of_regs {d e : Dev} (h : d.regs = e.regs) (a : Nat) : d.rn a = e.rn a := by rw [rn, rn, reg_of_regs h]

@[simp] theorem reg_setReg_same (d : Dev) (a v : Nat) : (d.setReg a v).reg a = BitVec.ofNat 32 v := by
  simp only [reg, setReg, SMap.get_set_same]

theorem reg_setReg_ne (d : Dev) {a b : Nat} (v : Nat) (h : b ≠ a) : (d.setReg a v).reg b = d.reg b := by
  simp only [reg, setReg, SMap.get_set_ne _ _ _ h]

@[simp] theorem rn_setReg_same (d : Dev) (a v : Nat) : (d.setReg a v).rn a = v % 2 ^ 32 := by
  rw [rn, reg_setReg_same, BitVec.toNat_ofNat]

theorem rn_setReg_ne (d : Dev) {a b : Nat} (v : Nat) (h : b ≠ a) : (d.setReg a v).rn b = d.rn b := by
  rw [rn, rn, reg_setReg_ne d v h]

theorem rn_setReg (d : Dev) (a b v : Nat) : (d.setReg a v).rn b = if b = a then v % 2 ^ 32 else d.rn b := by
  by_cases h : b = a
  · subst h; simp only [rn_setReg_same, if_true]
  · rw [rn_setReg_ne d v h, if_neg h]

/-- Setting a field of a register: the word with the field replaced. -/
theorem rn_setFld_same (d : Dev) (a hi lo v : Nat) (h : lo ≤ hi) (h32 : hi < 32) :
    (d.setFld a hi lo v).rn a = putBits (d.rn a) hi lo v := by
  rw [setFld, rn_setReg_same, Nat.mod_eq_of_lt (putBits_lt _ _ _ _ 32 h h32 (d.rn_lt a))]

theorem rn_setFld_ne (d : Dev) {a b : Nat} (hi lo v : Nat) (h : b ≠ a) : (d.setFld a hi lo v).rn b = d.rn b := by
  rw [setFld, rn_setReg_ne d _ h]

theorem fld_setFld_same (d : Dev) (a hi lo v : Nat) (h : lo ≤ hi) (h32 : hi < 32) :
    (d.setFld a hi lo v).fld a hi lo = v % 2 ^ (hi + 1 - lo) := by
  rw [fld, rn_setFld_same d a hi lo v h h32, bits_putBits_same _ _ _ _ h]

/-- A field apart from the one set is unchanged. -/
theorem fld_setFld_apart (d : Dev) (a hi lo v hi' lo' : Nat) (h : lo ≤ hi) (h32 : hi < 32) (hd : hi' < lo ∨ hi < lo') :
    (d.setFld a hi lo v).fld a hi' lo' = d.fld a hi' lo' := by
  rw [fld, fld, rn_setFld_same d a hi lo v h h32, bits_putBits_ne _ _ _ _ _ _ h hd]

@[simp] theorem fld_setFld_ne (d : Dev) {a b : Nat} (hi lo v hi' lo' : Nat) (h : b ≠ a) :
    (d.setFld a hi lo v).fld b hi' lo' = d.fld b hi' lo' := by
  rw [fld, fld, rn_setFld_ne d _ _ _ h]

theorem flag_setFlag_same (d : Dev) (a i : Nat) (v : Bool) (h : i < 32) : (d.setFlag a i v).flag a i = v := by
  rw [setFlag, flag, rn_setFld_same d a i i _ (Nat.le_refl i) h, bit_putBits_same]

theorem flag_setFlag_apart (d : Dev) (a i j : Nat) (v : Bool) (h : i < 32) (hj : j ≠ i) :
    (d.setFlag a i v).flag a j = d.flag a j := by
  rw [setFlag, flag, flag, rn_setFld_same d a i i _ (Nat.le_refl i) h, bit_putBits_ne _ _ _ _ _ (Nat.le_refl i) (by omega)]

theorem rn_setFlag_ne (d : Dev) {a b : Nat} (i : Nat) (v : Bool) (h : b ≠ a) : (d.setFlag a i v).rn b = d.rn b := by
  rw [setFlag, rn_setFld_ne d _ _ _ h]

/-- A counter counts modulo 2^32 (R12). -/
theorem rn_bump_same (d : Dev) (a n : Nat) : (d.bump a n).rn a = (d.rn a + n) % 2 ^ 32 := by rw [bump, rn_setReg_same]

theorem rn_bump_ne (d : Dev) {a b : Nat} (n : Nat) (h : b ≠ a) : (d.bump a n).rn b = d.rn b := by
  rw [bump, rn_setReg_ne d _ h]

/-- A value held in two registers reads back modulo 2^64 (R13). -/
theorem rn64_setReg64 (d : Dev) {lo hi : Nat} (v : Nat) (h : lo ≠ hi) : (d.setReg64 lo hi v).rn64 lo hi = v % 2 ^ 64 := by
  rw [setReg64, rn64, pair64, ← rn, ← rn, rn_setReg_same, rn_setReg_ne _ _ h, rn_setReg_same]
  omega

/-! ## The canonical form of the register bank -/

theorem regs_canon_weaken {lo : Option Nat} {m : List (Nat × Word)} {b : Nat} (h : Registers.canon (some b) m = true)
    (hl : ∀ l, lo = some l → l ≤ b) : Registers.canon lo m = true := by
  cases m with
  | nil => rfl
  | cons c m =>
    simp only [Registers.canon, Bool.and_eq_true, decide_eq_true_eq] at h ⊢
    refine ⟨⟨?_, h.1.2⟩, h.2⟩
    cases lo with
    | none => rfl
    | some l => have := hl l rfl; simp; omega

theorem regs_canon_del (k : Nat) : ∀ (lo : Option Nat) (m : List (Nat × Word)), Registers.canon lo m = true →
    Registers.canon lo (SMap.del k m) = true := by
  intro lo m
  induction m generalizing lo with
  | nil => intro h; exact h
  | cons c m ih =>
    intro h
    by_cases hk : c.1 = k
    · simp only [SMap.del, hk, if_true]
      apply ih
      simp only [Registers.canon, Bool.and_eq_true, decide_eq_true_eq] at h
      refine regs_canon_weaken h.2 ?_
      intro l hl; subst hl; have := h.1.1; simp at this; omega
    · simp only [SMap.del, hk, if_false, Registers.canon, Bool.and_eq_true] at h ⊢
      exact ⟨h.1, ih _ h.2⟩

theorem regs_canon_ins {k : Nat} {v : Word} (hv : v ≠ regReset k) : ∀ (lo : Option Nat) (m : List (Nat × Word)),
    Registers.canon lo m = true → (∀ c ∈ m, c.1 ≠ k) → (∀ l, lo = some l → l < k) →
    Registers.canon lo (SMap.ins k v m) = true := by
  intro lo m
  induction m generalizing lo with
  | nil => intro _ _ hl; cases lo <;> simp [SMap.ins, Registers.canon, hv]; exact hl _ rfl
  | cons c m ih =>
    intro h hm hl
    have hc := hm c (by simp)
    by_cases hk : k < c.1
    · simp only [Registers.canon, Bool.and_eq_true, decide_eq_true_eq] at h
      simp only [SMap.ins, hk, if_true, Registers.canon, Bool.and_eq_true, decide_eq_true_eq]
      refine ⟨⟨?_, hv⟩, ⟨trivial, h.1.2⟩, h.2⟩
      cases lo with
      | none => rfl
      | some l => simpa using hl l rfl
    · simp only [SMap.ins, hk, if_false, Registers.canon, Bool.and_eq_true] at h ⊢
      exact ⟨h.1, ih _ h.2 (fun x hx => hm x (by simp [hx])) (by intro l e; cases e; omega)⟩

theorem regs_canon_filter (p : Nat × Word → Bool) : ∀ (lo : Option Nat) (m : List (Nat × Word)),
    Registers.canon lo m = true → Registers.canon lo (m.filter p) = true := by
  intro lo m
  induction m generalizing lo with
  | nil => intro h; exact h
  | cons c m ih =>
    intro h
    simp only [Registers.canon, Bool.and_eq_true, decide_eq_true_eq] at h
    by_cases hp : p c
    · simp only [List.filter_cons, hp, if_true, Registers.canon, Bool.and_eq_true, decide_eq_true_eq]
      exact ⟨h.1, ih _ h.2⟩
    · simp only [List.filter_cons, hp]
      refine ih _ (regs_canon_weaken h.2 ?_)
      intro l hl; subst hl; have := h.1.1; simp at this; omega

/-- A write of a register keeps the bank's form. -/
theorem registers_wf_setReg {d : Dev} (h : Registers.wf d.regs = true) (a v : Nat) : Registers.wf (d.setReg a v).regs = true := by
  simp only [setReg, SMap.set, Registers.wf] at h ⊢
  by_cases hv : BitVec.ofNat 32 v = regReset a
  · rw [if_pos hv]; exact regs_canon_del a none _ h
  · rw [if_neg hv]
    exact regs_canon_ins hv none _ (regs_canon_del a none _ h) (SMap.ne_of_mem_del a d.regs.cells) (by simp)

/-! ## Memory (R307) -/

theorem byte_of_mem {d e : Dev} (h : d.mem = e.mem) (a : Nat) : d.byte a = e.byte a := by rw [byte, byte, h]

/-- A byte after a run of bytes is written: the run's, or what it was. -/
theorem byte_putBytes (d : Dev) (a : Nat) (bs : List Byte) (b : Nat) :
    (d.putBytes a bs).byte b = if a ≤ b ∧ b < a + bs.length then bs.getD (b - a) 0 else d.byte b := by
  simp only [byte, putBytes, SMap.get_setMany]

theorem byte_putBytes_out (d : Dev) (a : Nat) (bs : List Byte) {b : Nat} (h : b < a ∨ a + bs.length ≤ b) :
    (d.putBytes a bs).byte b = d.byte b := by
  rw [byte_putBytes, if_neg (by omega)]

theorem byte_putNum_out (d : Dev) (a n v : Nat) {b : Nat} (h : b < a ∨ a + n ≤ b) : (d.putNum a n v).byte b = d.byte b := by
  rw [putNum]; exact byte_putBytes_out d a _ (by simpa using h)

theorem bytes_eq_map (d : Dev) (n a : Nat) : d.bytes a n = (List.range' a n).map d.byte := by
  induction n generalizing a with
  | zero => rfl
  | succ n ih => simp [bytes, List.range'_succ, ih]

/-- A run of bytes reads back. -/
theorem bytes_putBytes (d : Dev) (a : Nat) (bs : List Byte) : (d.putBytes a bs).bytes a bs.length = bs := by
  rw [bytes_eq_map]
  apply List.ext_getElem
  · simp
  · intro i h1 h2
    simp [byte_putBytes, h2]

/-- A number reads back modulo its width. -/
theorem num_putNum (d : Dev) (a n v : Nat) : (d.putNum a n v).num a n = v % 256 ^ n := by
  have := bytes_putBytes d a (toBytes n v)
  rw [toBytes_length] at this
  rw [num, putNum, this, ofBytes_toBytes]

/-- Every memory operation keeps the canonical form: a write of bytes, … -/
theorem memory_wf_putBytes {d : Dev} (h : Memory.wf d.mem = true) (a : Nat) (bs : List Byte) :
    Memory.wf (d.putBytes a bs).mem = true := SMap.wf_setMany 0 bs h a

theorem memory_badWf_putBytes {d : Dev} (h : Memory.badWf d.badMem = true) (a : Nat) (bs : List Byte) :
    Memory.badWf (d.putBytes a bs).badMem = true := SMap.wf_filter false _ h

/-- … a line that fails or is good again, … -/
theorem memory_badWf_setBadLine {d : Dev} (h : Memory.badWf d.badMem = true) (a : Nat) (b : Bool) :
    Memory.badWf (d.setBadLine a b).badMem = true := SMap.wf_setMany false _ h a

/-- … a bank that becomes 0. -/
theorem memory_wf_zeroBank {d : Dev} (h : Memory.wf d.mem = true) (b : Nat) : Memory.wf (d.zeroBank b).mem = true :=
  SMap.wf_filter 0 _ h

theorem memory_badWf_zeroBank {d : Dev} (h : Memory.badWf d.badMem = true) (b : Nat) :
    Memory.badWf (d.zeroBank b).badMem = true := SMap.wf_filter false _ h

/-! ## What a sound device is kept by -/

theorem sound_iff (d : Dev) :
    d.sound = true ↔ Memory.wf d.mem = true ∧ Memory.badWf d.badMem = true ∧ Registers.wf d.regs = true := by
  simp only [sound, Bool.and_eq_true, and_assoc]

/-- An update that leaves memory and registers alone keeps a device sound. -/
theorem sound_of_eq {d e : Dev} (h : d.sound = true) (hm : e.mem = d.mem) (hb : e.badMem = d.badMem) (hr : e.regs = d.regs) :
    e.sound = true := by rw [sound, hm, hb, hr]; exact h

theorem sound_setReg {d : Dev} (h : d.sound = true) (a v : Nat) : (d.setReg a v).sound = true := by
  rw [sound_iff] at h ⊢
  exact ⟨by simpa using h.1, by simpa using h.2.1, registers_wf_setReg h.2.2 a v⟩

theorem sound_putBytes {d : Dev} (h : d.sound = true) (a : Nat) (bs : List Byte) : (d.putBytes a bs).sound = true := by
  rw [sound_iff] at h ⊢
  exact ⟨memory_wf_putBytes h.1 a bs, memory_badWf_putBytes h.2.1 a bs, by simpa using h.2.2⟩

theorem sound_setBadLine {d : Dev} (h : d.sound = true) (a : Nat) (b : Bool) : (d.setBadLine a b).sound = true := by
  rw [sound_iff] at h ⊢
  exact ⟨by simpa using h.1, memory_badWf_setBadLine h.2.1 a b, by simpa using h.2.2⟩

theorem sound_zeroBank {d : Dev} (h : d.sound = true) (b : Nat) : (d.zeroBank b).sound = true := by
  rw [sound_iff] at h ⊢
  exact ⟨memory_wf_zeroBank h.1 b, memory_badWf_zeroBank h.2.1 b, h.2.2⟩

theorem sound_setFld {d : Dev} (h : d.sound = true) (a hi lo v : Nat) : (d.setFld a hi lo v).sound = true := sound_setReg h _ _
theorem sound_setFlag {d : Dev} (h : d.sound = true) (a i : Nat) (v : Bool) : (d.setFlag a i v).sound = true :=
  sound_setFld h _ _ _ _
theorem sound_bump {d : Dev} (h : d.sound = true) (a n : Nat) : (d.bump a n).sound = true := sound_setReg h _ _
theorem sound_putNum {d : Dev} (h : d.sound = true) (a n v : Nat) : (d.putNum a n v).sound = true := sound_putBytes h _ _

/-- A fold of sound steps is sound. -/
theorem sound_foldl {β : Type} {f : Dev → β → Dev} (hf : ∀ d b, d.sound = true → (f d b).sound = true) (l : List β) :
    ∀ {d : Dev}, d.sound = true → (l.foldl f d).sound = true := by
  induction l with
  | nil => intro d h; exact h
  | cons b l ih => intro d h; exact ih (hf d b h)

/-! ## Interrupts and host requests -/

theorem hostWrite_cases (d : Dev) (x : HostSender) (a : Nat) (bs : List Byte) :
    (d.bme = true ∧ d.hostWrite x a bs = d.putBytes (hostBase + a % 2 ^ 47) bs) ∨
    (d.bme = false ∧ d.hostWrite x a bs =
      Dev.bump { d with hostWait := d.hostWait ++ [⟨x, a % 2 ^ 47, bs⟩] } Reg.hifBmeHeld) := by
  cases h : d.bme
  · exact .inr ⟨rfl, by rw [hostWrite, h]; rfl⟩
  · exact .inl ⟨rfl, by rw [hostWrite, h]; rfl⟩

/-- The canonical register of a host write or of one held (R356): all but memory, the queue and the count is as before. -/
theorem rn_hostWrite_ne (d : Dev) (x : HostSender) (a : Nat) (bs : List Byte) {b : Nat} (h : b ≠ Reg.hifBmeHeld) :
    (d.hostWrite x a bs).rn b = d.rn b := by
  rcases hostWrite_cases d x a bs with ⟨_, e⟩ | ⟨_, e⟩
  · rw [e]; exact rn_of_regs (by simp) b
  · rw [e, rn_bump_ne _ _ h]; rfl

end Dev

/-! ## Outcomes -/

/-- A command's effect on the device is a next state with the queue untouched. -/
@[simp] theorem onDev_eq (f : Dev → Dev) (s : State) : onDev f s = .next { s with dev := f s.dev } := rfl

/-- A write of a register with a behaviour of its own in a block that is not fenced (R353). -/
theorem onReg_open {a : Nat} {s : State} (h : s.dev.fenced a = false) (f : Dev → Dev) :
    onReg a f s = .next { s with dev := (f s.dev).activity } := by
  simp only [onReg, onDev_eq, h]; rfl

/-- … and in a fenced one: ignored and counted. -/
theorem onReg_fenced {a : Nat} {s : State} (h : s.dev.fenced a = true) (f : Dev → Dev) :
    onReg a f s = .next { s with dev := s.dev.activity.bump Reg.glbFencedAcc } := by
  simp only [onReg, onDev_eq, h]; rfl

/-- A step takes the command at the front of the queue. -/
theorem step_cons {s : State} {c : Instr} {cs : List Instr} (h : s.pending = c :: cs) :
    step s = exec c { s with pending := cs } := by rw [step, h]

/-- A step on an empty queue. -/
theorem step_nil {s : State} (h : s.pending = []) : step s = idleStep s := by rw [step, h]

end Sys2Proof.Machine
end

