-- ==== Sys2Proof/Laws/Timers.lean ====
section
/-! SUPPORT. What the general timers can do: they change timer registers, the timebase interrupt's vector, and nothing else;
and what the passage of time leaves. -/

namespace Sys2Proof.Machine.Dev

/-- Registers of vector v that an event can change (R362, R356). -/
def vectorReg (v a : Nat) : Prop := a = Reg.intVecCount v ∨ a = Reg.msixPba (v / 32) ∨ a = Reg.hifBmeHeld

/-- Registers that a wake can change (R410-R412). -/
def wakeReg (a : Nat) : Prop := a = Reg.pwrAborts ∨ a = Reg.pwrWakeCause ∨ a = Reg.pwrWakes ∨ a = Reg.sbWakes

/-- Registers that the timers can change. -/
def timerReg (a : Nat) : Prop := (0x30400 ≤ a ∧ a < 0x30600) ∨ vectorReg 1 a ∨ wakeReg a

/-- A device without what the timers, and a wake by one of them, can change. -/
def noTimers (d : Dev) : Dev :=
  { d with
    regs := ⟨[]⟩, mem := ⟨[]⟩, badMem := ⟨[]⟩, cache := [], hostWait := [], tb := { d.tb with gts := ⟨[]⟩ }
    sen := { d.sen with gtEvents := 0 }, pwr := { d.pwr with exitTo := none, target := 0 }, pcie := { d.pcie with pmeStatus := false }
    pins := { d.pins with clkreqN := false, wakeN := false, enCore := true } }

/-- Only timers changed. -/
def TimersOnly (d e : Dev) : Prop := e.noTimers = d.noTimers ∧ ∀ a, ¬ timerReg a → e.reg a = d.reg a

theorem TimersOnly.refl (d : Dev) : TimersOnly d d := ⟨rfl, fun _ _ => rfl⟩

theorem TimersOnly.trans {d e f : Dev} (h : TimersOnly d e) (g : TimersOnly e f) : TimersOnly d f :=
  ⟨g.1.trans h.1, fun a ha => (g.2 a ha).trans (h.2 a ha)⟩

theorem timersOnly_foldl {β : Type} {f : Dev → β → Dev} (l : List β) (hf : ∀ d, ∀ b ∈ l, TimersOnly d (f d b)) :
    ∀ d, TimersOnly d (l.foldl f d) := by
  induction l with
  | nil => exact TimersOnly.refl
  | cons b l ih =>
    intro d
    exact (hf d b (by simp)).trans (ih (fun d c hc => hf d c (by simp [hc])) _)

theorem timersOnly_setReg (d : Dev) {a : Nat} (v : Nat) (h : timerReg a) : TimersOnly d (d.setReg a v) :=
  ⟨rfl, fun _ hb => reg_setReg_ne d v (fun e => hb (e ▸ h))⟩

theorem timersOnly_setGt (d : Dev) (n : Nat) (g : Gt) : TimersOnly d (d.setGt n g) := ⟨rfl, fun _ _ => rfl⟩

theorem timersOnly_hostWrite (d : Dev) (x : HostSender) (a : Nat) (bs : List Byte) : TimersOnly d (d.hostWrite x a bs) := by
  rcases hostWrite_cases d x a bs with ⟨_, e⟩ | ⟨_, e⟩
  · rw [e]; exact ⟨rfl, fun _ _ => rfl⟩
  · rw [e]; exact ⟨rfl, fun b hb => reg_setReg_ne _ _ (fun h => hb (.inr (.inl (.inr (.inr h)))))⟩

theorem timersOnly_tbInterrupt (d : Dev) : TimersOnly d d.tbInterrupt := by
  unfold tbInterrupt raiseVector
  have h1 : TimersOnly d (d.bump (Reg.intVecCount 1)) := timersOnly_setReg d _ (.inr (.inl (.inl rfl)))
  simp only
  split
  · refine h1.trans ?_
    unfold sendVector
    split
    · exact timersOnly_setReg _ _ (.inr (.inl (.inr (.inl rfl))))
    · exact timersOnly_hostWrite _ _ _ _
  · exact h1

/-- A register of one of the sixteen timers. -/
theorem timerReg_of_lt {n k a : Nat} (h : n < 16) (hk : k < 0x20) (e : a = 0x30400 + k + 0x20 * n) : timerReg a :=
  .inl (by omega)

theorem timersOnly_gtReg (d : Dev) {n k a : Nat} (v : Nat) (h : n < 16) (hk : k < 0x20) (e : a = 0x30400 + k + 0x20 * n) :
    TimersOnly d (d.setReg a v) := timersOnly_setReg d v (timerReg_of_lt h hk e)

theorem gtLinked_even {d : Dev} {o : Nat} (h : d.gtLinked o = true) : o % 2 = 0 := by
  simp only [gtLinked, Bool.and_eq_true, beq_iff_eq] at h; exact h.1

theorem timersOnly_showGt (d : Dev) {o : Nat} (h : o < 16) : TimersOnly d (d.showGt o) := by
  have a (d : Dev) (i : Nat) (v : Bool) : TimersOnly d (d.setFlag (Reg.gtStat o) i v) :=
    timersOnly_gtReg d (k := 0x10) _ h (by omega) (by simp)
  unfold showGt
  simp only
  split
  · rename_i hl
    have ho : o % 2 = 0 := gtLinked_even hl
    exact ((a _ _ _).trans (a _ _ _)).trans (timersOnly_gtReg _ (n := o + 1) (k := 0x10) _ (by omega) (by omega) (by simp))
  · exact (a _ _ _).trans (a _ _ _)

theorem timersOnly_gtSetRun (run : Bool) (d : Dev) {n : Nat} (h : n < 16) : TimersOnly d (gtSetRun run d n) :=
  (timersOnly_gtReg d (k := 0) _ h (by omega) (by simp)).trans (timersOnly_showGt _ h)

theorem timersOnly_gtReset (d : Dev) {n : Nat} (h : n < 16) : TimersOnly d (gtReset d n) :=
  (timersOnly_setGt d n _).trans (timersOnly_showGt _ h)

theorem timersOnly_beginExit (v : Nat) (d : Dev) : TimersOnly d (beginExit v d) := by
  refine TimersOnly.trans ((timersOnly_setReg d v (.inr (.inr (.inr (.inl rfl))))).trans
    (timersOnly_setReg _ _ (.inr (.inr (.inr (.inr (.inl rfl))))))) (f := beginExit v d) ⟨?_, fun _ _ => rfl⟩
  unfold beginExit
  simp only
  split <;> rfl

theorem timersOnly_wake (d : Dev) (k : Fin 4) : TimersOnly d (d.wake [.gtimer k]) := by
  have bump (e : Dev) {a : Nat} (n : Nat) (h : wakeReg a) : TimersOnly e (e.bump a n) := timersOnly_setReg e _ (.inr (.inr h))
  have first (on : List WakeSource) (e : Dev) : TimersOnly e
      (if e.pwrState = psNap ∨ e.pwrState = psSentinel then e.bump Reg.sbWakes (on.filter (· == .sideband)).length else e) := by
    split
    · exact bump e _ (.inr (.inr (.inr rfl)))
    · exact TimersOnly.refl _
  have last (on : List WakeSource) (v : Nat) (e : Dev) : TimersOnly e
      (if on.isEmpty || e.pwr.exitTo.isSome then e
      else if e.entering && decide (1 ≤ e.pwrState) then (e.bump Reg.pwrAborts).noTarget
      else if (e.pwrState = psNap ∨ e.pwrState = psSentinel) && !e.startFailed then e.beginExit v else e) := by
    split
    · exact TimersOnly.refl _
    · split
      · exact (bump _ _ (.inl rfl)).trans ⟨rfl, fun _ _ => rfl⟩
      · split
        · exact timersOnly_beginExit _ _
        · exact TimersOnly.refl _
  have none : ([.gtimer k] : List WakeSource).contains .pcie = false := rfl
  unfold wake
  simp only [none, Bool.false_and, Bool.false_eq_true, if_false]
  exact (first _ d).trans (last _ _ _)

theorem timersOnly_gtCounted (d : Dev) (o : Nat) {a : Nat} (h : timerReg a) : TimersOnly d (gtCounted d o a) := by
  unfold gtCounted
  have woken (e : Dev) : TimersOnly e (if 12 ≤ o then e.wake [.gtimer (Fin.ofNat 4 (o - 12))] else e) := by
    split
    · exact timersOnly_wake _ _
    · exact TimersOnly.refl _
  have seen (e : Dev) : TimersOnly e
      (if e.senOn then { e with sen := { e.sen with gtEvents := putBits e.sen.gtEvents o o 1 } } else e) := by
    split
    · exact ⟨rfl, fun _ _ => rfl⟩
    · exact TimersOnly.refl _
  exact ((timersOnly_setReg d _ h).trans (woken _)).trans (seen _)

theorem timersOnly_setGtCount (d : Dev) {o : Nat} (v : Nat) (h : o < 16) : TimersOnly d (d.setGtCount o v) := by
  unfold setGtCount
  split
  · rename_i hl
    have ho : o % 2 = 0 := gtLinked_even hl
    exact (timersOnly_gtReg d (k := 4) _ h (by omega) (by simp)).trans
      (timersOnly_gtReg _ (n := o + 1) (k := 4) _ (by omega) (by omega) (by simp))
  · exact timersOnly_gtReg d (k := 4) _ h (by omega) (by simp)

theorem timersOnly_setGtCompare (d : Dev) {o : Nat} (v : Nat) (h : o < 16) : TimersOnly d (d.setGtCompare o v) := by
  unfold setGtCompare
  split
  · rename_i hl
    have ho : o % 2 = 0 := gtLinked_even hl
    exact (timersOnly_gtReg d (k := 8) _ h (by omega) (by simp)).trans
      (timersOnly_gtReg _ (n := o + 1) (k := 8) _ (by omega) (by omega) (by simp))
  · exact timersOnly_gtReg d (k := 8) _ h (by omega) (by simp)

theorem timersOnly_gtStep (d : Dev) {o : Nat} (h : o < 16) : TimersOnly d (d.gtStep o).1 := by
  have fin (e : Dev) (g : Gt) : TimersOnly e
      ((Dev.setGt (match (d.gt o).pendCmp with | some v => e.setGtCompare o v | none => e) o g).showGt o) := by
    refine TimersOnly.trans ?_ ((timersOnly_setGt _ o g).trans (timersOnly_showGt _ h))
    split
    · exact timersOnly_setGtCompare _ _ h
    · exact TimersOnly.refl _
  have m (b : Bool) (e : Dev) (k a : Nat) (hk : k < 0x20) (ha : a = 0x30400 + k + 0x20 * o) :
      TimersOnly e (if b = true then e.gtCounted o a else e) := by
    cases b
    · exact TimersOnly.refl _
    · exact timersOnly_gtCounted e o (timerReg_of_lt h hk ha)
  unfold gtStep
  simp only
  split
  · exact (timersOnly_setGtCount _ _ h).trans (fin _ _)
  · split
    · exact fin _ _
    · refine TimersOnly.trans ?_ (fin _ _)
      exact ((timersOnly_setGtCount _ _ h).trans (m _ _ 0x14 _ (by omega) (by simp))).trans (m _ _ 0x18 _ (by omega) (by simp))

theorem timersOnly_gtActions (l : List (Nat × Nat)) (hl : ∀ x ∈ l, x.1 < 16) (d : Dev) : TimersOnly d (gtActions l d) := by
  have part (o : Nat) (ho : o < 16) (e : Dev) :
      ∀ n ∈ (if e.gtLinked o then [] else [if o % 2 = 0 then o + 1 else o - 1] : List Nat), n < 16 := by
    intro n hn
    split at hn
    · simp at hn
    · simp at hn; subst hn; split <;> omega
  unfold gtActions gtStops
  simp only
  refine TimersOnly.trans (timersOnly_foldl _ ?_ d) (TimersOnly.trans (timersOnly_foldl _ ?_ _)
    (TimersOnly.trans (timersOnly_foldl _ ?_ _) (timersOnly_foldl _ ?_ _)))
  · intro e n hn
    refine timersOnly_gtSetRun _ _ ?_
    simp only [List.mem_flatMap, List.mem_append] at hn
    obtain ⟨x, hx, hn | hn⟩ := hn
    · split at hn
      · simp at hn; subst hn; exact hl x hx
      · simp at hn
    · split at hn
      · exact part x.1 (hl x hx) d n hn
      · simp at hn
  · intro e n hn
    refine timersOnly_gtReset _ ?_
    simp only [List.mem_flatMap, List.mem_append] at hn
    obtain ⟨x, hx, hn | hn⟩ := hn
    · split at hn
      · simp at hn; subst hn; exact hl x hx
      · simp at hn
    · split at hn
      · exact part x.1 (hl x hx) d n hn
      · simp at hn
  · intro e n hn
    refine timersOnly_gtSetRun _ _ ?_
    simp only [List.mem_filter, List.mem_flatMap] at hn
    obtain ⟨⟨x, hx, hn⟩, _⟩ := hn
    split at hn
    · exact part x.1 (hl x hx) d n hn
    · simp at hn
  · intro e _ _
    exact timersOnly_tbInterrupt e

theorem timersOnly_gtEdges (os : List Nat) (ho : ∀ o ∈ os, o < 16) (d : Dev) : TimersOnly d (gtEdges os d) := by
  have key : ∀ (os : List Nat) (_ : ∀ o ∈ os, o < 16) (x : Dev × List (Nat × Nat)) (_ : ∀ y ∈ x.2, y.1 < 16),
      TimersOnly x.1 (os.foldl (fun (x : Dev × List (Nat × Nat)) o =>
        ((x.1.gtStep o).1, x.2 ++ [(o, (x.1.gtStep o).2)])) x).1 ∧
      ∀ y ∈ (os.foldl (fun (x : Dev × List (Nat × Nat)) o =>
        ((x.1.gtStep o).1, x.2 ++ [(o, (x.1.gtStep o).2)])) x).2, y.1 < 16 := by
    intro os
    induction os with
    | nil => intro _ x hx; exact ⟨TimersOnly.refl _, hx⟩
    | cons o os ih =>
      intro ho x hx
      have hn := ih (fun p hp => ho p (by simp [hp])) ((x.1.gtStep o).1, x.2 ++ [(o, (x.1.gtStep o).2)]) (by
        intro y hy
        simp only [List.mem_append, List.mem_singleton] at hy
        rcases hy with hy | rfl
        · exact hx y hy
        · exact ho o (by simp))
      exact ⟨(timersOnly_gtStep x.1 (ho o (by simp))).trans hn.1, hn.2⟩
  have k := key os ho (d, []) (by simp)
  unfold gtEdges gtSteps
  exact k.1.trans (timersOnly_gtActions _ k.2 _)

theorem gtOwners_lt {d : Dev} {o : Nat} (h : o ∈ d.gtOwners) : o < 16 := by
  simp only [gtOwners, List.mem_filter, List.mem_range] at h; exact h.1

theorem timersOnly_gtClockEdge (c : Nat) (d : Dev) : TimersOnly d (gtClockEdge c d) :=
  timersOnly_gtEdges _ (fun _ ho => gtOwners_lt (List.mem_filter.mp ho).1) d

theorem timersOnly_gtGlide (t0 t1 : Nat) (d : Dev) {o : Nat} (h : o < 16) : TimersOnly d (gtGlide t0 t1 d o) := by
  unfold gtGlide
  simp only
  split
  · exact TimersOnly.refl _
  · exact timersOnly_setGtCount _ _ h

/-- Setting the TBC changes no register but the pad holds, of which an edge of TB_CLK_OUT releases its group (R416). -/
theorem setTime_reg (d : Dev) (t : Nat) {a : Nat} (h : a ≠ Reg.pwrPadHold) : (d.setTime t).reg a = d.reg a := by
  have k (b : Bool) : (if b then d.setFlag Reg.pwrPadHold 1 false else d).reg a = d.reg a := by
    cases b
    · rfl
    · exact reg_setReg_ne d _ h
  exact k _

@[simp] theorem setTime_tbc (d : Dev) (t : Nat) : (d.setTime t).tb.tbc = t := rfl

/-- The TBC stands still while TB_CLK does not run (R61). -/
theorem advanceTo_off (d : Dev) (t : Nat) (h : d.tbOn = false) : d.advanceTo t = d := by simp [advanceTo, h]

/-- A count that has been reached takes no time. -/
theorem advanceTo_past (d : Dev) (t : Nat) (h : t ≤ d.tb.tbc) : d.advanceTo t = d := by
  unfold advanceTo
  have : t - d.tb.tbc = 0 := by omega
  rw [this]
  split <;> rfl

end Sys2Proof.Machine.Dev
end

