-- ==== Sys2Proof/Tests/Slice0.lean ====
section
/-! SUPPORT. Tests: ill-formed commands that the check refuses, worked examples of the manual, and for each statement states and
operands that meet its hypotheses. -/

open Sys2Proof Sys2Proof.Machine Sys2Proof.Machine.Dev

namespace Sys2Proof.Tests

set_option Elab.async false
set_option maxRecDepth 100000

/-! ## Ill-formed commands are refused by the check -/

theorem test_two_writes_of_one_master_are_ill_formed : Instr.wellFormed (.registerWrite 0x30000 [⟨.host, 1, none⟩, ⟨.host, 2, none⟩]) = false := by decide
theorem test_empty_write_cycle_is_ill_formed : Instr.wellFormed (.registerWrite 0x30000 []) = false := by decide
theorem test_request_past_bar0_is_ill_formed : Instr.wellFormed (.bar0BadAccess false 0x1FFFFFC 2 15 []) = false := by decide
theorem test_unaligned_bit_write_is_ill_formed : Instr.wellFormed (.bitAliasWrite 2 1 .host) = false := by decide
theorem test_exchange_with_three_stamps_is_ill_formed : Instr.wellFormed (.timesyncExchangeStart [1, 2, 3]) = false := by decide
theorem test_crc_block_without_samples_is_ill_formed : Instr.wellFormed (.laneCrcMismatch 0 ⟨0, 1⟩ true) = false := by decide
theorem test_sample_of_no_converter_is_ill_formed : Instr.wellFormed (.inputSample 0 []) = false := by decide
theorem test_long_clock_change_is_ill_formed : Instr.wellFormed (.flumeClockChangeDone 3201) = false := by decide
theorem test_fetch_in_no_time_is_ill_formed : Instr.wellFormed (.cisternFetchDone 0 0) = false := by decide
theorem test_service_record_of_63_bytes_is_ill_formed : Instr.wellFormed (.hostRingPut 0 (List.replicate 63 0)) = false := by decide
theorem test_bar2_access_past_its_end_is_ill_formed : Instr.wellFormed (.bar2Access false 0x3FFFFFFFF 2 []) = false := by decide
theorem test_lock_read_by_nobody_is_ill_formed : Instr.wellFormed (.mbxLockRead 0 []) = false := by decide
theorem test_three_training_results_are_ill_formed : Instr.wellFormed (.ddrConfig [0, 0, 0]) = false := by decide
theorem test_wake_of_no_source_is_ill_formed : Instr.wellFormed (.wake []) = false := by decide
theorem test_fifteen_sensors_are_ill_formed : Instr.wellFormed (.thermalSample (List.replicate 15 0)) = false := by decide
theorem test_unit_failing_twice_is_ill_formed : Instr.wellFormed (.bootSramBist [(1, 5, 0), (1, 5, 3)] none) = false := by decide
theorem test_column_failing_twice_is_ill_formed : Instr.wellFormed (.bootFlumeSelfTest [(3, 0), (3, 1)]) = false := by decide
theorem test_core_failing_twice_is_ill_formed : Instr.wellFormed (.bootNcSelfTest [(3, 0), (3, 1)]) = false := by decide
theorem test_codeword_with_too_many_corrections_is_ill_formed :
    Instr.wellFormed (.codewordReceive 0 { cwseq := 0, kind := 0, ok := true, corrected := 16, ack := 0, nak := false, ackValid := false, credit := 0, packets := [] }) = false := by
  decide

/-! ## Words spell no command -/

theorem test_no_word_spells_a_command : decodeTableWord 16 5 = none := by decide
theorem test_a_word_leaves_the_queue : State.reset.withFetchWord 16 5 = State.reset := by decide

/-! ## Worked examples of the manual -/

/-- *Worked example: ties and saturation in one layer output*: codes and counts. -/
theorem test_cvt_to_w4 : [0x3D86BC00, 0xBDC26E00, 0x3EA00000, 0xBC4CCCCD].map (fun x => ((cvtLane x 0 9 0x3E80).1, (cvtLane x 0 9 0x3E80).2.1)) =
    [(2, 0), (0xC, 0), (7, 1), (0, 0)] := by decide +kernel

/-- R146: the W4 level integers. -/
theorem test_w4_levels : weirLevels 4 = [0, 0x0D20, 0x1A96, 0x28C8, 0x3847, 0x4A05, 0x5FFB, 0x8000] := by decide

/-- *Worked example: two groups closed into one accumulator*: 2,757 × 2^-11, then 7,625 × 2^-13 in FP32. -/
theorem test_two_closes : (accClose 0x36803F00 { g := -217792, f := (accClose 0x36003F00 { g := 1411584 }).f }).f = 0x3F6E4800 := by
  decide +kernel

/-- R163: the register after each of the first three steps from the seed. -/
theorem test_lfsr : (lfsrNext 0xACE1, lfsrNext 0x5670, lfsrNext 0xAB38) = (0x5670, 0xAB38, 0x559C) := by decide

/-- *Worked example: a lazy-leak update and a burst*. -/
def burstNeuron : Neu := { v := 12000, ath := 4000, tlast := 1000, tspike := 990, pset := 3, mlast := 1, head := false, elig := 0 }
def burstCore (burst subtract : Bool) : Dev :=
  let d : Dev := ({} : Dev).setReg (Reg.ncPset0 0 3) (20000 + 2 * 2 ^ 24)
  let d := d.setReg (Reg.ncPset1 0 3) (unsignedOf 24 (-100000) + 6 * 2 ^ 24 + b2n subtract * 2 ^ 28 + b2n burst * 2 ^ 29 + 2 ^ 30)
  (d.setReg (Reg.ncPset2 0 3) (500 + 4 * 2 ^ 16)).setNc 0
    { state := ⟨[(7, neuWord burstNeuron)]⟩, decay := ⟨[(3 * 256 + 37, 0x6581), (4 * 256 + 37, 0x2000)]⟩, acc := ⟨[(accKey 1037 7, 64576)]⟩ }
theorem test_burst_of_three : ((burstCore true true).fireOne 0 1037 7).neu 0 7 =
    { burstNeuron with v := 7833, ath := 2000, tlast := 1037, tspike := 1037, mlast := 3 } := by decide +kernel
theorem test_surplus_is_discarded_without_burst : (((burstCore false true).fireOne 0 1037 7).neu 0 7).v = 0 ∧
    (((burstCore false true).fireOne 0 1037 7).neu 0 7).ath = 1000 ∧ ((burstCore false true).fireOne 0 1037 7).rn (Reg.ncSaturate 0) = 1 := by
  decide +kernel
theorem test_contributions : [((90 : Int), 2, 256), (127, 7, 256), (-40, 1, 0x180)].map (fun x =>
    (burstCore true true).contribution 0 (2 ^ 61) ⟨0, 1037, x.2.1, x.2.2⟩ ⟨0, x.1, 7⟩) = [11520, 56896, -3840] := by decide +kernel

/-- *Worked example: an update, a prune and a sprout*. -/
def rowHeader (plastic : Bool) (len addr : Nat) : Nat := b2n plastic * (2 ^ 63 + 2 ^ 60 + 2 * 2 ^ 57) + len * 2 ^ 36 + addr
def words16 (v : Nat) : List Nat := (List.range 4).map (fun j => bits v (16 * j + 15) (16 * j))
def postNeuron (ts m : Nat) : Nat := neuWord ⟨0, 0, 0, ts, 0, m, false, 0⟩
def plasticCore : Dev :=
  let put (m : SMap Nat) (x : Nat × List Nat) : SMap Nat := x.2.zipIdx.foldl (fun m w => m.set 0 (x.1 + w.2) w.1) m
  let syn := [(1200, words16 (rowHeader true 8 4000)), (1204, words16 (rowHeader false 3 5000)),
    (4000, words16 (301 * 2 ^ 52 + 2 * 2 ^ 48 + 4988) ++ [0x8003, 0x2810, 0x0522, 0x80FF]), (5000, [0x8003, 0x0810, 0x083E])].foldl put ⟨[]⟩
  let d : Dev := ({} : Dev).setReg (Reg.lrnCtl 40 2) (2 ^ 31 + 2 ^ 29 + 2 ^ 27 + 2 ^ 26 + 4 * 2 ^ 16 + 100 * 256 + 0xC0)
  ((d.setReg (Reg.lrnStruct 40 2) (20 * 2 ^ 16 + 3 * 256)).setReg (Reg.ncMemCfg 40) 0xFF0000).setNc 40
    { openTick := 5000, enNow := 4, inJob := true, syn := syn,
      state := ⟨[(784, postNeuron 4994 1), (802, postNeuron 4985 2), (830, postNeuron 4999 1)]⟩,
      dt := ⟨[(518, 150), (523, 130), (2048 + 518, 120), (2048 + 527, 90)]⟩, peq := [⟨300, 5000, 1, 256⟩] }
def plasticAfter : Dev := [0, 1, 1, 1].foldl (fun d b => d.bankCycle 40 b) (plasticCore.plasticApply 40)
theorem test_update_prune_and_sprout : [5, 6, 7].map (rowWord (plasticAfter.nc 40) 300) = [0x2D10, 0x80FF, 0x083E] ∧
    plasticAfter.rn (Reg.lrnPrunes 40) = 1 := by decide +kernel
theorem test_prefix_after_an_event : [0, 3].map (rowWord (plasticAfter.nc 40) 300) = [5000, 301 * 16 + 1] := by decide +kernel

/-- *Worked example: where one line lives*. -/
theorem test_where_one_line_lives : (({} : Dev).setReg Reg.memDdrStat 0xF0).ddrIndex 0x12345600 = 2 ∧
    (({} : Dev).setReg Reg.memDdrStat 0xF0).ddrIndex 0x12345700 = 3 ∧ sliceOf (0x12345600 / 64) = 1 := by decide +kernel

/-- *Worked example: one rate-coded frame to a record*: the counts 3, 11, 11, 2. -/
theorem test_classify : classify [3, 11, 11, 2] = (1, 11, 11, 27) := by decide

/-- *Worked example: a wrap with a PAD*. -/
def ringThree : Dev :=
  let d : Dev := ({ bme := true } : Dev).setReg (Reg.hrSize 3) 256
  (((d.setReg (Reg.hrWr 3) 1278).setReg (Reg.hrRd 3) 1100).setReg (Reg.hrCtl 3) 3).setRing 3
    { put := [zeroBytes 10 ++ [5] ++ zeroBytes 47 ++ [4, 0] ++ zeroBytes 196, zeroBytes 10 ++ [1] ++ zeroBytes 53] }
theorem test_wrap_with_a_pad : (ringThree.ringProduce 3 []).rn (Reg.hrWr 3) = 1284 ∧
    ((ringThree.ringProduce 3 []).ringProduce 3 []).rn (Reg.hrWr 3) = 1285 ∧
    ((ringThree.ringProduce 3 []).ringProduce 3 []).rn (Reg.intVecCount 35) = 3 := by decide +kernel

/-- *Worked example: one scan*. -/
def posted (n op imm tag : Nat) (d : Dev) : Dev := (d.setReg (Reg.h2mData n) (tag * 2 ^ 23 + op * 2 ^ 16 + imm)).setFlag (Reg.h2mStatus n) 0 true
def oneScan : Dev :=
  let d : Dev := (({} : Dev).setFlag Reg.secBootStat 31 true).setFld Reg.vciStat 2 0 3
  (posted 2 0x13 0 40 (posted 5 0x20 7 41 (posted 9 0x14 0 42 (posted 12 0x21 7 43 d)))).scan
theorem test_one_scan : [2, 5, 9, 12].map (fun n => oneScan.rn (Reg.h2mAck n) % 0x10000) = [0x11, 0x11, 0, 0] ∧ oneScan.rn Reg.vciSuperseded = 2 := by
  decide +kernel

/-- *Worked example: one TIMESYNC exchange*: offset 451 and delay 2,171 fine units, which the registers show in halves. -/
def oneExchange : Dev :=
  let d : Dev := (({} : Dev).setReg Reg.tbCtl 0).setFlag (Reg.lkPortStat 0) 2 true
  d.setXch 0 { isOpen := true, xseq := 7, first := 1000000010 * 256 + 62, third := 1000000166 * 256 + 126 }
theorem test_one_exchange : (oneExchange.xchFollow 0 7 (1000000000 * 256) 44342).rn Reg.tbSyncOffset = 2 * 451 ∧
    (oneExchange.xchFollow 0 7 (1000000000 * 256) 44342).rn Reg.tbSyncDelay = 2 * 2171 := by decide +kernel

/-- *Worked example: one NC across four starts*. -/
def startOf (run full : Nat) (warm : Bool) (es : List JEntry) (failed : List TestFail) : Dev :=
  { ({} : Dev).setReg Reg.secRun run with sec := { journal := es, warm := warm, fullRun := full, failed := failed } }.applyUnits
theorem test_one_nc_across_four_starts : (startOf 40 40 false [] [⟨2, 111, 3, 9⟩]).sec.off = [(2, 111)] ∧
    (startOf 40 40 false [] [⟨2, 111, 3, 9⟩]).sec.journal = [⟨2, 3, 111, 40, 9⟩] ∧
    (startOf 41 40 true [⟨2, 3, 111, 40, 0⟩] []).sec.off = [(2, 111)] ∧ (startOf 42 42 false [⟨2, 3, 111, 40, 0⟩] []).sec.off = [] ∧
    (startOf 43 43 false [⟨2, 3, 111, 40, 0⟩, ⟨2, 4, 111, 42, 0⟩] []).sec.off = [(2, 111)] := by decide +kernel

/-- *Worked example: a burst that wakes the device*: the envelope from sample to sample. -/
def envelopeFrom (e : Nat) : Nat :=
  let d : Dev := ({} : Dev).setReg (Reg.senEnvCfg 0) 0xA301
  (({ d with sen := { env := ⟨[(0, e)]⟩, bq := ⟨[(0, ⟨0, 0, 40000, 0⟩)]⟩ } } : Dev).envelope 0).sen.env.get 0 0
theorem test_envelope_of_a_burst : [0, 1280000, 2400000, 3380000, 4237500, 4987812].map envelopeFrom =
    [1280000, 2400000, 3380000, 4237500, 4987812, 5644335] := by decide +kernel

/-- R491: IDCODE in the WD4 and in the WD4-C2. -/
theorem test_idcode : ({} : Dev).idcode = 0x10D40B2F ∧ ({} : Dev).config .subsystem = 0xA001 ∧
    (({ fuses := { ident := 0x0D421F4C } } : Dev).latchFuses).idcode = 0x10D42B2F := by decide +kernel

/-- R470: in END the global and security blocks answer, and the rest of BAR0 reads 0. -/
theorem test_end_hides : let d : Dev := ({ fuses := { lc := 5 } } : Dev).latchFuses
    (d.barRead .host 0).2 = 0x0D401F4C ∧ (d.barRead .host Reg.pwrTlim).2 = 0 ∧ (({} : Dev).barRead .host Reg.pwrTlim).2 = 0x6E5F64 := by
  decide +kernel

/-- SHA-256 and HMAC-SHA-256 of FIPS 180-4 and RFC 4231: the message abc, and test case 2. -/
theorem test_sha256 : (sha256 [0x61, 0x62, 0x63]).take 4 = [0xBA, 0x78, 0x16, 0xBF] := by decide +kernel

/-! ## States and operands that meet the hypotheses of each statement -/

theorem witness_SlotsKeepToTheArray (x : Slot) : Instr.send x ∈ [Instr.nop x, .idle x, .loop x, .halt x, .endSlot x, .mov x, .movi x, .add x, .sub x,
      .logicAnd x, .logicOr x, .logicXor x, .logicAndnot x, .shiftLsl x, .shiftLsr x, .shiftAsr x, .shiftRor x, .vadd x,
      .vmul x, .vmax x, .vmin x, .actRelu x, .actClamp x, .actClampPos x, .pwlLoad x, .pwlEval x, .mag x, .log2 x, .scale x,
      .cvt x, .ld x, .st x, .mac x, .macq x, .gq x, .accrdFp32 x, .accrdBf16 x, .accrdInt32 x, .accclr x, .sailcfg x,
      .sailin x, .sailout x, .send x] := by simp
theorem witness_IdleStepLetsTimePass : State.reset.pending = [] := by decide
theorem witness_StepKeepsTheQueueWellFormed : State.reset.queueOk = true ∧ ∃ t, step State.reset = .next t := ⟨by decide, ⟨_, rfl⟩⟩
theorem witness_StepKeepsTheCanonicalForm : State.reset.dev.sound = true ∧ ∃ t, step State.reset = .next t := ⟨by decide, ⟨_, rfl⟩⟩
theorem witness_FusesStayAndTheSecurityVersionNeverFalls : ∃ t, step State.reset = .next t := ⟨_, rfl⟩
theorem witness_ClassOfAFinalWindow_1 : let counts := [2, 5, 5]
    5 ∈ counts ∧ (5 : Nat) ≠ 0 ∧ 0 < counts.length ∧ 0 < (classify counts).1 ∧ 2 < counts.length ∧ 2 ≠ (classify counts).1 := by
  decide

/-- Register contents that stand for no particular run. -/
def rnd (k : Nat) : Nat := (k * 6364136223846793005 + 1442695040888963407) % 2 ^ 64 / 2 ^ 31
def dirtyRegs (seed : Nat) (as : List Nat) (d : Dev) : Dev := as.foldl (fun d a => d.setReg a (rnd (seed * 7919 + a * 104729 + 17))) d
def mk (d : Dev) : State := { dev := d, pending := [] }
def running : Dev := { (({} : Dev).setReg Reg.secBootStat 11) with tb := { tbc := 1000, running := true }, pwr := { link := .l0 } }
def redund : List Nat := []

namespace W10

def d1 := dirtyRegs 1 ([Reg.tbLoadHi, Reg.tbLoadLo, Reg.tbcmpHi 1]) running
def d2 := dirtyRegs 2 ([Reg.tbLoadHi, Reg.tbLoadLo, Reg.tbcmpHi 1]) running
def d3 := dirtyRegs 3 ([Reg.tbLoadHi, Reg.tbLoadLo, Reg.tbcmpHi 1]) { running with tb := { running.tb with loadPend := some 4096 } }
def refs : List Dev := (List.range 4).flatMap fun r => (List.range 5).map fun st => ((running.setReg Reg.tbCtl (r+4)).setReg Reg.tbStat (st + 8 + 16 + 32))
def states : List State := ([d1,d2,d3,running, {}] ++ refs ++ refs.map (fun d => d.setFlag Reg.tbStat 6 true)).map mk

theorem witness_CaptureCopiesTheCount :
    ((fun (s : State) => s.dev.fenced Reg.tbCap = false) (states.getD 0 State.reset)) := by decide +kernel

theorem witness_LoadTakesEffectAtThePpsEdge :
    ((fun (s : State) => s.dev.fenced Reg.tbLoad = false ∧ s.dev.tbJob = false) (states.getD 0 State.reset)) ∧
    ((fun (s : State) => s.dev.fenced Reg.tbLoad = false ∧ s.dev.tbJob = true) (states.getD 25 State.reset)) ∧
    ((fun (s : State) (v : Nat) => s.dev.tbOn = true ∧ s.dev.tb.loadPend = some v ∧ v < 2 ^ 64 - 6) (states.getD 2 State.reset) (4096)) ∧
    ((fun (s : State) => s.dev.tbOn = true ∧ s.dev.tb.loadPend = none) (states.getD 0 State.reset)) := by decide +kernel

theorem witness_TimebaseStates :
    ((fun (s : State) => s.dev.fenced Reg.tbCtl = false ∧ s.dev.tbJob = false) (states.getD 0 State.reset)) ∧
    ((fun (s : State) => s.dev.fenced Reg.tbCtl = false ∧ s.dev.tbJob = true) (states.getD 25 State.reset)) ∧
    ((fun (s : State) => s.dev.sourcePresent = true) (states.getD 10 State.reset)) ∧
    ((fun (s : State) => s.dev.sourcePresent = false) (states.getD 0 State.reset)) := by decide +kernel

end W10

namespace W11

def up (d : Dev) : Dev := (List.range 4).foldl (fun d p => (d.setFlag (Reg.lkPortStat p) 2 true).setFlag Reg.lkStat p true) d
def d1 := up (dirtyRegs 1 ([Reg.tbLoadHi, Reg.tbLoadLo, Reg.tbcmpHi 1]) running)
def d2 := up (dirtyRegs 2 ([Reg.tbLoadHi, Reg.tbLoadLo, Reg.tbcmpHi 1]) running)
def opens (d : Dev) (x f : Nat) : Dev := (List.range 4).foldl (fun d p => d.setXch p { isOpen := true, xseq := x, first := 256*900+3, third := 256*950+7 }) { d with tb := { d.tb with syncFails := f } }
def refs : List Dev := (List.range 4).flatMap fun r => (List.range 5).map fun st => ((running.setReg Reg.tbCtl (r+4)).setReg Reg.tbStat (st + 8 + 16 + 32))
def ts (d : Dev) (v : Nat) : Dev := (d.setReg Reg.lkTsync v).setReg Reg.lkStat 15
def pool1 : List Dev := [d1, d2, running] ++ refs
def pool2 : List Dev := pool1.flatMap fun d => [d, opens (up (ts d 0x0)) 7 1, opens (up (ts d 0xF)) 7 2, opens (up (ts d 0x8000000F)) 0 2, opens (up (ts d 0x10000)) 255 2]
def sysD (d : Dev) (mode : Nat) (x : Sysref) : Dev := (List.range 8).foldl (fun d n => ((((d.setReg (Reg.sysCtl n) (mode + 0x500)).setReg (Reg.sysPeriod n) 64).setReg (Reg.sysPhase n) 5).setReg (Reg.sysGap n) (3 + 2*65536)).setSys n x) d
def pool3 : List Dev := [d1,d2,running].flatMap fun d => (List.range 4).flatMap fun m => [sysD d m {}, sysD d m { next := some 1029, gapPos := 3 }, sysD d m { next := some 1029, gapPos := 1 }, sysD d m {pulseEnd := some 4096}, sysD d m {pulseEnd := some 1029, shot := true}, sysD d m { held := some 1029 }, (sysD d m {}).setSys 0 { held := some 1029 }, { (sysD d m { next := some 1029 }) with regs := ((sysD d m {}).setReg (Reg.sysCtl 0) m).regs }, sysD d m { next := some 4096, gapPos := 3 }]
def pool4 : List Dev := [d1,d2,running].flatMap fun d => [d.setReg Reg.tbPpso (2^15*3+10*2+1), {d with tb := {d.tb with ppsFall := some 4096}}, ({ d with tb := {d.tb with cmp := ⟨[(0,5),(1,5000),(3,5001)]⟩}}.setReg (Reg.tbcmpStat 1) 1).setReg (Reg.tbcmpCtl 1) 0xFFFFFF01]
def pool5 : List Dev := [d1,running].flatMap fun d => [({ d with tb := {d.tb with clkRise := 998, clkDiv := 5, ppsFall := some 1029, cmp := ⟨[(0,1001),(1,1001),(3,1100)]⟩}}.setReg (Reg.tbcmpStat 1) 1).setReg (Reg.tbcmpStat 0) 1 |>.setReg (Reg.tbcmpStat 3) 1, ({ d with tb := {d.tb with clkRise := 0, clkDiv := 4096, ppsFall := some 1029}}.setReg Reg.tbPpso 20)]
def pool6 : List Dev := [{ running with tb := { tbc := 900 } }]
def states : List State := (pool6 ++ pool5 ++ pool2 ++ pool3 ++ pool4).map mk

theorem witness_TimesyncExchange :
    ((fun (s : State) (p : Fin 4) => ↑p ∈ s.dev.syncChildren) (states.getD 7 State.reset) (0)) ∧
    ((fun (s : State) (p : Fin 4) => s.dev.fromParent ↑p = true) (states.getD 1 State.reset) (0)) ∧
    ((fun (s : State) (p : Fin 4) => s.dev.fromParent ↑p = false) (states.getD 0 State.reset) (0)) ∧
    ((fun (s : State) (p : Fin 4) (x : BitVec 8) => ↑p ∈ s.dev.syncChildren ∧ (s.dev.xch ↑p).isOpen = true ∧ (s.dev.xch ↑p).xseq = x.toNat) (states.getD 7 State.reset) (0) (0x07#8)) ∧
    ((fun (s : State) (p : Fin 4) (x : BitVec 8) => s.dev.fromParent ↑p = true ∧ (s.dev.xch ↑p).isOpen = true ∧ (s.dev.xch ↑p).xseq = x.toNat) (states.getD 6 State.reset) (0) (0x07#8)) ∧
    ((fun (s : State) (p : Fin 4) => s.dev.flag Reg.lkTsync 31 = false ∧ s.dev.syncPort = ↑p ∧ s.dev.tb.syncFails + 1 < 3) (states.getD 0 State.reset) (0)) ∧
    ((fun (s : State) (p : Fin 4) => s.dev.flag Reg.lkTsync 31 = false ∧ s.dev.syncPort = ↑p ∧ 2 ≤ s.dev.tb.syncFails) (states.getD 7 State.reset) (0)) := by decide +kernel

theorem witness_SysrefChannels :
    ((fun (s : State) (n : Fin 8) (v : Word) => s.dev.fenced (Reg.sysCtl ↑n) = false ∧ bit (BitVec.toNat v) 31 = false) (states.getD 0 State.reset) (0) (0x0000003c#32)) ∧
    ((fun (s : State) (n : Fin 8) => s.dev.fenced (Reg.sysCtl ↑n) = false ∧ s.dev.sysMode ↑n = 3 ∧ (s.dev.sys ↑n).next = none ∧ ((s.dev.sys ↑n).shot = false ∨ (s.dev.sys ↑n).pulseEnd = none)) (states.getD 147 State.reset) (0)) ∧
    ((fun (s : State) (n : Fin 8) => s.dev.fenced (Reg.sysCtl ↑n) = false ∧ (s.dev.sysMode ↑n ≠ 3 ∨ (s.dev.sys ↑n).next ≠ none ∨ (s.dev.sys ↑n).shot = true ∧ (s.dev.sys ↑n).pulseEnd ≠ none)) (states.getD 0 State.reset) (0)) ∧
    ((fun (s : State) (n : Fin 8) (g : Nat) => s.dev.tbOn = true ∧ (s.dev.sys ↑n).next = some g ∧ s.dev.tb.tbc < g ∧ s.dev.sysMode ↑n ≠ 2) (states.getD 121 State.reset) (0) (1029)) ∧
    ((fun (s : State) (n : Fin 8) (t : Nat) => s.dev.tbOn = true ∧ (s.dev.sys ↑n).pulseEnd = some t ∧ s.dev.tb.tbc < t) (states.getD 123 State.reset) (0) (4096)) ∧
    ((fun (s : State) => s.dev.tbOn = false) (states.getD 0 State.reset)) := by decide +kernel

theorem witness_SysrefGridPoints :
    ((fun (d : Dev) (n t : Nat) => (d.sys n).pulseEnd = some t ∧ (d.sys n).next ≠ some t ∧ (d.sys n).held ≠ some t) (states.getD 123 State.reset).dev (0) (4096)) ∧
    ((fun (d : Dev) (n t : Nat) => (d.sys n).pulseEnd = some t ∧ (d.sys n).next ≠ some t ∧ (d.sys n).held ≠ some t ∧ n < 8 ∧ (d.sys n).shot = true) (states.getD 124 State.reset).dev (0) (1029)) ∧
    ((fun (d : Dev) (n t : Nat) => n < 8 ∧ d.sysMode n ≠ 2 ∧ (d.sys n).next = some t ∧ (d.sys n).pulseEnd ≠ some t ∧ (d.sys n).held ≠ some t) (states.getD 121 State.reset).dev (0) (1029)) ∧
    ((fun (d : Dev) (n t : Nat) => n < 8 ∧ d.sysMode n ≠ 2 ∧ (d.sys n).next = some t ∧ (d.sys n).pulseEnd ≠ some t ∧ (d.sys n).held ≠ some t ∧ d.fld (Reg.sysCtl n) 15 8 ≠ 0) (states.getD 121 State.reset).dev (0) (1029)) ∧
    ((fun (d : Dev) (n t : Nat) => n < 8 ∧ d.sysMode n ≠ 2 ∧ (d.sys n).next = some t ∧ (d.sys n).pulseEnd ≠ some t ∧ (d.sys n).held ≠ some t ∧ d.fld (Reg.sysCtl n) 15 8 = 0) (states.getD 127 State.reset).dev (0) (1029)) := by decide +kernel

theorem witness_SysrefGridPoints_1 :
    ((fun (d : Dev) (n t : Nat) => n < 8 ∧ d.sysMode n ≠ 2 ∧ (d.sys n).next = some t ∧ (d.sys n).pulseEnd ≠ some t ∧ (d.sys n).held ≠ some t ∧ d.fld (Reg.sysCtl n) 15 8 = 0 ∧ d.sysMode n = 3) (states.getD 154 State.reset).dev (0) (1029)) ∧
    ((fun (d : Dev) (n t : Nat) => n < 8 ∧ d.sysMode n = 2 ∧ (d.sys n).next = some t ∧ (d.sys n).pulseEnd ≠ some t ∧ (d.sys n).held ≠ some t ∧ max 1 (d.fld (Reg.sysGap n) 7 0) ≤ (d.sys n).gapPos) (states.getD 139 State.reset).dev (0) (1029)) ∧
    ((fun (d : Dev) (n t : Nat) => (d.sys n).next ≠ some t ∧ (d.sys n).pulseEnd ≠ some t ∧ (d.sys n).held ≠ some t) (states.getD 0 State.reset).dev (0) (0)) ∧
    ((fun (d : Dev) (n t : Nat) => n < 8 ∧ (d.sys n).held = some t ∧ (d.sys n).next ≠ some t ∧ (d.sys n).pulseEnd ≠ some t) (states.getD 125 State.reset).dev (0) (1029)) ∧
    ((fun (d : Dev) (n t : Nat) => n < 8 ∧ (d.sys n).held = some t ∧ (d.sys n).next ≠ some t ∧ (d.sys n).pulseEnd ≠ some t ∧ ∀ (m : Nat), m < 8 → m ≠ n → (d.sys m).held = none) (states.getD 126 State.reset).dev (0) (1029)) := by decide +kernel

theorem witness_SysrefGridPoints_2 :
    ((fun (d : Dev) (n t g : Nat) => d.gridAt n t = some g) (states.getD 0 State.reset).dev (0) (0) (0)) := by decide +kernel

theorem witness_ClockOutputs :
    ((fun (s : State) => s.dev.flag Reg.tbPpso 0 = true ∧ s.dev.tbOn = true) (states.getD 228 State.reset)) ∧
    ((fun (s : State) (t : Nat) => s.dev.tb.ppsFall = some t ∧ s.dev.tbOn = true ∧ s.dev.tb.tbc < t) (states.getD 1 State.reset) (1029)) ∧
    ((fun (s : State) => s.dev.fenced Reg.tbClko = false) (states.getD 0 State.reset)) ∧
    ((fun (d : Dev) (t : Nat) => d.tb.ppsFall = some t ∧ d.flag Reg.tbPpso 0 = false) (states.getD 1 State.reset).dev (1029)) ∧
    ((fun (d : Dev) (t : Nat) => d.tb.clkRise ≤ t ∧ t < d.tb.clkRise + max 1 d.tb.clkDiv) (states.getD 0 State.reset).dev (0)) := by decide +kernel

theorem witness_CompareUnits :
    ((fun (s : State) (n : Fin 4) => s.dev.fenced (Reg.tbcmpLo ↑n) = false) (states.getD 0 State.reset) (0)) ∧
    ((fun (s : State) (n : Fin 4) => s.dev.tbOn = true ∧ s.dev.flag (Reg.tbcmpStat ↑n) 0 = true ∧ s.dev.tb.tbc < s.dev.cmpValue ↑n) (states.getD 1 State.reset) (0)) ∧
    ((fun (s : State) (n : Fin 4) => s.dev.flag (Reg.tbcmpStat ↑n) 0 = false ∨ s.dev.cmpValue ↑n ≤ s.dev.tb.tbc) (states.getD 0 State.reset) (0)) ∧
    ((fun (d : Dev) (n : Fin 4) => d.cmpArmed ↑n = true ∧ d.cmpValue ↑n = d.tb.tbc + 1) (states.getD 1 State.reset).dev (0)) ∧
    ((fun (d : Dev) (n : Fin 4) => d.cmpArmed ↑n = true ∧ d.cmpValue ↑n ≠ d.tb.tbc + 1) (states.getD 1 State.reset).dev (3)) := by decide +kernel

end W11

namespace W12

def gts (d : Dev) (f : Nat → Gt) : Dev := (List.range 16).foldl (fun d n => d.setGt n (f n)) d
def ctl (d : Dev) (f : Nat → Nat) : Dev := (List.range 16).foldl (fun d n => d.setReg (Reg.gtCtl n) (f n)) d
def d1 := dirtyRegs 1 ([Reg.tbLoadHi, Reg.tbLoadLo, Reg.tbcmpHi 1]) running
def d2 := dirtyRegs 2 ([Reg.tbLoadHi, Reg.tbLoadLo, Reg.tbcmpHi 1]) running
def one (d : Dev) (k c : Nat) : Dev := (List.range 4).foldl (fun d m => d.setFlag (Reg.tbcmpStat m) 0 false) ((ctl d (fun n => if n = k then c else 0)).setReg (Reg.gtAct k) 0x2020)
def pool : List Dev := [d1, d2, running, ctl d1 (fun n => 0x101 + n % 3 * 256)]
def ones : List Dev := [(0,0x101),(15,0x301),(0,0x203),(1,0x401),(0,0x503),(15,0x601),(15,0x101)].map (fun x => one d1 x.1 x.2) ++ [one d2 0 0x101, one (d2.setReg (Reg.gtCnt 0) 0xFFFFFFF0) 0 0x101]
def states : List State := (pool ++ ones ++ pool.map (fun d => gts d (fun n => { heldCnt := if n%4=0 then some 9 else none, heldCmp := some 3 })) ++
   [0,15].flatMap (fun k => (pool ++ ones).map (fun d => gts d (fun n => if n = k then { pendCnt := some 4096, rst := true } else {})))
  ++ ones.map (fun d => gts d (fun n => { rst := true }))).map mk

theorem witness_TimerRegisterWrites :
    ((fun (s : State) (n : Fin 16) => s.dev.fenced (Reg.gtCnt ↑n) = false ∧ s.dev.gtOwner ↑n = ↑n) (states.getD 0 State.reset) (0)) ∧
    ((fun (s : State) (n : Fin 16) => s.dev.fenced (Reg.gtCnt ↑n) = false ∧ s.dev.gtOwner ↑n ≠ ↑n) (states.getD 6 State.reset) (1)) ∧
    ((fun (s : State) (n : Fin 16) => s.dev.fenced (Reg.gtCmp ↑n) = false ∧ s.dev.gtOwner ↑n = ↑n) (states.getD 0 State.reset) (0)) ∧
    ((fun (s : State) (n : Fin 16) => s.dev.fenced (Reg.gtCmp ↑n) = false ∧ s.dev.gtOwner ↑n ≠ ↑n) (states.getD 6 State.reset) (1)) ∧
    ((fun (s : State) (n : Fin 16) => s.dev.fenced (Reg.gtCtl ↑n) = false) (states.getD 0 State.reset) (0)) := by decide +kernel

theorem witness_TimerEvents :
    ((fun (s : State) (n : Fin 16) (v : Nat) => s.dev.gtOwner ↑n = ↑n ∧ s.dev.gtClocked ↑n = true ∧ (s.dev.gt ↑n).pendCnt = some v ∧ v < 2 ^ s.dev.gtBits ↑n ∧ s.dev.onlyTimer ↑n = true) (states.getD 21 State.reset) (0) (4096)) ∧
    ((fun (s : State) (n : Fin 16) => s.dev.gtOwner ↑n = ↑n ∧ (s.dev.gtWaiting ↑n = false ∨ s.dev.gtClocked ↑n = false)) (states.getD 0 State.reset) (0)) ∧
    ((fun (s : State) (n : Fin 16) => s.dev.gtOwner ↑n = ↑n ∧ s.dev.gtCounting ↑n = true ∧ s.dev.gtClocked ↑n = true ∧ s.dev.gtWaiting ↑n = false ∧ s.dev.onlyTimer ↑n = true ∧ s.dev.fld (Reg.gtAct ↑n) 12 8 = 0 ∧ s.dev.inSentinel = false) (states.getD 4 State.reset) (0)) ∧
    ((fun (s : State) (n : Fin 16) => s.dev.gtOwner ↑n = ↑n ∧ s.dev.gtCounting ↑n = true ∧ s.dev.gtClocked ↑n = true ∧ s.dev.gtWaiting ↑n = false ∧ s.dev.onlyTimer ↑n = true ∧ s.dev.fld (Reg.gtAct ↑n) 4 0 = 0 ∧ s.dev.inSentinel = false) (states.getD 4 State.reset) (0)) ∧
    ((fun (s : State) (n : Fin 16) => s.dev.gtOwner ↑n ≠ ↑n ∨ s.dev.gtCounting ↑n = false ∨ s.dev.gtClocked ↑n = false) (states.getD 0 State.reset) (0)) := by decide +kernel

theorem witness_TimerSteps :
    ((fun (d : Dev) (o : Fin 16) => d.gtOwner ↑o = ↑o ∧ d.gtCounting ↑o = true ∧ d.gt ↑o = { }) (states.getD 3 State.reset).dev (0)) ∧
    ((fun (d : Dev) (o : Fin 16) => d.gtOwner ↑o = ↑o ∧ d.gtCounting ↑o = true ∧ d.gt ↑o = { rst := true }) (states.getD 43 State.reset).dev (0)) ∧
    ((fun (d : Dev) (o : Fin 16) (v : Nat) => d.gtOwner ↑o = ↑o ∧ (d.gt ↑o).pendCnt = some v ∧ v < 2 ^ d.gtBits ↑o) (states.getD 17 State.reset).dev (0) (4096)) ∧
    ((fun (d : Dev) (o : Fin 16) => d.gtCounting ↑o = false ∧ d.gt ↑o = { }) (states.getD 0 State.reset).dev (0)) := by decide +kernel

end W12

namespace W13

def lk (d : Dev) (en up : Bool) (locks : Nat) (lemc : Option Nat) : Dev :=
  let d := (List.range 2).foldl (fun d m => (d.setReg (Reg.intkLaneCfg m) (0x80 + m)).setReg (Reg.intkLaneStat m) locks) d
  let d := (d.setReg (Reg.intkLinkCfg 0) (1 + 1*256 + 2*16384)).setReg (Reg.intkLinkCtl 0) ((2640 * 2^20) + b2n en)
  let d := (d.setReg (Reg.intkLinkStat 0) (b2n en + 2 * b2n up)).setReg (Reg.intkLinkSper 0) 0x40000
  d.setLink 0 { lemc := lemc, crcLeft := ⟨[(0,3),(2,1)]⟩, j := 9 }
def st (d : Dev) (x : Strm) : Dev := [0,1,63].foldl (fun d n =>
   let d := ((((d.setReg (Reg.intkStrStat n) 1).setReg (Reg.intkStrSrc n) (0x100 + 0x10)).setReg (Reg.intkStrFrame n) (1 + 65536)).setReg (Reg.intkStrBufCfg n) 4).setReg (Reg.intkStrBufLo n) (0x10000 * n)
   let d := (d.setReg (Reg.intkStrFtwHi n) 0x8001)
   d.setStrm n x) d
def pond (d : Dev) : Dev := (List.range 4).foldl (fun d j => d.setReg (Reg.pondState j) 0xFFFFFFFF) d
def d1 := dirtyRegs 1 ([Reg.intkLaneSherr 0, Reg.intkLinkRealigns 0, Reg.intkLinkEbErr 0, Reg.intkLaneCrcerr 1, Reg.intkLinkCrcBlocks 0, Reg.intkStrFrames 0, Reg.intkStrDropped 63, Reg.intkStrFtwHi 1, Reg.intkLinkLatExp 0, Reg.intkLinkAdcLat 0, Reg.intkStrBufHi 63, Reg.intkStrDec 0, Reg.intkStrCtl 1]) running
def bases : List Dev := [pond d1, pond running]
def strs : List Strm := [{}, { nextFrame := 3, outIx := 192, ftw := 77, acc := 2^47 }, { nextFrame := 3, outIx := 192, busy := [0,1,2,3], ftwPend := some 5 }, {nextFrame := 4, outIx := 256, busy := [1], nextSlot := 1, filling := [⟨3, 1, 64, 12345, 1, 2, false⟩]}, { nextFrame := 4, outIx := 250, closing := true, filling := [⟨3, 1, 20, 12345, 1, 2, false⟩]}]
def pool : List Dev := bases.flatMap fun d => [lk d false false 0 none, lk d true false 0 none, lk d true false 1 none, lk d true false 3 (some 500), lk d true true 3 (some 500)].flatMap fun d => strs.map (fun x => st d x)
def oneLock : Dev := (lk running true false 3 none).setReg (Reg.intkLaneStat 1) 1
def states : List State := (bases ++ [oneLock, oneLock.setReg (Reg.intkLaneStat 1) 0, oneLock.setFld Reg.pwrStat 18 16 1] ++ pool).map mk

theorem witness_LinkBringUp :
    ((fun (s : State) (n : Fin 6) (v : Word) => s.dev.fenced (Reg.intkLinkCtl ↑n) = false ∧ s.dev.linkEn ↑n = false ∧ bit (BitVec.toNat v) 0 = true) (states.getD 0 State.reset) (0) (0x00000001#32)) ∧
    ((fun (s : State) (n : Fin 6) (v : Word) => s.dev.fenced (Reg.intkLinkCtl ↑n) = false ∧ s.dev.linkEn ↑n = true ∧ bit (BitVec.toNat v) 0 = false) (states.getD 2 State.reset) (0) (0x00000000#32)) ∧
    ((fun (s : State) (m : Fin 24) (n : Nat) => s.dev.laneLink ↑m = some n ∧ s.dev.linkEn n = true ∧ s.dev.flag (Reg.intkLinkStat n) 3 = false ∧ s.dev.clocksOn = true) (states.getD 2 State.reset) (0) (0)) ∧
    ((fun (s : State) (m : Fin 24) (n : Nat) => s.dev.laneLink ↑m = some n ∧ s.dev.linkEn n = true ∧ s.dev.flag (Reg.intkLinkStat n) 3 = false ∧ s.dev.flag (Reg.intkLaneStat ↑m) 0 = true ∧ s.dev.clocksOn = true) (states.getD 2 State.reset) (0) (0)) ∧
    ((fun (s : State) (n : Fin 6) => s.dev.linkEn ↑n = true ∧ s.dev.linkUp ↑n = false ∧ (s.dev.link ↑n).lemc ≠ none ∧ s.dev.clocksOn = true) (states.getD 20 State.reset) (0)) := by decide +kernel

theorem witness_LinkLoss :
    ((fun (s : State) (m : Fin 24) (n : Nat) => s.dev.laneLink ↑m = some n ∧ s.dev.linkEn n = true ∧ s.dev.linkUp n = true ∧ s.dev.clocksOn = true) (states.getD 25 State.reset) (0) (0)) ∧
    ((fun (s : State) (m : Fin 24) (n : Nat) => s.dev.laneLink ↑m = some n ∧ s.dev.linkUp n = true ∧ s.dev.clocksOn = true) (states.getD 25 State.reset) (0) (0)) ∧
    ((fun (s : State) => s.dev.clocksOn = false) (states.getD 4 State.reset)) := by decide +kernel

theorem witness_StreamSamples :
    ((fun (s : State) (n : Fin 6) => s.dev.linkUp ↑n = true ∧ s.dev.clocksOn = true) (states.getD 25 State.reset) (0)) ∧
    ((fun (s : State) (n : Fin 64) => s.dev.fenced (Reg.intkStrCtl ↑n) = false) (states.getD 0 State.reset) (0)) ∧
    ((fun (s : State) (n : Fin 64) => s.dev.fenced (Reg.intkStrFtwLo ↑n) = false) (states.getD 0 State.reset) (0)) := by decide +kernel

theorem witness_StreamFrames :
    ((fun (s : State) (n : Fin 64) (k : Nat) => s.dev.strOpen ↑n = true ∧ (s.dev.strm ↑n).closing = false ∧ (s.dev.strm ↑n).gather = false ∧ s.dev.flag (Reg.intkStrStat ↑n) 2 = false ∧ (s.dev.strm ↑n).resume = none ∧ s.dev.atHop (↑n) (s.dev.strm ↑n) = true ∧ s.dev.held unitIntake = false ∧ s.dev.pickSlot ↑n = some k ∧ (s.dev.strm ↑n).outq = [] ∧ s.dev.clocksOn = true) (states.getD 5 State.reset) (0) (0)) ∧
    ((fun (s : State) (n : Fin 64) => s.dev.strOpen ↑n = true ∧ (s.dev.strm ↑n).closing = false ∧ (s.dev.strm ↑n).gather = false ∧ s.dev.flag (Reg.intkStrStat ↑n) 2 = false ∧ (s.dev.strm ↑n).resume = none ∧ s.dev.atHop (↑n) (s.dev.strm ↑n) = true ∧ s.dev.pickSlot ↑n = none ∧ (s.dev.strm ↑n).outq = [] ∧ s.dev.clocksOn = true) (states.getD 7 State.reset) (0)) ∧
    ((fun (s : State) (n : Fin 64) (f : Filling) => List.find? (fun (f : Filling) => decide (s.dev.frameLen ↑n ≤ f.count)) (s.dev.strm ↑n).filling = some f ∧ s.dev.lineBad (s.dev.slotAddr (↑n) f.slot) = false ∧ s.dev.slotAddr (↑n) f.slot + 64 ≤ hostBase ∧ s.dev.clocksOn = true) (states.getD 8 State.reset) (0) ({ frame := 3, slot := 1, count := 64, stamp := 12345, flags := 1, sats := 2, memErr := false })) := by decide +kernel

end W13

namespace W14

def fl (d : Dev) (recs : List AdmitRec) (c : Cell) : Dev :=
  let d := (d.setReg Reg.flmStat (2 + 0xF000)).setReg Reg.flmII 400
  let d := d.setReg Reg.flmL 800
  { d with flume := { d.flume with ecc := 50, recs := recs, d := 2, lastAdmit := some 40, cells := ⟨[(0, c), (3*96+5, c)]⟩ } }
def fr1 : AdmitRec := { kind := .frame, fr := {stream := 3, frame := 9}, e0 := 40, ovr := false }
def cA : Cell := { regs := ⟨[(0, 0x8000000000000005), (1, 70), (9, 0xFFF), (10, 5), (15, 2^63)]⟩, chans := ⟨[(0,[11,12]),(3,[2^64-1])]⟩, sram := ⟨[(0,77),(1,78),(2,79),(3,80),(5,99),(1030,123)]⟩, aluRes := 0x3F8040003F804000, macRes := 0x4000000040000000, sailRes := 17, mainAt := 50, sched := ⟨[]⟩ }
def cB : Cell := { cA with hand := true, mainAt := 55, handAt := 52, banks := 1, useAt := 55, accF := ⟨[(0,0x3F800000),(1,0x40000000),(31,0x7F800000)]⟩, accG := ⟨[(0,-5),(3,77)]⟩, pend := [⟨53, 51, false, .reg 0, 123456⟩], sailIn := List.replicate 30 5, sailFmt := 1, lfsr := 0xACE1, sailNext := [1,2,3,4,5,6,7,8], sailAt := 52, loops := [⟨1, 1, 3⟩] }
def cC : Cell := { cA with queue := [(54,3),(53,2),(54,1)], binds := ⟨[(2, 0x8011)]⟩ }
def modes (op : Nat) : List Nat :=
  if op = 9 ∨ op = 10 then [0, 1, 2, 3] else if op = 15 then [0, 0x4000, 0x8000] else if op = 16 then [0, 0x8000]
  else if op = 26 then [0, 0x40000, 0x80000] else [0]
def mask (op : Nat) : Nat := if op = 9 ∨ op = 10 then 0xFFFFC else if op = 15 then 0xF3FFF else if op = 16 then 0xF7FFF else if op = 26 then 0x3FFFF else 0xFFFFF
/-- a word: row, column, handler, word -/
def word (op stage sa sb rd am rb addr func : Nat) : Nat :=
  op * 2^59 + stage * 2^55 + sa * 2^48 + sb * 2^41 + rd * 2^37 + am * 2^35 + rb * 2^32 + addr * 2^20 + func
def forms : List (Nat → Nat → Nat × Nat × Nat) :=
  [fun op m => (0, 0, word op 0 16 17 2 0 0 5 (0x12345 &&& mask op ||| m)), fun op m => (0, 0, word op 0 0x20 0x20 9 2 1 1 (0xF0003 &&& mask op ||| m)),
   fun op m => (0, 0, word op 1 0x30 0x30 9 2 1 1024 (0xFFFFF &&& mask op ||| m)), fun op m => (0, 0, word op 0 0x40 0x60 3 1 2 0 (0x10801 &&& mask op ||| m)),
   fun op m => (0, 0, word op 0 0x30 0x11 0 0 0 0 (0x00021 &&& mask op ||| m)), fun op m => (0, 0, word op 0 0x50 0x7F 1 2 0 6 (0x58000 &&& mask op ||| m)),
   fun op m => (3, 5, word op 0 31 16 0 0 0 5 (0x80001 &&& mask op ||| m))]
def cells : List Cell := [cA]
def pairs : List (State × Slot) := (List.range 32).flatMap fun op => (modes op).flatMap fun m => (forms.take 1).flatMap fun f => cells.flatMap fun c =>
  let w := f op m
  [false, true].map fun h => (mk (fl running [fr1, fr1] (if h then { c with sched := ⟨[(0x11, w.2.2)]⟩, hand := true, handSlot := 0x11, handAt := 51 } else { c with sched := ⟨[(0, w.2.2)]⟩ })),
    wordSlot (Fin.ofNat 96 w.1) (Fin.ofNat 96 w.2.1) h w.2.2)
def states : List State := pairs.map (·.1) ++ [mk (fl running [fr1, fr1] cC)]

theorem witness_ScalarSlots :
    ((fun (s : State) (x : Slot) => s.dev.executes (Instr.mov x) x uAlu = true) (states.getD 10 State.reset) ({ row := 0, col := 0, handler := false, stage := 0, sa := 0x10#7, sb := 0x11#7, rd := 2, am := 0x0#2, rb := 0, addr := 0x005#12, func := 0x12345#20 })) ∧
    ((fun (s : State) (x : Slot) => s.dev.executes (Instr.movi x) x uAlu = true) (states.getD 12 State.reset) ({ row := 0, col := 0, handler := false, stage := 0, sa := 0x10#7, sb := 0x11#7, rd := 2, am := 0x0#2, rb := 0, addr := 0x005#12, func := 0x12345#20 })) ∧
    ((fun (s : State) (x : Slot) => s.dev.executes (Instr.add x) x uAlu = true) (states.getD 14 State.reset) ({ row := 0, col := 0, handler := false, stage := 0, sa := 0x10#7, sb := 0x11#7, rd := 2, am := 0x0#2, rb := 0, addr := 0x005#12, func := 0x12345#20 })) ∧
    ((fun (s : State) (x : Slot) => s.dev.executes (Instr.sub x) x uAlu = true) (states.getD 16 State.reset) ({ row := 0, col := 0, handler := false, stage := 0, sa := 0x10#7, sb := 0x11#7, rd := 2, am := 0x0#2, rb := 0, addr := 0x005#12, func := 0x12345#20 })) ∧
    ((fun (s : State) (x : Slot) => s.dev.executes (Instr.logicAnd x) x uAlu = true) (states.getD 18 State.reset) ({ row := 0, col := 0, handler := false, stage := 0, sa := 0x10#7, sb := 0x11#7, rd := 2, am := 0x0#2, rb := 0, addr := 0x005#12, func := 0x12344#20 })) ∧
    ((fun (s : State) (x : Slot) => s.dev.executes (Instr.logicOr x) x uAlu = true) (states.getD 20 State.reset) ({ row := 0, col := 0, handler := false, stage := 0, sa := 0x10#7, sb := 0x11#7, rd := 2, am := 0x0#2, rb := 0, addr := 0x005#12, func := 0x12345#20 })) ∧
    ((fun (s : State) (x : Slot) => s.dev.executes (Instr.logicXor x) x uAlu = true) (states.getD 22 State.reset) ({ row := 0, col := 0, handler := false, stage := 0, sa := 0x10#7, sb := 0x11#7, rd := 2, am := 0x0#2, rb := 0, addr := 0x005#12, func := 0x12346#20 })) ∧
    ((fun (s : State) (x : Slot) => s.dev.executes (Instr.logicAndnot x) x uAlu = true) (states.getD 24 State.reset) ({ row := 0, col := 0, handler := false, stage := 0, sa := 0x10#7, sb := 0x11#7, rd := 2, am := 0x0#2, rb := 0, addr := 0x005#12, func := 0x12347#20 })) ∧
    ((fun (s : State) (x : Slot) => s.dev.executes (Instr.shiftLsl x) x uAlu = true) (states.getD 26 State.reset) ({ row := 0, col := 0, handler := false, stage := 0, sa := 0x10#7, sb := 0x11#7, rd := 2, am := 0x0#2, rb := 0, addr := 0x005#12, func := 0x12344#20 })) ∧
    ((fun (s : State) (x : Slot) => s.dev.executes (Instr.shiftLsr x) x uAlu = true ∧ (s.dev.operands x uAlu).fst < 2 ^ 64) (states.getD 28 State.reset) ({ row := 0, col := 0, handler := false, stage := 0, sa := 0x10#7, sb := 0x11#7, rd := 2, am := 0x0#2, rb := 0, addr := 0x005#12, func := 0x12345#20 })) ∧
    ((fun (s : State) (x : Slot) => s.dev.executes (Instr.shiftAsr x) x uAlu = true) (states.getD 30 State.reset) ({ row := 0, col := 0, handler := false, stage := 0, sa := 0x10#7, sb := 0x11#7, rd := 2, am := 0x0#2, rb := 0, addr := 0x005#12, func := 0x12346#20 })) ∧
    ((fun (s : State) (x : Slot) => s.dev.executes (Instr.shiftRor x) x uAlu = true ∧ (s.dev.operands x uAlu).fst < 2 ^ 64) (states.getD 32 State.reset) ({ row := 0, col := 0, handler := false, stage := 0, sa := 0x10#7, sb := 0x11#7, rd := 2, am := 0x0#2, rb := 0, addr := 0x005#12, func := 0x12347#20 })) := by decide +kernel

theorem witness_LaneSlots :
    ((fun (s : State) (x : Slot) => s.dev.executes (Instr.vadd x) x uAlu = true) (states.getD 34 State.reset) ({ row := 0, col := 0, handler := false, stage := 0, sa := 0x10#7, sb := 0x11#7, rd := 2, am := 0x0#2, rb := 0, addr := 0x005#12, func := 0x12345#20 })) ∧
    ((fun (s : State) (x : Slot) => s.dev.executes (Instr.vmul x) x uAlu = true) (states.getD 36 State.reset) ({ row := 0, col := 0, handler := false, stage := 0, sa := 0x10#7, sb := 0x11#7, rd := 2, am := 0x0#2, rb := 0, addr := 0x005#12, func := 0x12345#20 })) ∧
    ((fun (s : State) (x : Slot) => s.dev.executes (Instr.vmax x) x uAlu = true) (states.getD 38 State.reset) ({ row := 0, col := 0, handler := false, stage := 0, sa := 0x10#7, sb := 0x11#7, rd := 2, am := 0x0#2, rb := 0, addr := 0x005#12, func := 0x12345#20 })) ∧
    ((fun (s : State) (x : Slot) => s.dev.executes (Instr.vmin x) x uAlu = true) (states.getD 40 State.reset) ({ row := 0, col := 0, handler := false, stage := 0, sa := 0x10#7, sb := 0x11#7, rd := 2, am := 0x0#2, rb := 0, addr := 0x005#12, func := 0x12345#20 })) ∧
    ((fun (s : State) (x : Slot) => s.dev.executes (Instr.actRelu x) x uAlu = true) (states.getD 42 State.reset) ({ row := 0, col := 0, handler := false, stage := 0, sa := 0x10#7, sb := 0x11#7, rd := 2, am := 0x0#2, rb := 0, addr := 0x005#12, func := 0x12345#20 })) ∧
    ((fun (s : State) (x : Slot) => s.dev.executes (Instr.actClamp x) x uAlu = true) (states.getD 44 State.reset) ({ row := 0, col := 0, handler := false, stage := 0, sa := 0x10#7, sb := 0x11#7, rd := 2, am := 0x0#2, rb := 0, addr := 0x005#12, func := 0x16345#20 })) ∧
    ((fun (s : State) (x : Slot) => s.dev.executes (Instr.actClampPos x) x uAlu = true) (states.getD 46 State.reset) ({ row := 0, col := 0, handler := false, stage := 0, sa := 0x10#7, sb := 0x11#7, rd := 2, am := 0x0#2, rb := 0, addr := 0x005#12, func := 0x1a345#20 })) ∧
    ((fun (s : State) (x : Slot) => s.dev.executes (Instr.pwlLoad x) x uAlu = true) (states.getD 50 State.reset) ({ row := 0, col := 0, handler := false, stage := 0, sa := 0x10#7, sb := 0x11#7, rd := 2, am := 0x0#2, rb := 0, addr := 0x005#12, func := 0x1a345#20 })) ∧
    ((fun (s : State) (x : Slot) => s.dev.executes (Instr.pwlEval x) x uAlu = true) (states.getD 48 State.reset) ({ row := 0, col := 0, handler := false, stage := 0, sa := 0x10#7, sb := 0x11#7, rd := 2, am := 0x0#2, rb := 0, addr := 0x005#12, func := 0x12345#20 })) ∧
    ((fun (s : State) (x : Slot) => s.dev.executes (Instr.mag x) x uAlu = true) (states.getD 52 State.reset) ({ row := 0, col := 0, handler := false, stage := 0, sa := 0x10#7, sb := 0x11#7, rd := 2, am := 0x0#2, rb := 0, addr := 0x005#12, func := 0x12345#20 })) ∧
    ((fun (s : State) (x : Slot) => s.dev.executes (Instr.log2 x) x uAlu = true) (states.getD 54 State.reset) ({ row := 0, col := 0, handler := false, stage := 0, sa := 0x10#7, sb := 0x11#7, rd := 2, am := 0x0#2, rb := 0, addr := 0x005#12, func := 0x12345#20 })) ∧
    ((fun (v : BitVec 32) => v.toNat % 2 ^ 31 = 0) (0x00000000#32)) ∧
    ((fun (v : BitVec 32) => v.toNat % 2 ^ 31 = 2139095040) (0x7f800000#32)) ∧
    ((fun (v : BitVec 32) => 2139095040 < v.toNat % 2 ^ 31) (0x7f800001#32)) ∧
    ((fun (s : State) (x : Slot) => s.dev.executes (Instr.scale x) x uAlu = true) (states.getD 56 State.reset) ({ row := 0, col := 0, handler := false, stage := 0, sa := 0x10#7, sb := 0x11#7, rd := 2, am := 0x0#2, rb := 0, addr := 0x005#12, func := 0x12345#20 })) ∧
    ((fun (s : State) (x : Slot) => s.dev.executes (Instr.cvt x) x uAlu = true) (states.getD 58 State.reset) ({ row := 0, col := 0, handler := false, stage := 0, sa := 0x10#7, sb := 0x11#7, rd := 2, am := 0x0#2, rb := 0, addr := 0x005#12, func := 0x12345#20 })) := by decide +kernel

theorem witness_MemoryAndMacSlots :
    ((fun (s : State) (x : Slot) => let b : Dev := s.dev.atIssue x uLsu; s.dev.executes (Instr.ld x) x uLsu = true ∧ bit (b.xcell x).banks (b.sramAddr x / 1024) = false) (states.getD 60 State.reset) ({ row := 0, col := 0, handler := false, stage := 0, sa := 0x10#7, sb := 0x11#7, rd := 2, am := 0x0#2, rb := 0, addr := 0x005#12, func := 0x12345#20 })) ∧
    ((fun (s : State) (x : Slot) => let r : Dev × Nat := (s.dev.atIssue x uLsu).source x (s.dev.issueAt x) x.sa.toNat; s.dev.executes (Instr.st x) x uLsu = true ∧ bit (r.fst.xcell x).banks (r.fst.sramAddr x / 1024) = false) (states.getD 62 State.reset) ({ row := 0, col := 0, handler := false, stage := 0, sa := 0x10#7, sb := 0x11#7, rd := 2, am := 0x0#2, rb := 0, addr := 0x005#12, func := 0x12345#20 })) ∧
    ((fun (s : State) (x : Slot) => s.dev.executes (Instr.mac x) x uMac = true) (states.getD 64 State.reset) ({ row := 0, col := 0, handler := false, stage := 0, sa := 0x10#7, sb := 0x11#7, rd := 2, am := 0x0#2, rb := 0, addr := 0x005#12, func := 0x12345#20 })) ∧
    ((fun (s : State) (x : Slot) => s.dev.executes (Instr.macq x) x uMac = true) (states.getD 66 State.reset) ({ row := 0, col := 0, handler := false, stage := 0, sa := 0x10#7, sb := 0x11#7, rd := 2, am := 0x0#2, rb := 0, addr := 0x005#12, func := 0x12345#20 })) ∧
    ((fun (s : State) (x : Slot) => s.dev.executes (Instr.gq x) x uMac = true) (states.getD 68 State.reset) ({ row := 0, col := 0, handler := false, stage := 0, sa := 0x10#7, sb := 0x11#7, rd := 2, am := 0x0#2, rb := 0, addr := 0x005#12, func := 0x12345#20 })) ∧
    ((fun (s : State) (x : Slot) => s.dev.executes (Instr.accrdFp32 x) x uMac = true) (states.getD 70 State.reset) ({ row := 0, col := 0, handler := false, stage := 0, sa := 0x10#7, sb := 0x11#7, rd := 2, am := 0x0#2, rb := 0, addr := 0x005#12, func := 0x12345#20 })) ∧
    ((fun (s : State) (x : Slot) => s.dev.executes (Instr.accrdBf16 x) x uMac = true) (states.getD 72 State.reset) ({ row := 0, col := 0, handler := false, stage := 0, sa := 0x10#7, sb := 0x11#7, rd := 2, am := 0x0#2, rb := 0, addr := 0x005#12, func := 0x52345#20 })) ∧
    ((fun (s : State) (x : Slot) => s.dev.executes (Instr.accrdInt32 x) x uMac = true) (states.getD 74 State.reset) ({ row := 0, col := 0, handler := false, stage := 0, sa := 0x10#7, sb := 0x11#7, rd := 2, am := 0x0#2, rb := 0, addr := 0x005#12, func := 0x92345#20 })) ∧
    ((fun (s : State) (x : Slot) => s.dev.executes (Instr.accclr x) x uMac = true) (states.getD 76 State.reset) ({ row := 0, col := 0, handler := false, stage := 0, sa := 0x10#7, sb := 0x11#7, rd := 2, am := 0x0#2, rb := 0, addr := 0x005#12, func := 0x12345#20 })) ∧
    ((fun (s : State) (x : Slot) => s.dev.executes (Instr.send x) x uSend = true) (states.getD 84 State.reset) ({ row := 0, col := 0, handler := false, stage := 0, sa := 0x10#7, sb := 0x11#7, rd := 2, am := 0x0#2, rb := 0, addr := 0x005#12, func := 0x12345#20 })) := by decide +kernel

theorem witness_SailSlots :
    ((fun (s : State) (x : Slot) => s.dev.executes (Instr.sailcfg x) x uSail = true) (states.getD 78 State.reset) ({ row := 0, col := 0, handler := false, stage := 0, sa := 0x10#7, sb := 0x11#7, rd := 2, am := 0x0#2, rb := 0, addr := 0x005#12, func := 0x12345#20 })) ∧
    ((fun (s : State) (x : Slot) => s.dev.executes (Instr.sailin x) x uSail = true) (states.getD 80 State.reset) ({ row := 0, col := 0, handler := false, stage := 0, sa := 0x10#7, sb := 0x11#7, rd := 2, am := 0x0#2, rb := 0, addr := 0x005#12, func := 0x12345#20 })) ∧
    ((fun (s : State) (x : Slot) => s.dev.executes (Instr.sailout x) x uSail = true) (states.getD 82 State.reset) ({ row := 0, col := 0, handler := false, stage := 0, sa := 0x10#7, sb := 0x11#7, rd := 2, am := 0x0#2, rb := 0, addr := 0x005#12, func := 0x12345#20 })) := by decide +kernel

theorem witness_ControlSlots :
    ((fun (s : State) (x : Slot) => s.dev.canIssue (Instr.nop x) x = true) (states.getD 0 State.reset) ({ row := 0, col := 0, handler := false, stage := 0, sa := 0x10#7, sb := 0x11#7, rd := 2, am := 0x0#2, rb := 0, addr := 0x005#12, func := 0x12345#20 })) ∧
    ((fun (s : State) (x : Slot) => s.dev.canIssue (Instr.idle x) x = true) (states.getD 2 State.reset) ({ row := 0, col := 0, handler := false, stage := 0, sa := 0x10#7, sb := 0x11#7, rd := 2, am := 0x0#2, rb := 0, addr := 0x005#12, func := 0x12345#20 })) ∧
    ((fun (s : State) (x : Slot) => s.dev.canIssue (Instr.loop x) x = true ∧ x.handler = false ∧ 0 < funcFld x 7 0) (states.getD 4 State.reset) ({ row := 0, col := 0, handler := false, stage := 0, sa := 0x10#7, sb := 0x11#7, rd := 2, am := 0x0#2, rb := 0, addr := 0x005#12, func := 0x12345#20 })) ∧
    ((fun (s : State) (x : Slot) => s.dev.canIssue (Instr.loop x) x = true ∧ x.handler = true) (states.getD 5 State.reset) ({ row := 0, col := 0, handler := true, stage := 0, sa := 0x10#7, sb := 0x11#7, rd := 2, am := 0x0#2, rb := 0, addr := 0x005#12, func := 0x12345#20 })) ∧
    ((fun (s : State) (x : Slot) => s.dev.canIssue (Instr.halt x) x = true) (states.getD 6 State.reset) ({ row := 0, col := 0, handler := false, stage := 0, sa := 0x10#7, sb := 0x11#7, rd := 2, am := 0x0#2, rb := 0, addr := 0x005#12, func := 0x12345#20 })) ∧
    ((fun (s : State) (x : Slot) => s.dev.canIssue (Instr.endSlot x) x = true) (states.getD 8 State.reset) ({ row := 0, col := 0, handler := false, stage := 0, sa := 0x10#7, sb := 0x11#7, rd := 2, am := 0x0#2, rb := 0, addr := 0x005#12, func := 0x12345#20 })) ∧
    ((fun (s : State) (r c : Fin 96) (e e' : Nat × Nat) => let t : Nat := dispatchAt (s.dev.cell ↑r ↑c) e; let b : Dev := s.dev.arrayTo t; nextDispatch (s.dev.cell ↑r ↑c).queue = some e ∧ s.dev.executing t = true ∧ b.standsAt t = true ∧ nextDispatch (b.cell ↑r ↑c).queue = some e' ∧ (b.cell ↑r ↑c).halted = false ∧ (b.cell ↑r ↑c).hand = false ∧ dispatchAt (b.cell ↑r ↑c) e' ≤ t) (states.getD 86 State.reset) (0) (0) ((53, 2)) ((53, 2))) ∧
    ((fun (s : State) (r c : Fin 96) => nextDispatch (s.dev.cell ↑r ↑c).queue = none) (states.getD 0 State.reset) (0) (0)) := by decide +kernel

end W14

namespace W15

def fA : Frame := {stream := 3, frame := 9, addr := 0x40, len := 16, words := ⟨[(0,[5,6,7]),(5,[8,9])]⟩ }
def fB : Frame := {stream := 2, frame := 4, passes := 1, fullAt := 30 }
def r1 : AdmitRec := { kind := .frame, fr := fA, e0 := 40, ovr := false }
def stg : List (List Staged) := [[], [{ fr := fA, mode := .ready }], [{ fr := fB, mode := .ready }, { fr := fA, mode := .waitCopy }], [{ fr := fA, mode := .copying }, { fr := fB, mode := .waitCopy }]]
def base : Dev := (((((((running.setReg Reg.jnLedgerCfg 64).setReg (Reg.lgCfg 3) 0x80000302).setReg (Reg.lgCfg 5) 0x203).setReg Reg.flmStat (2 + 0xF000)).setReg Reg.flmII 30).setReg Reg.flmL 60).setReg (Reg.pondState 0) 0xFFFFFFFF).setReg Reg.flmAdmits 0xFFFFFFFF
def mkf (f : Flume) : Dev := { base with flume := f }
def fl0 : Flume := { ecc := 41, d := 2, lastAdmit := some 40, head := [⟨0,3,1,0x11⟩, ⟨5,2,1,0x03⟩], headDone := ⟨[]⟩, staging := ⟨[(0,(0,10)),(5,(8,5))]⟩, cells := ⟨[(0,{sched := ⟨[(0,5)]⟩})]⟩ }
def pool : List Dev := stg.flatMap fun st => [[], [r1], [r1, r1], [{}, {}]].flatMap fun rs => [
  mkf { fl0 with staged := st, recs := rs },
  mkf { fl0 with staged := st, recs := rs, failing := true, flights := [⟨0,0,1,0,0,5,4,0⟩] },
  mkf { fl0 with staged := st, recs := rs, stopAt := some 44, flights := [⟨0,0,1,0,0,5,4,41⟩] },
  mkf { fl0 with staged := st, recs := rs, waitFrom := some 900, waitCounts := true },
  mkf { fl0 with staged := st, recs := rs, clkPend := some 1234, clkBusy := true, waitFrom := some 900, waitCounts := true },
  mkf { fl0 with staged := st, recs := rs, ecc := 75, tgBytes := ⟨[(0,40)]⟩, reserved := ⟨[(0,8000)]⟩ }]
def states : List State := pool.map mk

theorem witness_StagingAndStops :
    ((fun (s : State) (f : Staged) => List.find? (fun (s : Staged) => s.mode == StageMode.waitCopy) s.dev.flume.staged = some f ∧ s.dev.flume.head ≠ [] ∧ s.dev.banksUsed < 2) (states.getD 48 State.reset) ({ fr := { stream := 3, frame := 9, tb72 := 0, slot := 0, addr := 64, len := 16, gather := false, fullAt := 0, wait := 0, passes := 0, epoch := 0, rungs := 0, uncal := 0, flags := 0, words := { cells := [(0, [5, 6, 7]), (5, [8, 9])] }, tallies := { cells := [] }, out := { cells := [] }, memErr := false, flmErrs := 0, flmErr := false, doomed := false }, mode := Sys2Proof.Machine.StageMode.waitCopy, bytes := { cells := [] }, lost := [] })) ∧
    ((fun (s : State) (f : Staged) => List.find? (fun (s : Staged) => s.mode == StageMode.copying) s.dev.flume.staged = some f) (states.getD 72 State.reset) ({ fr := { stream := 3, frame := 9, tb72 := 0, slot := 0, addr := 64, len := 16, gather := false, fullAt := 0, wait := 0, passes := 0, epoch := 0, rungs := 0, uncal := 0, flags := 0, words := { cells := [(0, [5, 6, 7]), (5, [8, 9])] }, tallies := { cells := [] }, out := { cells := [] }, memErr := false, flmErrs := 0, flmErr := false, doomed := false }, mode := Sys2Proof.Machine.StageMode.copying, bytes := { cells := [] }, lost := [] })) ∧
    ((fun (d : Dev) (c : Fin 96) (k : Nat) => ↑c ∈ d.headCols ∧ k < (SMap.get (0, 0) d.flume.staging ↑c).snd) (states.getD 0 State.reset).dev (0) (3)) ∧
    ((fun (s : State) (c : Fin 96) (t : Nat) (r : AdmitRec) (h : HeadEntry) => let b : Dev := s.dev.arrayTo t; s.dev.nextHead ↑c = some (t, r, h) ∧ s.dev.executing t = true ∧ b.standsAt t = true) (states.getD 6 State.reset) (0) (43) ({ kind := Sys2Proof.Machine.AdmitKind.frame, fr := { stream := 3, frame := 9, tb72 := 0, slot := 0, addr := 64, len := 16, gather := false, fullAt := 0, wait := 0, passes := 0, epoch := 0, rungs := 0, uncal := 0, flags := 0, words := { cells := [(0, [5, 6, 7]), (5, [8, 9])] }, tallies := { cells := [] }, out := { cells := [] }, memErr := false, flmErrs := 0, flmErr := false, doomed := false }, e0 := 40, bank := false, ovr := false }) ({ col := 0, k := 3, word := 1, hdr := 17 })) ∧
    ((fun (s : State) (c : Fin 96) => s.dev.nextHead ↑c = none) (states.getD 0 State.reset) (0)) ∧
    ((fun (s : State) => s.dev.flmRun = true ∧ s.dev.flume.failing = true ∧ s.dev.flume.stopAt = none) (states.getD 1 State.reset)) ∧
    ((fun (s : State) (t : Nat) => s.dev.flmRun = true ∧ s.dev.flume.failing = false ∧ s.dev.flume.stopAt = some t ∧ t ≤ s.dev.boundaryAt) (states.getD 2 State.reset) (44)) := by decide +kernel

theorem witness_FrameBoundaries :
    ((fun (s : State) (f : Staged) => let b : Dev := s.dev.arrayTo s.dev.boundaryAt; s.dev.flmRun = true ∧ s.dev.flume.clkBusy = false ∧ b.standsAt s.dev.boundaryAt = true ∧ b.flume.failing = false ∧ b.flume.clkPend = none ∧ b.held unitFlume = false ∧ b.flmFaulted = false ∧ b.pickStaged = some f ∧ b.roomOut = true) (states.getD 24 State.reset) ({ fr := { stream := 3, frame := 9, tb72 := 0, slot := 0, addr := 64, len := 16, gather := false, fullAt := 0, wait := 0, passes := 0, epoch := 0, rungs := 0, uncal := 0, flags := 0, words := { cells := [(0, [5, 6, 7]), (5, [8, 9])] }, tallies := { cells := [] }, out := { cells := [] }, memErr := false, flmErrs := 0, flmErr := false, doomed := false }, mode := Sys2Proof.Machine.StageMode.ready, bytes := { cells := [] }, lost := [] })) ∧
    ((fun (s : State) => let b : Dev := s.dev.arrayTo s.dev.boundaryAt; s.dev.flmRun = true ∧ s.dev.flume.clkBusy = false ∧ b.standsAt s.dev.boundaryAt = true ∧ b.flume.failing = false ∧ b.flume.clkPend = none ∧ b.held unitFlume = false ∧ b.pickStaged = none ∧ (b.inFlight.any fun (r : AdmitRec) => r.kind == AdmitKind.frame) = true ∧ b.inCopy = false) (states.getD 6 State.reset)) ∧
    ((fun (s : State) => let b : Dev := s.dev.arrayTo s.dev.boundaryAt; s.dev.flmRun = true ∧ s.dev.flume.clkBusy = false ∧ b.standsAt s.dev.boundaryAt = true ∧ b.flume.failing = false ∧ b.flume.clkPend = none ∧ b.held unitFlume = false ∧ b.pickStaged = none ∧ b.inFlight = []) (states.getD 0 State.reset)) ∧
    ((fun (s : State) => let b : Dev := s.dev.arrayTo s.dev.boundaryAt; s.dev.flmRun = true ∧ s.dev.flume.clkBusy = false ∧ b.standsAt s.dev.boundaryAt = true ∧ b.flume.failing = false ∧ b.flume.clkPend = none ∧ b.held unitFlume = false ∧ b.pickStaged = none ∧ (b.inFlight.any fun (r : AdmitRec) => r.kind == AdmitKind.frame) = true ∧ b.inCopy = true) (states.getD 78 State.reset)) ∧
    ((fun (s : State) => s.dev.flmRun = true ∧ s.dev.flume.clkBusy = false ∧ (s.dev.arrayTo s.dev.boundaryAt).standsAt s.dev.boundaryAt = false) (states.getD 2 State.reset)) ∧
    ((fun (s : State) => s.dev.flmRun = false ∨ s.dev.flume.clkBusy = true) (states.getD 4 State.reset)) ∧
    ((fun (s : State) (f : Staged) => s.dev.flmRun = true ∧ s.dev.flume.waitFrom ≠ none ∧ s.dev.flume.clkBusy = false ∧ s.dev.flume.failing = false ∧ s.dev.flume.clkPend = none ∧ s.dev.held unitFlume = false ∧ s.dev.flmFaulted = false ∧ s.dev.pickStaged = some f ∧ s.dev.roomOut = true) (states.getD 27 State.reset) ({ fr := { stream := 3, frame := 9, tb72 := 0, slot := 0, addr := 64, len := 16, gather := false, fullAt := 0, wait := 0, passes := 0, epoch := 0, rungs := 0, uncal := 0, flags := 0, words := { cells := [(0, [5, 6, 7]), (5, [8, 9])] }, tallies := { cells := [] }, out := { cells := [] }, memErr := false, flmErrs := 0, flmErr := false, doomed := false }, mode := Sys2Proof.Machine.StageMode.ready, bytes := { cells := [] }, lost := [] })) ∧
    ((fun (s : State) (mhz : Nat) => s.dev.flume.clkPend = some mhz ∧ s.dev.flume.clkBusy = true) (states.getD 4 State.reset) (1234)) := by decide +kernel

end W15

namespace W17

def tl : SMap Tally := ⟨[(0, ⟨100, 50, 0x3F80⟩), (5, ⟨100, 0, 0x3E80⟩)]⟩
def fr (p : Nat) : Frame := { stream := 3, frame := 9, slot := 1, passes := p, tallies := tl, rungs := 4 }
def base : Dev := ((((running.setReg Reg.flmStat (2 + 0xF000)).setReg (Reg.lgCfg 0) 0x80000300).setReg (Reg.lgCfg 1) 0x80000301).setReg (Reg.gaugeCfg 2) 0x80020005).setReg Reg.flmLadderCtl 0x10100
def fl0 : Flume := { ecc := 41, d := 2, lastAdmit := some 40, satGroups := ⟨[(0, 0x10), (5, 0x11)]⟩ }
def pool : List Dev := [1,2,3].flatMap fun p => [base, base.setReg (Reg.lgCfg 0) 0x80000100, base.setReg (Reg.gaugeBounds 2) 0x40004000, base.setReg (Reg.lgCfg 0) 0].flatMap fun b => [
  { b with flume := { fl0 with passed := [(fr p, true), (fr 1, false)] }, strms := ⟨[(3, { busy := [1,2] })]⟩ },
  { b with flume := { fl0 with passed := [(fr p, true), (fr 1, false)], swapPend := true, shadow := [⟨7, 1, 2, 3, [5,6]⟩], staged := [{ fr := fr 2, mode := .ready }] }, strms := ⟨[(3, { busy := [1,2] })]⟩ },
  { b with flume := { fl0 with shadow := [⟨7, 1, 2, 3, [5,6]⟩, ⟨7, 0, 0, 3, [5,6]⟩], staged := [{ fr := { fr 2 with epoch := 1}, mode := .ready }] }, vci := { active := [⟨7,0x30,0,0,0,[],true⟩] } },
  { b with flume := { fl0 with shadow := [⟨7, 1, 2, 3, [5,6]⟩] }, vci := { active := [⟨7,0x30,0,0,0,[],true⟩] } }]
def rn1 : AdmitRec := { kind := .frame, fr := fr 1, e0 := 10, ovr := false }
def more : List Dev := [ { base with flume := { fl0 with recs := [rn1] } }.setReg Reg.flmL 40 |>.setReg Reg.flmII 20, { base with flume := { fl0 with waitFrom := some 900 } },
  { base with flume := { fl0 with passed := [(fr 2, true)], staged := List.replicate 16 { fr := fr 2, mode := .ready } }, strms := ⟨[(3, { busy := [1,2] })]⟩, jn := { eligible := [{ fr := { fr 1 with stream := 5 }, since := 1000 }, { fr := { fr 1 with stream := 2 }, since := 900 }] } },
  { base with flume := { fl0 with swapPend := true, swapFrom := 42 } }, { base with flume := { fl0 with swapPend := true, swapFrom := 41, waitFrom := some 3 } }]
def states : List State := (pool ++ more).map mk

theorem witness_Verdicts :
    ((fun (s : State) (i : Nat) => List.findIdx? (fun (p : Frame × Bool) => !p.snd) s.dev.flume.passed = some i) (states.getD 0 State.reset) (1)) ∧
    ((fun (s : State) (i : Nat) => let ends : List Nat := List.map (fun (r : AdmitRec) => r.e0 + s.dev.flmL) (List.filter (fun (r : AdmitRec) => r.kind == AdmitKind.frame && !r.ovr && !r.fr.doomed) s.dev.flume.recs); let t : Nat := List.foldl min (ends.getD 0 0) ends; let b : Dev := s.dev.arrayTo t; (s.dev.flume.passed.all fun (x : Frame × Bool) => x.snd) = true ∧ s.dev.flmRun = true ∧ s.dev.flume.waitFrom = none ∧ ends ≠ [] ∧ t ≤ s.dev.boundaryAt ∧ List.findIdx? (fun (p : Frame × Bool) => !p.snd) b.flume.passed = some i) (states.getD 48 State.reset) (0)) ∧
    ((fun (s : State) (p : Frame × Bool) => let b : Dev := atVerdict s.dev p; List.find? (fun (x : Frame × Bool) => x.snd) s.dev.flume.passed = some p ∧ p.fst.passes < 3 ∧ climbers b p.fst ≠ [] ∧ b.rerunQueue.length < 16 ∧ b.flmFaulted = false ∧ b.flume.failing = false ∧ b.flag Reg.flmStat 3 = false) (states.getD 0 State.reset) (({ stream := 3, frame := 9, tb72 := 0, slot := 1, addr := 0, len := 0, gather := false, fullAt := 0, wait := 0, passes := 1, epoch := 0, rungs := 4, uncal := 0, flags := 0, words := { cells := [] }, tallies := { cells := [(0, { lanes := 100, sat := 50, peak := 16256 }), (5, { lanes := 100, sat := 0, peak := 16000 })] }, out := { cells := [] }, memErr := false, flmErrs := 0, flmErr := false, doomed := false }, true))) ∧
    ((fun (s : State) (p : Frame × Bool) => let b : Dev := atVerdict s.dev p; List.find? (fun (x : Frame × Bool) => x.snd) s.dev.flume.passed = some p ∧ (climbers b p.fst = [] ∨ 3 ≤ p.fst.passes ∨ 16 ≤ b.rerunQueue.length ∨ b.flmFaulted = true ∨ b.flume.failing = true ∨ b.flag Reg.flmStat 3 = true)) (states.getD 12 State.reset) (({ stream := 3, frame := 9, tb72 := 0, slot := 1, addr := 0, len := 0, gather := false, fullAt := 0, wait := 0, passes := 1, epoch := 0, rungs := 4, uncal := 0, flags := 0, words := { cells := [] }, tallies := { cells := [(0, { lanes := 100, sat := 50, peak := 16256 }), (5, { lanes := 100, sat := 0, peak := 16000 })] }, out := { cells := [] }, memErr := false, flmErrs := 0, flmErr := false, doomed := false }, true))) := by decide +kernel

theorem witness_EpochsAndShadowWrites :
    ((fun (s : State) => s.dev.fenced Reg.flmEpochCtl = false ∧ s.dev.flume.swapPend = false) (states.getD 0 State.reset)) ∧
    ((fun (s : State) => s.dev.fenced Reg.flmEpochCtl = false ∧ s.dev.flume.swapPend = false ∧ s.dev.flume.waitFrom ≠ none ∧ s.dev.flmRun = true) (states.getD 49 State.reset)) ∧
    ((fun (d : Dev) => d.flume.swapPend = true ∧ d.flume.swapFrom ≤ d.flume.ecc ∧ d.shadowOwed = false) (states.getD 52 State.reset).dev) ∧
    ((fun (d : Dev) => d.flume.swapPend = false ∨ d.flume.ecc < d.flume.swapFrom ∨ d.shadowOwed = true) (states.getD 0 State.reset).dev) ∧
    ((fun (s : State) => s.dev.fenced Reg.flmEpochCtl = false ∧ s.dev.flume.swapPend = true) (states.getD 1 State.reset)) ∧
    ((fun (s : State) (w : ShadowWrite) (ws : List ShadowWrite) => s.dev.flume.shadow = w :: ws ∧ s.dev.shadowBusy = false) (states.getD 1 State.reset) ({ tag := 7, row := 1, col := 2, word := 3, words := [5, 6] }) ([])) ∧
    ((fun (s : State) => s.dev.flume.shadow ≠ [] ∧ s.dev.shadowBusy = true) (states.getD 2 State.reset)) := by decide +kernel

end W17

namespace W18

def hdr (v c g p : Bool) (rule block len addr : Nat) : Nat := b2n v * 2^63 + b2n c * 2^62 + b2n g * 2^61 + b2n p * 2^60 + rule * 2^57 + block * 2^51 + len * 2^36 + addr
def put (m : SMap Nat) (i h : Nat) : SMap Nat := (List.range 4).foldl (fun m j => m.set 0 (4*i+j) (h / 2^(16*j) % 65536)) m
def syn0 : SMap Nat :=
  let m := put ⟨[]⟩ 2 (hdr true false false false 0 0 1 1000)
  let m := put m 3 (hdr true false true false 0 1 3 1010)
  let m := put m 4 (hdr true true false false 0 0 4 1)
  let m := put m 5 (hdr true false false true 2 0 7 1020)
  let m := put m 6 (hdr true true false true 1 0 4 2)
  let m := m.setMany 0 1000 [0x7F05]
  let m := m.setMany 0 1010 [0x8105, 0x8002, 0x0209]
  m.setMany 0 1020 [10, 0, 0, 0x0011, 0x0507, 0x80FF, 0x8003]
def ev (axon tick mult pay : Nat) : Nat := mkPacket 1 0 0 0 3 axon tick mult pay
def neuW (v : Int) (ath tl ts ps ml : Nat) : Nat := neuWord ⟨v, ath, tl, ts, ps, ml, true, 4⟩
def nc0 : Nc := { syn := syn0, inJob := true, openTick := 700, enNow := 4, state := ⟨[(5, neuW 100 7 650 640 1 2), (9, neuW 300 0 699 690 2 1), (265, neuW (-50) 1 100 90 1 3)]⟩, axon := ⟨[(5, 2^68 + 2^75)]⟩, dt := ⟨[(512, 40), (2560, 30)]⟩ }
def base : Dev := ((((((running.setReg (Reg.ncPset0 3 1) 200).setReg (Reg.ncPset1 3 1) 0x30800000).setReg (Reg.ncPset1 3 2) 0x40800000).setReg (Reg.ncPset0 3 2) 0x01000100).setReg (Reg.ncTick 3) 699).setReg (Reg.ncMemCfg 3) 0x00000001).setReg (Reg.lrnCtl 3 2) 0x8000007F
def ddr (d : Dev) : Dev := ((d.setReg Reg.memDdrSizeLo 0).setReg Reg.memDdrSizeHi 1).setReg Reg.memCistBaseHi 0x80
def w (x : Nc) : Dev := ddr (base.setNc 3 x)
def evs : List Nat := [ev 2 700 3 0x100, ev 3 699 7 0x80, ev 4 701 1 0x100, ev 300 700 1 0, ev 9 700 1 0, ev 3 702 1 0x100, ev 5 700 1 0x100, ev 6 700 1 0x100]
def ups : List Upd := [⟨5, false, 5, .sprout 0x1234 2⟩, ⟨5, false, 4, .sprout 0x1234 2⟩, ⟨5, false, 4, .delta 5 2⟩, ⟨5, false, 5, .delta 5 2⟩, ⟨5, false, 6, .delta 5 2⟩, ⟨5, false, 0, .pre 5⟩]
def pool : List Dev := evs.map (fun e => w { nc0 with events := [e] }) ++ evs.map (fun e => w { nc0 with hints := [e] }) ++ ups.map (fun u => w { nc0 with banks := ⟨[(1, [u])]⟩ })
  ++ [w { nc0 with fetches := [{ header := 4, hinted := true }], missq := [⟨4, 700, 1, 256⟩, ⟨6, 700, 1, 256⟩] }, w { nc0 with snap := some 5 },
      w { nc0 with peq := [⟨5, 700, 2, 256⟩] }, w { nc0 with peq := [⟨5, 700, 2, 256⟩], enNow := 0 }]
  ++ [[(5,-5)], [(5,3000)], [(9,10)], [(9, 800000)], [(265,1000),(9,3)]].map (fun (l : List (Nat × Int)) => (w { nc0 with acc := ⟨l⟩, dirty := ⟨l.map (fun c => (c.1, true))⟩ }).setRouter 3 { openTick := 701 })
def more : List Dev := [w { nc0 with failed := true, fetches := [{ header := 4, hinted := true }], missq := [⟨4, 700, 1, 256⟩] },
  w { nc0 with failed := true, peq := [⟨5, 700, 2, 256⟩], banks := ⟨[(1, ups.take 1)]⟩, events := [ev 3 699 7 0x80] },
  (w { nc0 with fetches := [{ header := 4, hinted := true }], missq := [⟨4, 700, 1, 256⟩] }).setReg Reg.memCistBaseHi 0x90,
  w { nc0 with hints := [ev 4 701 1 0x100], hintQ := [6] }, w { nc0 with hints := [ev 4 701 1 0x100], hintQ := List.replicate 64 6 },
  (w { nc0 with hints := [ev 4 701 1 0x100] }).setReg (Reg.ncMemCfg 3) 0x10001, (w { nc0 with events := [ev 4 701 1 0x100] }).setReg (Reg.ncMemCfg 3) 0x10001]
def states : List State := (pool ++ more).map mk

theorem witness_EventsOfANeuronCore :
    ((fun (s : State) (n : Fin 256) (p : Nat) (ps : List Nat) => let h : Nat := headerOf (s.dev.nc ↑n) (pkAxon p % 65536); (s.dev.nc ↑n).events = p :: ps ∧ (s.dev.nc ↑n).failed = false ∧ s.dev.ncTakes ↑n = true ∧ ¬pkAxon p % 65536 ∈ (s.dev.nc ↑n).badHeaders ∧ pkAxon p % 65536 < s.dev.ncH ↑n ∧ hdValid h = true ∧ hdCist h = false ∧ hdPlastic h = false) (states.getD 0 State.reset) (3) (665587554399681292681847228592029697) ([])) ∧
    ((fun (s : State) (n : Fin 256) (p : Nat) (ps : List Nat) => (s.dev.nc ↑n).events = p :: ps ∧ (s.dev.nc ↑n).failed = false ∧ s.dev.ncTakes ↑n = true ∧ ¬pkAxon p % 65536 ∈ (s.dev.nc ↑n).badHeaders ∧ (s.dev.ncH ↑n ≤ pkAxon p % 65536 ∨ hdValid (headerOf (s.dev.nc ↑n) (pkAxon p % 65536)) = false)) (states.getD 3 State.reset) (3) (324519399906846346985759251103745) ([])) ∧
    ((fun (s : State) (n : Fin 256) (p : Nat) (ps : List Nat) => let h : Nat := headerOf (s.dev.nc ↑n) (pkAxon p % 65536); (s.dev.nc ↑n).events = p :: ps ∧ (s.dev.nc ↑n).failed = false ∧ s.dev.ncTakes ↑n = true ∧ ¬pkAxon p % 65536 ∈ (s.dev.nc ↑n).badHeaders ∧ pkAxon p % 65536 < s.dev.ncH ↑n ∧ hdValid h = true ∧ hdCist h = true ∧ hdPlastic h = false ∧ rowHere (s.dev.nc ↑n) (pkAxon p % 65536) = false) (states.getD 2 State.reset) (3) (664938517293573367353738554939277313) ([])) ∧
    ((fun (s : State) (n : Fin 256) => (s.dev.nc ↑n).failed = true ∨ s.dev.ncTakes ↑n = false) (states.getD 31 State.reset) (3)) := by decide +kernel

theorem witness_CisternRowsAndHints :
    ((fun (s : State) (n : Fin 256) (cycles : Nat) (f : Fetch) (fs : List Fetch) => let h : Nat := headerOf (s.dev.nc ↑n) f.header; (s.dev.nc ↑n).fetches = f :: fs ∧ (s.dev.nc ↑n).failed = false ∧ cycles < 2 ^ 32 ∧ s.dev.readBad (s.dev.cistAddr h) (2 * hdLen h) = false ∧ s.dev.placeOf (s.dev.cistAddr h) (2 * hdLen h) = Place.ddr) (states.getD 22 State.reset) (3) (5) ({ header := 4, hinted := true, used := 0, again := false }) ([])) ∧
    ((fun (s : State) (n : Fin 256) (f : Fetch) (fs : List Fetch) => (s.dev.nc ↑n).fetches = f :: fs ∧ (s.dev.nc ↑n).failed = true) (states.getD 31 State.reset) (3) ({ header := 4, hinted := true, used := 0, again := false }) ([])) ∧
    ((fun (s : State) (n : Fin 256) (f : Fetch) (fs : List Fetch) => let h : Nat := headerOf (s.dev.nc ↑n) f.header; (s.dev.nc ↑n).fetches = f :: fs ∧ (s.dev.nc ↑n).failed = false ∧ f.again = false ∧ (s.dev.placeOf (s.dev.cistAddr h) (2 * hdLen h) ≠ Place.ddr ∨ s.dev.readBad (s.dev.cistAddr h) (2 * hdLen h) = true)) (states.getD 33 State.reset) (3) ({ header := 4, hinted := true, used := 0, again := false }) ([])) ∧
    ((fun (s : State) (n : Fin 256) (p : Nat) (ps : List Nat) => (s.dev.nc ↑n).hints = p :: ps) (states.getD 8 State.reset) (3) (665587554399681292681847228592029697) ([])) := by decide +kernel

theorem witness_FirePhaseAndRestSweep :
    ((fun (s : State) (n : Fin 256) => s.dev.mayFire ↑n = true ∧ (s.dev.nc ↑n).openTick < 2 ^ 32) (states.getD 26 State.reset) (3)) ∧
    ((fun (s : State) (n : Fin 256) (i : Nat) => let t : Nat := (s.dev.nc ↑n).openTick; let z : Neu := s.dev.aged (↑n) t (s.dev.neu (↑n) i); s.dev.mayFire ↑n = true ∧ (s.dev.nc ↑n).openTick < 2 ^ 32 ∧ dirtyOf (s.dev.nc ↑n) (s.dev.nc ↑n).openTick = [i] ∧ s.dev.refractory (↑n) t z = false ∧ (s.dev.nc ↑n).badAxons = []) (states.getD 26 State.reset) (3) (5)) ∧
    ((fun (s : State) (n : Fin 256) (i : Fin 16384) => (s.dev.nc ↑n).failed = false ∧ SMap.get false (s.dev.nc ↑n).dirty (accKey 0 ↑i) = false ∧ SMap.get false (s.dev.nc ↑n).dirty (accKey 1 ↑i) = false) (states.getD 0 State.reset) (3) (5)) := by decide +kernel

theorem witness_NeuronSnapshots :
    ((fun (s : State) (n : Fin 256) => s.dev.fenced (Reg.ncNsel ↑n) = false) (states.getD 0 State.reset) (3)) ∧
    ((fun (s : State) (n : Fin 256) (i : Nat) => (s.dev.nc ↑n).snap = some i) (states.getD 23 State.reset) (3) (5)) := by decide +kernel

theorem witness_PlasticUpdates :
    ((fun (s : State) (n : Fin 256) (ev : NcEvent) => (s.dev.nc ↑n).failed = false ∧ nextPlastic (s.dev.nc ↑n) = some ev) (states.getD 24 State.reset) (3) ({ axon := 5, tick := 700, mult := 2, payload := 256 })) ∧
    ((fun (s : State) (n : Fin 256) (b : Fin 4) (u : Upd) (us : List Upd) => SMap.get [] (s.dev.nc ↑n).banks ↑b = u :: us ∧ (s.dev.nc ↑n).failed = false ∧ (s.dev.nc ↑n).heldUpd = [] ∧ hdCist (headerOf (s.dev.nc ↑n) u.header) = false) (states.getD 16 State.reset) (3) (1) ({ header := 5, cist := false, word := 5, kind := Sys2Proof.Machine.UpdKind.sprout 4660 2 }) ([])) ∧
    ((fun (s : State) (n : Fin 256) => (s.dev.nc ↑n).failed = true) (states.getD 31 State.reset) (3)) := by decide +kernel

end W18

namespace W19

def offs : List Nat := [0x40040, 0x40100, 0x40044, 0x40118, 0x40042, 0x40060, Reg.jnWsel, 0x44000, 0x1000, 0x50400, 0x7000, 0x100000, 0x4003C, 0x2000 + 0x40000 * 32]
def r0 : Dev := dirtyRegs 3 [0x40040, 0x40044, 0x40100, 0x40118, 0x3C, 0x40] running
def nap : Dev := r0.setFld Reg.pwrStat 18 16 psNap
def sv : Dev := { (r0.setReg Reg.vciStat 0x100) with vci := { r0.vci with svcMask := 0xFFFF, coresStopped := 2 }, harts := ⟨[(0, { held := false, mode := .u, csr := ⟨[(0x305, 0x8003)]⟩ }), (1, { held := false, mode := .u }), (15, { held := false, mode := .u, csr := ⟨[(0x305, 0x8003)]⟩ })]⟩ }
def states : List State := [sv, running, nap, { r0 with pwr := { r0.pwr with d3hot := true } }, r0.setReg Reg.sbCtl 1, r0.setReg Reg.sbCtl 0].map mk

theorem witness_RegisterWrites :
    ((fun (s : State) (m : Master) (off : BitVec 25) => s.dev.reaches m = true ∧ off.toNat % 4 = 0 ∧ 262144 ≤ off.toNat ∧ off.toNat < 327680 ∧ s.dev.fenced off.toNat = false ∧ s.dev.assigned off.toNat = true) (states.getD 0 State.reset) (Sys2Proof.Master.host) (0x0040040#25)) ∧
    ((fun (s : State) (m : Master) (off : BitVec 25) => s.dev.reaches m = true ∧ off.toNat % 4 ≠ 0) (states.getD 0 State.reset) (Sys2Proof.Master.host) (0x0040042#25)) ∧
    ((fun (s : State) (m : Master) (off : BitVec 25) => s.dev.reaches m = true ∧ off.toNat % 4 = 0 ∧ off.toNat < 16777216 ∧ off.toNat ≠ Reg.glbReset ∧ s.dev.fenced (canonReg off.toNat) = true) (states.getD 2 State.reset) (Sys2Proof.Master.host) (0x0108044#25)) ∧
    ((fun (s : State) (m : Master) (off : BitVec 25) => s.dev.reaches m = true ∧ off.toNat % 4 = 0 ∧ off.toNat < 16777216 ∧ s.dev.fenced (canonReg off.toNat) = false ∧ s.dev.assigned off.toNat = false) (states.getD 0 State.reset) (Sys2Proof.Master.host) (0x0044000#25)) ∧
    ((fun (s : State) (k : Fin 16) => s.dev.serves ↑k = true ∧ s.dev.fenced Reg.jnWsel = false) (states.getD 0 State.reset) (0)) ∧
    ((fun (s : State) (k : Fin 16) (off : BitVec 25) => s.dev.serves ↑k = true ∧ off.toNat < 16777216 ∧ canonReg off.toNat ≠ Reg.jnWsel) (states.getD 0 State.reset) (0) (0x0040040#25)) ∧
    ((fun (s : State) (k : Fin 16) => s.dev.serves ↑k = false) (states.getD 0 State.reset) (1)) ∧
    ((fun (s : State) (k : Fin 16) => s.dev.coreRuns ↑k = false) (states.getD 0 State.reset) (1)) := by decide +kernel

theorem witness_ContendingWrites :
    ((fun (s : State) (m k : Master) (off : BitVec 25) (v w : Word) (ws : List RegWrite) => s.dev.reaches m = true ∧ s.dev.reaches k = true ∧ rankOf m < rankOf k ∧ off.toNat % 4 = 0 ∧ 262144 ≤ off.toNat ∧ off.toNat < 327680 ∧ s.dev.fenced off.toNat = false ∧ s.dev.assigned off.toNat = true ∧ s.dev.lockBit ((findReg off.toNat).elim Lock.never fun (x : RegRow) => x.lock) off.toNat = false ∧ ws ∈ [[{ m := m, value := v }, { m := k, value := w }], [{ m := k, value := w }, { m := m, value := v }]]) (states.getD 0 State.reset) (Sys2Proof.Master.host) (Sys2Proof.Master.mp) (0x0040040#25) (0x00000000#32) (0x00000000#32) [⟨.host, 0, none⟩, ⟨.mp, 0, none⟩]) ∧
    ((fun (s : State) (m k : Master) (off : BitVec 25) (v w : Word) (n : Fin 32) (ws : List RegWrite) => s.dev.reaches m = true ∧ s.dev.reaches k = true ∧ rankOf m < rankOf k ∧ off.toNat % 4 = 0 ∧ 262144 ≤ off.toNat ∧ off.toNat < 327680 ∧ s.dev.fenced off.toNat = false ∧ s.dev.assigned off.toNat = true ∧ s.dev.lockBit ((findReg off.toNat).elim Lock.never fun (x : RegRow) => x.lock) off.toNat = false ∧ ws ∈ [[{ m := m, value := v }, { m := k, value := w, bit := some n }], [{ m := k, value := w, bit := some n }, { m := m, value := v }]]) (states.getD 0 State.reset) (Sys2Proof.Master.host) (Sys2Proof.Master.mp) (0x0040040#25) (0x00000000#32) (0x00000000#32) (0) [⟨.host, 0, none⟩, ⟨.mp, 0, some 0⟩]) := by decide +kernel

theorem witness_RequestsOfTheHost :
    ((fun (s : State) (off : BitVec 25) (dws : Nat) (be : BitVec 4) => s.dev.reaches Master.host = true ∧ legalRequest off.toNat dws be.toNat = false) (states.getD 0 State.reset) (0x0040040#25) (1) (0x7#4)) ∧
    ((fun (s : State) (off : BitVec 25) (dws : Nat) (be : BitVec 4) => s.dev.reaches Master.host = true ∧ legalRequest off.toNat dws be.toNat = false ∧ 262144 ≤ off.toNat ∧ off.toNat < 327680 ∧ s.dev.fenced (off.toNat / 4 * 4) = false ∧ s.dev.assigned (off.toNat / 4 * 4) = true) (states.getD 0 State.reset) (0x0040040#25) (1) (0x7#4)) ∧
    ((fun (s : State) (off : BitVec 25) => s.dev.reaches Master.host = true ∧ off.toNat % 8 = 0 ∧ 262144 ≤ off.toNat ∧ off.toNat < 327680) (states.getD 0 State.reset) (0x0040040#25)) := by decide +kernel

theorem witness_BitAlias :
    ((fun (s : State) (m : Master) (off : BitVec 25) => let a : Nat := off.toNat / 128 * 4; s.dev.reaches m = true ∧ off.toNat < 16777216 ∧ 262144 ≤ a ∧ a < 327680 ∧ s.dev.fenced a = false ∧ s.dev.assigned a = true) (states.getD 0 State.reset) (Sys2Proof.Master.host) (0x0802000#25)) ∧
    ((fun (s : State) (m : Master) (n : Fin 32) => s.dev.reaches m = true ∧ s.dev.fenced (Reg.mbxLock ↑n) = false) (states.getD 0 State.reset) (Sys2Proof.Master.host) (0)) ∧
    ((fun (s : State) (m : Master) (v : Word) => s.dev.reaches m = true ∧ s.dev.fenced Reg.tbCap = false ∧ BitVec.getLsbD v 0 = true) (states.getD 0 State.reset) (Sys2Proof.Master.host) (0x00000001#32)) := by decide +kernel

theorem witness_SidebandTransactions :
    ((fun (s : State) (off : BitVec 24) (v : Word) (pec : Option Byte) => s.dev.reaches Master.sideband = true ∧ off.toNat % 4 = 0 ∧ (s.dev.flag Reg.sbCtl 0 = false ∨ Option.map (fun (x : Byte) => BitVec.toNat x) pec = some (s.dev.pecOf (1 :: offBytes off.toNat ++ List.map (fun (x : Byte) => BitVec.toNat x) (toBytes 4 (BitVec.toNat v)))))) (states.getD 0 State.reset) (0x040040#24) (0x12345678#32) (some 0x6d#8)) ∧
    ((fun (s : State) (c : Byte) (off : BitVec 24) (v : Word) (pec : Option Byte) => s.dev.reaches Master.sideband = true ∧ s.dev.flag Reg.sbCtl 0 = true ∧ Option.map (fun (x : Byte) => BitVec.toNat x) pec ≠ some (s.dev.pecOf (BitVec.toNat c :: offBytes off.toNat ++ List.map (fun (x : Byte) => BitVec.toNat x) (toBytes 4 (BitVec.toNat v))))) (states.getD 0 State.reset) (0x01#8) (0x040040#24) (0x00000000#32) (none)) ∧
    ((fun (s : State) (c : Byte) (off : BitVec 24) => s.dev.reaches Master.sideband = true ∧ s.dev.flag Reg.sbCtl 0 = false ∧ (c ≠ 1 ∨ off.toNat % 4 ≠ 0)) (states.getD 1 State.reset) (0x01#8) (0x040041#24)) ∧
    ((fun (s : State) (off : BitVec 24) => s.dev.reaches Master.sideband = true ∧ 262144 ≤ off.toNat ∧ off.toNat < 327680 ∧ s.dev.fenced (off.toNat / 4 * 4) = false ∧ s.dev.assigned (off.toNat / 4 * 4) = true) (states.getD 0 State.reset) (0x040040#24)) := by decide +kernel

end W19

namespace W20

def pk (row col axon tick : Nat) : Nat := mkPacket 1 1 row col 3 axon tick 2 0x100
def wr (d : Dev) (r : Nat) (x : Router) : Dev := d.setRouter r x
def base : Dev := running
def ib (l : List Nat) (port vc : Nat) : SMap (List Nat) := ⟨[(port*5+vc, l)]⟩
def full : SMap (List Nat) := ⟨[(15, List.replicate 8 1)]⟩
def ps : List Nat := [0, 9, pk 1 8 5 700, pk 1 0x10 5 700, pk 1 0x100 5 700, pk 2 8 5 700, pk 5 8 5 700, pk 4 0x18 5 700]
def rt (tbl : List (Nat × Nat)) (d : Dev) : Dev := tbl.foldl (fun d x => d.setReg x.1 x.2) d
def inj (x : Router) : Dev := wr base 3 { x with openTick := 700 }
def evp (g : Nat) : Nat := putBits (pk 1 8 5 700) 79 76 g
def cplp (dev ack : Nat) : Nat := 3 + dev * 2^52 + ack * 2^60
def routed (d : Dev) : Dev := (d.setReg (Reg.lkRoute 2) 0x80000001).setReg (Reg.lkRoutePmask 2) 0
def lp (seq dev : Nat) : Nat := tagged (putBits (putBits (pk 1 8 5 700) 107 96 seq) 19 4 dev) 0 2 0 7
def landing (q : Nat) (x : Landing) (d : Dev) : Dev := { d.setPort 0 { landing := ⟨[(0, [q])]⟩ } with bar := { d.bar with landing := ⟨[(515, x)]⟩ } }
def pool : List Dev :=
  ps.map (fun p => inj { inbuf := ib [p, 77] 4 0 }) ++
  [(inj { inbuf := ib [pk 1 8 5 700] 4 0 }).setNc 3 { failed := true },
   (inj { inbuf := ib [pk 1 0x10 5 700] 4 0 }).setRouter 4 { inbuf := full },
   inj { repl := [⟨0, [(1, 55), (2, 66)]⟩] }, inj { repl := [⟨0, [(1, 55)]⟩] }, 
   inj { fromNc := [evp 0, 5] }, inj { fromNc := [evp 2] }, (inj { fromNc := [evp 2] }).setReg (Reg.rtGrpCtl 3 2) 0x80000005,
   inj { inject := [⟨pk 3 8 5 700, [0], 4⟩] }, inj { inject := [⟨pk 3 8 5 700, [2], 4⟩] },
   routed (inj { inject := [⟨pk 3 8 5 700, [2], 4⟩], nextSeq := ⟨[(2, 300)]⟩ }),
   inj { cpls := [cplp 2 5], nextSeq := ⟨[(2, 7)]⟩ }, inj { cpls := [cplp 2 5], nextSeq := ⟨[(2, 4)]⟩ },
   landing (lp 5 1) {next := 5} base, landing (lp 5 1) {next := 6} base, landing (lp 505 1) {next := 6} base, landing (lp 8 1) {next := 6, seen := 4} base,
   landing (putBits (lp 5 1) 3 0 12) {} base, inj { inbuf := ib [pk 3 0x18 5 700, 77] 4 0 }, (((inj { inbuf := ib [pk 5 8 5 700, 77] 4 0, repl := List.replicate 32 ⟨0,[(1,5)]⟩ }))), ((inj { inbuf := ib [pk 0xC 8 5 700, 77] 4 0, outAt := ⟨[(0,1001)]⟩ })), (inj { inbuf := ⟨[(20, [pk 1 8 5 700]), (21, [putBits (pk 1 8 5 700) 3 0 2])]⟩ }), (inj { inbuf := ⟨[(5, [pk 1 8 5 700]), (20, [pk 1 8 5 700])]⟩ }), (inj { inbuf := ib [pk 4 0x18 5 700, 77] 4 0 }).setRouter 4 { inbuf := full } |>.setRouter 19 {inbuf := ⟨[(0, List.replicate 8 1)]⟩}, routed (landing 0 {next := 9, again := true} base),  landing (lp 5 1) {next := 5} (base.setReg Reg.mrCplBatch 16),
   routed (landing 0 {next := 9, pend := 3} base), (routed (landing 0 {next := 9, pend := 3} base)).setFlag (Reg.lkPortStat 1) 2 true,
   ((routed (landing 0 {next := 9, pend := 3} base)).setFlag (Reg.lkPortStat 1) 2 true).setPort 1 { replay := List.replicate 64 ⟨0, [], 0⟩ }, base]
def states : List State := pool.map mk

theorem witness_PacketsAtARouter :
    ((fun (s : State) (r : Fin 256) (port : Fin 7) (vc : Fin 5) (p : Nat) (ps : List Nat) => s.dev.inBuf ↑r ↑port ↑vc = p :: ps ∧ (pkClass p = 0 ∨ 8 < pkClass p)) (states.getD 0 State.reset) (3) (4) (0) (0) ([77])) ∧
    ((fun (s : State) (r : Fin 256) (port : Fin 7) (p : Nat) (ps : List Nat) => s.dev.inBuf (↑r) (↑port) 0 = p :: ps ∧ pkClass p = clsEvt ∧ tagPort p = 0 ∧ treeOuts (↑r) (↑port) p = [pL] ∧ s.dev.granted (↑r) pL 0 ↑port = true ∧ (s.dev.nc ↑r).failed = false ∧ s.dev.ncTakes ↑r = true ∧ pkTick p = (s.dev.router ↑r).openTick % 65536 ∧ (s.dev.router ↑r).openTick < 2 ^ 32) (states.getD 2 State.reset) (3) (4) (665263035846022869413829136148856849) ([77])) ∧
    ((fun (s : State) (r : Fin 256) (port : Fin 7) (p : Nat) (ps : List Nat) => s.dev.inBuf (↑r) (↑port) 0 = p :: ps ∧ pkClass p = clsEvt ∧ tagPort p = 0 ∧ treeOuts (↑r) (↑port) p = [pL] ∧ s.dev.granted (↑r) pL 0 ↑port = true ∧ (s.dev.nc ↑r).failed = true) (states.getD 8 State.reset) (3) (4) (665263035846022869413829136148856849) ([])) ∧
    ((fun (s : State) (r m : Fin 256) (port : Fin 7) (p o : Nat) (ps : List Nat) => s.dev.inBuf (↑r) (↑port) 0 = p :: ps ∧ pkClass p = clsEvt ∧ tagPort p = 0 ∧ treeOuts (↑r) (↑port) p = [o] ∧ s.dev.neighbour (↑r) o = some ↑m ∧ o < 4 ∧ s.dev.granted (↑r) o 0 ↑port = true) (states.getD 3 State.reset) (3) (4) (4) (665263035846022869413829685904670737) (1) ([77])) ∧
    ((fun (s : State) (r m : Fin 256) (port : Fin 7) (p o : Nat) (ps : List Nat) => s.dev.inBuf (↑r) (↑port) 0 = p :: ps ∧ pkClass p = clsEvt ∧ tagPort p = 0 ∧ treeOuts (↑r) (↑port) p = [o] ∧ s.dev.neighbour (↑r) o = some ↑m ∧ o < 4 ∧ s.dev.granted (↑r) o 0 ↑port = false) (states.getD 9 State.reset) (3) (4) (4) (665263035846022869413829685904670737) (1) ([])) ∧
    ((fun (s : State) (r : Fin 256) (port : Fin 7) (p : Nat) (ps : List Nat) => let n : Nat := (List.filter (fun (e : Repl) => e.vc == 0) (s.dev.router ↑r).repl).length; s.dev.inBuf (↑r) (↑port) 0 = p :: ps ∧ pkClass p = clsEvt ∧ tagPort p = 0 ∧ 2 ≤ (treeOuts (↑r) (↑port) p).length ∧ 32 ≤ n) (states.getD 26 State.reset) (3) (4) (665263035846022869413829136153051153) ([77])) ∧
    ((fun (s : State) (r : Fin 256) (port : Fin 7) (p : Nat) (ps : List Nat) => let n : Nat := (List.filter (fun (e : Repl) => e.vc == 0) (s.dev.router ↑r).repl).length; s.dev.inBuf (↑r) (↑port) 0 = p :: ps ∧ pkClass p = clsEvt ∧ tagPort p = 0 ∧ 2 ≤ (treeOuts (↑r) (↑port) p).length ∧ n < 32 ∧ ∀ (o : Nat), o ∈ treeOuts (↑r) (↑port) p → s.dev.outRoom (↑r) o 0 = false) (states.getD 30 State.reset) (3) (4) (665263035846022869413830235663630353) ([77])) ∧
    ((fun (s : State) (r m : Fin 256) (o : Fin 4) (p : Nat) (bs : List (Nat × Nat)) (rs : List Repl) => (s.dev.router ↑r).repl = { vc := 0, branches := (↑o, p) :: bs } :: rs ∧ s.dev.neighbour ↑r ↑o = some ↑m ∧ s.dev.granted (↑r) (↑o) 0 7 = true) (states.getD 10 State.reset) (3) (4) (1) (55) ([(2, 66)]) ([])) := by decide +kernel

theorem witness_InjectionAndWindows :
    ((fun (s : State) (r : Fin 256) (p : Nat) (ps : List Nat) => let g : Nat := bits p 79 76; let q : Nat := putBits p 79 76 0; (s.dev.router ↑r).inject = [] ∧ (s.dev.router ↑r).fromNc = p :: ps ∧ (s.dev.router ↑r).pond.length < 4096 ∧ g = 0 ∧ s.dev.devList (pkDev q) ≠ []) (states.getD 12 State.reset) (3) (665263035846022869413829136148856849) ([5])) ∧
    ((fun (s : State) (r : Fin 256) (p : Nat) (ps : List Nat) => let g : Nat := bits p 79 76; (s.dev.router ↑r).inject = [] ∧ (s.dev.router ↑r).fromNc = p :: ps ∧ (s.dev.router ↑r).pond.length < 4096 ∧ g ≠ 0 ∧ s.dev.flag (Reg.rtGrpCtl (↑r) g) 31 = false) (states.getD 13 State.reset) (3) (665263035846173985141280964795695121) ([])) ∧
    ((fun (s : State) (r : Fin 256) (p : Nat) (ps : List Nat) => let g : Nat := bits p 79 76; (s.dev.router ↑r).inject = [] ∧ (s.dev.router ↑r).fromNc = p :: ps ∧ (s.dev.router ↑r).pond.length < 4096 ∧ g ≠ 0 ∧ s.dev.flag (Reg.rtGrpCtl (↑r) g) 31 = true ∧ s.dev.flag (Reg.rtGrpCtl (↑r) g) 30 = false ∧ s.dev.fld (Reg.rtGrpCtl (↑r) g) 5 0 ≠ 0) (states.getD 14 State.reset) (3) (665263035846173985141280964795695121) ([])) ∧
    ((fun (s : State) (r : Fin 256) (i : Inject) (is : List Inject) => (s.dev.router ↑r).inject = i :: is ∧ i.port = pL ∧ tagPort i.pkt = 0 ∧ i.devs = [s.dev.ownDev] ∧ pkClass i.pkt = clsEvt ∧ s.dev.bufRoom (↑r) pL 0 = true ∧ pkTick i.pkt = (s.dev.router ↑r).openTick % 65536 ∧ (s.dev.router ↑r).openTick < 2 ^ 32 ∧ s.dev.outIdle (↑r) 6 = true) (states.getD 15 State.reset) (3) ({ pkt := 665263035846022869413829136150954001, devs := [0], port := 4 }) ([])) ∧
    ((fun (s : State) (r : Fin 256) (i : Inject) (is : List Inject) (v : Nat) => let out : Nat := (SMap.get 0 (s.dev.router ↑r).nextSeq v + 4096 - SMap.get 0 (s.dev.router ↑r).acked v) % 4096; (s.dev.router ↑r).inject = i :: is ∧ tagPort i.pkt = 0 ∧ i.devs = [v] ∧ v ≠ s.dev.ownDev ∧ pkClass i.pkt = clsEvt ∧ s.dev.outIdle (↑r) 6 = true ∧ s.dev.routeTo v ≠ none ∧ max 1 (s.dev.fld (Reg.rtWin ↑r) 8 0) ≤ out) (states.getD 17 State.reset) (3) ({ pkt := 665263035846022869413829136150954001, devs := [2], port := 4 }) ([]) (2)) ∧
    ((fun (s : State) (r : Fin 256) (i : Inject) (is : List Inject) (v : Nat) => (s.dev.router ↑r).inject = i :: is ∧ tagPort i.pkt = 0 ∧ i.devs = [v] ∧ v ≠ s.dev.ownDev ∧ pkClass i.pkt = clsEvt ∧ s.dev.outIdle (↑r) 6 = true ∧ s.dev.routeTo v = none) (states.getD 16 State.reset) (3) ({ pkt := 665263035846022869413829136150954001, devs := [2], port := 4 }) ([]) (2)) ∧
    ((fun (s : State) (r : Fin 256) (c : Nat) (cs : List Nat) => (s.dev.router ↑r).cpls = c :: cs) (states.getD 18 State.reset) (3) (5773614722288975875) ([])) := by decide +kernel

theorem witness_LandingAndCompletions :
    ((fun (s : State) (p : Fin 4) (q : Nat) => s.dev.landHead (↑p) (s.dev.landOk ↑p) = some (0, q) ∧ pkClass q = clsEvt ∧ s.dev.landDst q = s.dev.ownDev) (states.getD 20 State.reset) (0) (1361794731115740689294233946830941454353)) ∧
    ((fun (s : State) (p : Fin 4) (v q : Nat) => s.dev.landHead (↑p) (s.dev.landOk ↑p) = some (v, q) ∧ (pkClass q = 0 ∨ 8 < pkClass q)) (states.getD 24 State.reset) (0) (0) (1361794731115740689294233946830941454364)) ∧
    ((fun (s : State) => (s.dev.bar.landing.cells.all fun (c : Nat × Landing) => c.snd.pend == 0 && !c.snd.again) = true) (states.getD 0 State.reset)) ∧
    ((fun (s : State) (k : Nat) (x : Landing) (o : Nat) (rev : Bool) => s.dev.bar.landing.cells = [(k, x)] ∧ (x.pend ≠ 0 ∨ x.again = true) ∧ s.dev.routeTo (k / 256) = some (o, rev) ∧ s.dev.flag (Reg.lkPortCfg o) 21 = false ∧ s.dev.canReserve o 2 = true) (states.getD 31 State.reset) (515) ({ next := 9, seen := 0, pend := 0, again := true }) (1) (false)) := by decide +kernel

end W20

namespace W21

def cl (force : Bool) (t : Nat) : Close := { tick := t, at_ := 1500, q := 2, force := force }
def base : Dev := (running.setFlag Reg.mrStat 1 true).setReg Reg.mrTick 700
def allR (d : Dev) : Dev := (List.range 256).foldl (fun d r => d.setRouter r { openTick := 700, sent := ⟨[(0, 5), (1,2)]⟩, recv := ⟨[(0,3)]⟩ }) d
def r1 : Dev := allR base
def cp (k : Bool) : Nat := closePacket (cl k 700)
def withBar (k : Bool) (r : Nat) (x : Router) : Dev := r1.setRouter r { x with inbuf := ⟨[(2, [cp k, 9])]⟩ }
def rt0 : Router := { openTick := 700 }
def multi (d : Dev) : Dev := (((d.setFld Reg.mrDevid 12 8 2).setReg Reg.lkTsync 0x80000002).setFlag (Reg.lkPortStat 1) 2 true).setPort 1 { replay := List.replicate 64 ⟨0, [], 0⟩ }
def dr : Router := { openTick := 701, drainOut := true, inbuf := ⟨[(2, [drainPkt 701])]⟩ }
def quiet : Dev := (List.range 256).foldl (fun d r => d.setRouter r { openTick := 701, drainIn := 15 }) { (base.setReg Reg.mrTick 701).setFlag Reg.mrStat 3 true with bar := { drainTick := some 700 } }
def pool : List Dev := [r1, withBar false 0 rt0, withBar true 0 rt0, withBar false 0 { rt0 with openTick := 701 }, withBar false 0 { rt0 with close := some (cl true 700) },
  { multi r1 with bar := { closed := some (cl false 700), unheard := [cl true 699, cl false 700] } }, { multi r1 with bar := { unheard := [cl true 699, cl false 700], children := ⟨[(1, ⟨700, 5, 7, true, true⟩)]⟩ } }, { multi r1 with bar := { unheard := [cl true 699], children := ⟨[(1, ⟨700, 0, 0, true, true⟩)]⟩ } },
  { withBar false 118 rt0 with tb := { tbc := 1600, running := true } }, withBar false 118 rt0, withBar true 112 rt0, (withBar false 118 rt0).setRouter 102 { inbuf := ⟨[(12, List.replicate 8 1), (2, List.replicate 8 1)]⟩ }, withBar false 118 { rt0 with reports := ⟨[(0, ⟨700, 2^32-1, 7, true, true⟩), (1, ⟨700, 2^32-1, 7, true, true⟩), (2, ⟨699, 2^32-1, 7, true, true⟩), (3, ⟨700, 2, 7, false, true⟩)]⟩ },
  ({ r1 with vci := { r1.vci with resume := some 700 } }.setRouter 119 { (r1.router 119) with close := some (cl false 700), pond := [⟨700, 3⟩, ⟨705, 5⟩] }).setRouter 118 { rt0 with close := some (cl true 700), pond := [⟨699, 3⟩, ⟨704, 5⟩], sent := ⟨[(0, 5), (1,2)]⟩, recv := ⟨[(0,3)]⟩ },
  r1.setRouter 119 { (r1.router 119) with close := some (cl false 700) }, r1.setRouter 119 { (r1.router 119) with close := some (cl true 700) },
  (r1.setRouter 119 { (r1.router 119) with close := some (cl true 700) }).setFlag Reg.mrStat 0 true,
  r1.setRouter 0 dr, { withBar false 0 rt0 with tb := { tbc := 1600, running := true } }, r1.setRouter 0 { dr with drainIn := 4, repl := [⟨0,[(1,3)]⟩] }, r1.setRouter 0 { dr with drainIn := 4 }, r1.setRouter 17 { dr with drainIn := 14 }, r1.setRouter 17 { dr with drainIn := 12 }, quiet, quiet.setFlag Reg.mrStat 4 true]
def states : List State := pool.map mk

theorem witness_ReportsAndCloses :
    ((fun (s : State) (r m : Fin 256) => ↑r ≠ rootRouter ∧ s.dev.hasRouter ↑r = true ∧ s.dev.flow = true ∧ s.dev.neighbour (↑r) (parentDir ↑r) = some ↑m ∧ s.dev.granted (↑r) (parentDir ↑r) 2 7 = true ∧ s.dev.drainTickNow (s.dev.router ↑r).openTick = false) (states.getD 0 State.reset) (0) (1)) ∧
    ((fun (s : State) (r : Fin 256) (port p : Nat) => s.dev.barrierHead (↑r) kindClose = some (port, p) ∧ ↑r ≠ rootRouter ∧ (s.dev.router ↑r).openTick = bkTick p ∧ s.dev.openTick = bkTick p ∧ s.dev.tb.tbc ≤ nearTbc s.dev.tb.tbc (bits p 75 44) ∧ (s.dev.router ↑r).close = none) (states.getD 1 State.reset) (0) (0) (151115753840107716329492)) ∧
    ((fun (s : State) (r : Fin 256) (port p : Nat) => s.dev.barrierHead (↑r) kindForce = some (port, p) ∧ ↑r ≠ rootRouter ∧ (s.dev.router ↑r).openTick = bkTick p ∧ s.dev.openTick = bkTick p ∧ s.dev.tb.tbc ≤ nearTbc s.dev.tb.tbc (bits p 75 44) ∧ (s.dev.router ↑r).close = none) (states.getD 2 State.reset) (0) (0) (151115753840107716329508)) ∧
    ((fun (s : State) (r : Fin 256) (port p : Nat) => s.dev.barrierHead (↑r) kindClose = some (port, p) ∧ ↑r ≠ rootRouter ∧ (s.dev.router ↑r).openTick = bkTick p ∧ s.dev.openTick = bkTick p ∧ nearTbc s.dev.tb.tbc (bits p 75 44) < s.dev.tb.tbc ∧ (s.dev.router ↑r).close = none) (states.getD 8 State.reset) (118) (0) (151115753840107716329492)) ∧
    ((fun (s : State) (r : Fin 256) (c : Close) (port p : Nat) => s.dev.barrierHead (↑r) kindClose = some (port, p) ∧ ((s.dev.router ↑r).openTick ≠ bkTick p ∨ (s.dev.router ↑r).close = some c)) (states.getD 3 State.reset) (0) ({ tick := 700, at_ := 1500, q := 2, force := false, dev := 0 }) (0) (151115753840107716329492)) ∧
    ((fun (d : Dev) => d.childPorts ≠ []) (states.getD 5 State.reset).dev) ∧
    ((fun (s : State) (p : Fin 4) => s.dev.childPorts.contains ↑p = true ∧ s.dev.inUse ↑p = true ∧ 64 ≤ (s.dev.port ↑p).replay.length) (states.getD 5 State.reset) (1)) ∧
    ((fun (s : State) (p : Fin 4) => s.dev.childPorts.contains ↑p = false ∨ ∀ (c : Close), c ∈ s.dev.bar.unheard → s.dev.childPast c ↑p = true) (states.getD 0 State.reset) (0)) := by decide +kernel

theorem witness_TickCloseOpensTheNextTick :
    ((fun (s : State) (c : Close) => (s.dev.router rootRouter).close = some c ∧ c.tick = s.dev.openTick ∧ s.dev.flow = true ∧ c.at_ < 2 ^ 64) (states.getD 13 State.reset) ({ tick := 700, at_ := 1500, q := 2, force := false, dev := 0 })) ∧
    ((fun (s : State) => (s.dev.router rootRouter).close = none ∨ s.dev.flow = false) (states.getD 0 State.reset)) := by decide +kernel

theorem witness_DrainsOfTheFabric :
    ((fun (s : State) (r : Fin 256) (port : Fin 4) (p : Nat) (ps : List Nat) => s.dev.inBuf (↑r) (↑port) 2 = p :: ps ∧ pkClass p = clsDrain ∧ (s.dev.router ↑r).drainOut = true) (states.getD 17 State.reset) (0) (0) (2871304) ([])) ∧
    ((fun (s : State) => s.dev.fabricQuiet = true ∧ s.dev.flag Reg.mrStat 4 = false ∧ s.dev.jobHead 19 = none) (states.getD 23 State.reset)) ∧
    ((fun (s : State) => s.dev.fabricQuiet = false) (states.getD 0 State.reset)) := by decide +kernel

end W21

namespace W22

def sm (l : List (Nat × Nat)) : SMap Nat := ⟨l⟩
def rq (rd wr n : Nat) : Dev := ((running.setReg Reg.jnRqCfg n).setReg Reg.jnRqRd rd).setReg Reg.jnRqWr wr
def jn (x : Junction) : Dev := { running with jn := x }
def tp (p : Nat) (d : Dev) : Dev := d.setReg (Reg.trgoCtl p) 0x00090001
def nap : Dev := (running.setFld Reg.pwrStat 18 16 psNap).setReg Reg.pwrWakeEn 0xFFFFFFFF
def sen : Dev := (running.setFld Reg.pwrStat 18 16 psSentinel).setReg Reg.pwrWakeEn 0xFFFFFFFF
def pool : List Dev := [(tp 1 running).setReg (Reg.trgoTime 1) 0x00100003, { tp 1 running with tb := { running.tb with outAt := 2, lineAt := 8 } }, nap.setReg (Reg.trgiCtl 1) 0x80300200, sen, (tp 1 sen).setTrigOut 1 ⟨.width, 990, 1010, 1⟩, (tp 1 sen).setTrigOut 1 ⟨.width, 990, 1010, 3⟩,
  { running with lineLast := ⟨[(3, (1001, 3)), (5, (990, 5))]⟩ }.setReg Reg.pwrRaceMhz 200, running, running.setFld Reg.pwrStat 18 16 psBasic, jn { adds := [(3, 5, 7), (1,1,1)], wctr := sm [(5, 9)] }, jn { adds := [(3, 5, 0xFFFFFFFF)], wctr := sm [(5, 9), (6, 8)] },
  rq 3 5 16, { rq 15 2 16 with jn := { kept := ⟨[(15, (1, 2, 3))]⟩ } }, tp 1 running, (tp 1 running).setTrigOut 1 ⟨.width, 990, 1010, 5⟩, (tp 1 running).setTrigOut 1 ⟨.holdoff, 990, 1020, 1⟩,
  ((tp 1 running).setTrigOut 1 ⟨.width, 990, 1010, 5⟩).setReg (Reg.trgoTime 1) 0x00100020, 
  { (tp 1 running) with tb := { running.tb with running := false } }, { (running) with tb := { running.tb with running := false } },
  running.setReg (Reg.trgiCtl 1) 0x80300200, (running.setReg (Reg.trgiCtl 1) 0x80300200).setFlag Reg.mrStat 1 true, (running.setReg (Reg.trgiCtl 1) 0x80300000).setFlag Reg.mrStat 1 true, ((running.setReg (Reg.trgiCtl 1) 0x80300000).setFlag Reg.mrStat 1 true).setReg (Reg.trgiAxon 1) 77]
def states : List State := pool.map mk

theorem witness_WindowAddsAndTheRecordQueue :
    ((fun (s : State) (n k v : Nat) (l : List (Nat × Nat × Nat)) => s.dev.jn.adds = (n, k, v) :: l) (states.getD 9 State.reset) (3) (5) (7) ([(1, 1, 1)])) ∧
    ((fun (s : State) => s.dev.fenced Reg.jnRqRd = false) (states.getD 0 State.reset)) ∧
    ((fun (s : State) => s.dev.fenced Reg.jnRqSkip = false ∧ s.dev.fld Reg.jnRqRd 15 0 ≠ s.dev.fld Reg.jnRqWr 15 0) (states.getD 11 State.reset)) ∧
    ((fun (s : State) => s.dev.fenced Reg.jnRqSkip = false ∧ s.dev.fld Reg.jnRqRd 15 0 = s.dev.fld Reg.jnRqWr 15 0) (states.getD 0 State.reset)) := by decide +kernel

theorem witness_TriggerOutputs :
    ((fun (s : State) (p : Fin 8) => s.dev.flag (Reg.trgoCtl ↑p) 0 = true ∧ (s.dev.trigOut ↑p).phase = TrigPhase.idle ∧ s.dev.inSentinel = false ∧ bit s.dev.tb.outAt ↑p = false) (states.getD 0 State.reset) (1)) ∧
    ((fun (s : State) (p : Fin 8) => s.dev.flag (Reg.trgoCtl ↑p) 0 = true ∧ (s.dev.trigOut ↑p).phase ≠ TrigPhase.idle ∧ bit s.dev.tb.outAt ↑p = false) (states.getD 4 State.reset) (1)) ∧
    ((fun (s : State) (p : Fin 8) => s.dev.flag (Reg.trgoCtl ↑p) 0 = false ∨ bit s.dev.tb.outAt ↑p = true) (states.getD 0 State.reset) (2)) ∧
    ((fun (s : State) (p : Fin 8) (v : Word) => s.dev.fenced (Reg.trgoCtl ↑p) = false ∧ BitVec.getLsbD v 0 = false) (states.getD 0 State.reset) (1) (0x00000000#32)) ∧
    ((fun (s : State) (p : Fin 8) (v : Word) => s.dev.fenced (Reg.trgoCtl ↑p) = false ∧ BitVec.getLsbD v 0 = true ∧ BitVec.getLsbD v 2 = true ∧ (s.dev.trigOut ↑p).phase = TrigPhase.idle ∧ s.dev.inSentinel = false ∧ bit s.dev.tb.outAt ↑p = false) (states.getD 0 State.reset) (1) (0x00000005#32)) ∧
    ((fun (s : State) (p : Fin 8) => s.dev.inSentinel = false ∧ s.dev.tbOn = true ∧ (s.dev.trigOut ↑p).phase = TrigPhase.width) (states.getD 14 State.reset) (1)) ∧
    ((fun (d : Dev) (p : Fin 8) => (d.trigOut ↑p).phase = TrigPhase.width ∧ (d.trgoTime ↑p).snd = 0) (states.getD 4 State.reset).dev (1)) ∧
    ((fun (s : State) (p : Fin 8) => s.dev.inSentinel = false ∧ s.dev.tbOn = true ∧ (s.dev.trigOut ↑p).phase = TrigPhase.holdoff) (states.getD 15 State.reset) (1)) ∧
    ((fun (s : State) (p : Fin 8) => (s.dev.trigOut ↑p).phase ≠ TrigPhase.width) (states.getD 0 State.reset) (1)) ∧
    ((fun (s : State) (p : Fin 8) => (s.dev.trigOut ↑p).phase ≠ TrigPhase.holdoff) (states.getD 0 State.reset) (1)) ∧
    ((fun (d : Dev) (p : Fin 8) => (d.trigOut ↑p).phase = TrigPhase.width ∧ 1 < (d.trigOut ↑p).left) (states.getD 5 State.reset).dev (1)) ∧
    ((fun (d : Dev) (p : Fin 8) => (d.trigOut ↑p).phase = TrigPhase.width ∧ (d.trigOut ↑p).left ≤ 1) (states.getD 4 State.reset).dev (1)) ∧
    ((fun (s : State) => s.dev.networkOn = false) (states.getD 3 State.reset)) ∧
    ((fun (s : State) (line : Fin 16) => s.dev.networkOn = true ∧ bit s.dev.tb.lineAt ↑line = true) (states.getD 1 State.reset) (3)) ∧
    ((fun (s : State) (line : Fin 16) => s.dev.networkOn = true ∧ bit s.dev.tb.lineAt ↑line = false ∧ s.dev.tbOn = false ∧ s.dev.inSentinel = false ∧ ∀ (p : Fin 8), bit (s.dev.fld (Reg.trgoCtl ↑p) 31 16) ↑line = false) (states.getD 17 State.reset) (5)) ∧
    ((fun (d : Dev) (n line : Nat) => (SMap.get (0, 0) d.lineLast line).snd = n ∨ 1600 + d.rn Reg.pwrRaceMhz ≤ (d.tb.tbc + 1 - (SMap.get (0, 0) d.lineLast line).fst) * d.rn Reg.pwrRaceMhz) (states.getD 6 State.reset).dev (3) (3)) := by decide +kernel

theorem witness_TriggerInputs :
    ((fun (s : State) (i : Fin 4) (falling : Bool) => s.dev.flag (Reg.trgiCtl ↑i) 9 ≠ falling) (states.getD 0 State.reset) (1) (true)) ∧
    ((fun (s : State) (i : Fin 4) (falling : Bool) => s.dev.flag (Reg.trgiCtl ↑i) 9 = falling ∧ s.dev.flag (Reg.trgiCtl ↑i) 8 = false) (states.getD 0 State.reset) (1) (false)) := by decide +kernel

end W22

namespace W23

def pon (d : Dev) : Dev := (List.range 4).foldl (fun d j => d.setReg (Reg.pondState j) 0xFFFFFFFF) d
def pd : Dev := (pon running).putBytes 0x1000 (List.replicate 16 0xF3)
def ddr (d : Dev) : Dev := ((d.setReg Reg.memDdrSizeLo 0).setReg Reg.memDdrSizeHi 1).setReg Reg.memDdrStat 0xF0
def ps (l : List (Nat × Nat)) (d : Dev) : Dev := { d with pondTo := ⟨l⟩ }
def svc (d : Dev) : Dev := (Dev.setFlag { d with vci := { d.vci with svcMask := 6, coresDown := 4, masks := ⟨[(3, 8), (4, 0xFF)]⟩ } } Reg.vciStat 8 true)
def rq (d : Dev) : Dev := (((d.setReg Reg.jnRqCfg 16).setReg Reg.jnRqRd 3).setReg Reg.jnRqWr 5).setReg Reg.jnRqBaseLo 0x2000
def rec1 : List Byte := toBytes 9 0 ++ toBytes 1 3 ++ toBytes 1 1 ++ toBytes 53 7
def rqd : Dev := { (rq pd).putBytes (0x2000 + 3 * 64) rec1 with vci := { binds := ⟨[(3, 7)]⟩ } }
def awake (d : Dev) : Dev := { d with harts := ⟨(List.range 16).map (fun k => (k, { held := false, mode := .u, pc := k, csr := ⟨[(0x305, 0x8003)]⟩ }))⟩ }
def pool : List Dev := [pd, ps [(1, 1)] (pd.putBytes 0x80010 [5, 6]), ps [(1, 4), (0,2)] pd, (ps [(1,3)] pd).setReg (Reg.pondState 0) 0x12345678, running,
  (ddr pd).putBytes ddrBase [1,2,3], svc running, svc { running with vci := { replies := ⟨[(3, [])]⟩ } }, rqd, (rq running).setReg (Reg.pondState 0) 0, rq { (running.setReg (Reg.pondState 0) 0) with jn := { retried := true } },
  { rqd with vci := { rqd.vci with svcMask := 0xFFFF } }, { rqd with rings := ⟨[(7, { put := [rec1] })]⟩ }, { running with fuses := { bad := [(3, 2)] } } ]
def states : List State := (pool ++ pool.map awake).map mk

theorem witness_PondAtomics :
    ((fun (s : State) (q : PondReq) => let n : Nat := if q.wide = true then 8 else 4; let a : Nat := q.addr.toNat; (q.op = PondOp.add ∨ q.op = PondOp.swap) ∧ s.dev.acts q.who = true ∧ (∀ (k : Fin 16), q.who ≠ Master.service k) ∧ s.dev.placeOf a n = Place.pond ∧ a % n = 0 ∧ s.dev.readBad a n = false) (states.getD 0 State.reset) ({ toPondWord := { addr := 0x0001000#25, wide := false, value := 0x00000000fffffffe#64 }, who := Sys2Proof.Master.mp, op := Sys2Proof.PondOp.add })) ∧
    ((fun (s : State) (q : PondReq) => let n : Nat := if q.wide = true then 8 else 4; let a : Nat := q.addr.toNat; (q.op = PondOp.add ∨ q.op = PondOp.swap) ∧ s.dev.acts q.who = true ∧ (∀ (k : Fin 16), q.who ≠ Master.service k) ∧ (a % n ≠ 0 ∨ s.dev.placeOf a n = Place.pondOff)) (states.getD 3 State.reset) ({ toPondWord := { addr := 0x0001000#25, wide := false, value := 0x00000000fffffffe#64 }, who := Sys2Proof.Master.mp, op := Sys2Proof.PondOp.add })) ∧
    ((fun (s : State) (q : PondReq) (k : Fin 16) => (q.op = PondOp.amo ∨ q.op = PondOp.lr ∨ q.op = PondOp.sc) ∧ q.who = Master.core k ∧ s.dev.coreRuns ↑k = true) (states.getD 14 State.reset) ({ toPondWord := { addr := 0x0001000#25, wide := false, value := 0x0000000000000000#64 }, who := Sys2Proof.Master.core 1, op := Sys2Proof.PondOp.lr }) (1)) ∧
    ((fun (s : State) (p q : PondReq) => let n : Nat := if p.wide = true then 8 else 4; let a : Nat := p.addr.toNat; q.addr = p.addr ∧ q.wide = p.wide ∧ p.addr.toNat / 524288 < 4 ∧ s.dev.acts p.who = true ∧ s.dev.acts q.who = true ∧ (∀ (k : Fin 16), p.who ≠ Master.service k ∧ q.who ≠ Master.service k) ∧ p.op ∈ [PondOp.read, PondOp.write, PondOp.add, PondOp.swap] ∧ q.op ∈ [PondOp.read, PondOp.write, PondOp.add, PondOp.swap] ∧ s.dev.placeOf a n = Place.pond ∧ a % n = 0 ∧ s.dev.readBad a n = false) (states.getD 0 State.reset) ({ toPondWord := { addr := 0x0001000#25, wide := false, value := 0x00000000fffffffe#64 }, who := Sys2Proof.Master.mp, op := Sys2Proof.PondOp.add }) ({ toPondWord := { addr := 0x0001000#25, wide := false, value := 0x00000000fffffffe#64 }, who := Sys2Proof.Master.mp, op := Sys2Proof.PondOp.add })) ∧
    ((fun (s : State) (p q : PondReq) => p.op = PondOp.write ∧ q.op = PondOp.write ∧ s.dev.acts p.who = true ∧ s.dev.acts q.who = true ∧ (∀ (k : Fin 16), p.who ≠ Master.service k ∧ q.who ≠ Master.service k) ∧ s.dev.placeOf p.addr.toNat ((fun (r : PondReq) => if r.wide = true then 8 else 4) p) = Place.pond ∧ s.dev.placeOf q.addr.toNat ((fun (r : PondReq) => if r.wide = true then 8 else 4) q) = Place.pond) (states.getD 0 State.reset) ({ toPondWord := { addr := 0x0001000#25, wide := false, value := 0x0000000055aa1122#64 }, who := Sys2Proof.Master.host, op := Sys2Proof.PondOp.write }) ({ toPondWord := { addr := 0x0001000#25, wide := false, value := 0x0000000055aa1122#64 }, who := Sys2Proof.Master.host, op := Sys2Proof.PondOp.write })) := by decide +kernel

theorem witness_PondBankPower :
    ((fun (s : State) (j : Fin 4) => s.dev.fenced (Reg.pondPwr ↑j) = false) (states.getD 0 State.reset) (0)) ∧
    ((fun (s : State) (b : Fin 64) => SMap.get 0 s.dev.pondTo ↑b = 0) (states.getD 0 State.reset) (0)) ∧
    ((fun (s : State) (b : Fin 64) (v : Nat) => SMap.get 0 s.dev.pondTo ↑b = v + 1 ∧ v < 4) (states.getD 1 State.reset) (1) (0)) := by decide +kernel

theorem witness_DdrReads :
    ((fun (s : State) (o : BitVec 39) => let a : Nat := ddrBase + o.toNat / 64 * 64; s.dev.isDdr a = true) (states.getD 5 State.reset) (0x0000000000#39)) ∧
    ((fun (s : State) (o : BitVec 39) => s.dev.isDdr (ddrBase + o.toNat / 64 * 64) = false) (states.getD 0 State.reset) (0x0000000000#39)) := by decide +kernel

theorem witness_ServiceProgramAndForwarding :
    ((fun (s : State) (k : Fin 16) => s.dev.serves ↑k = true) (states.getD 20 State.reset) (1)) ∧
    ((fun (s : State) (k : Fin 16) => s.dev.serves ↑k = false) (states.getD 0 State.reset) (0)) ∧
    ((fun (s : State) => let a : Nat := s.dev.rqAddr (s.dev.fld Reg.jnRqRd 15 0); let bad : Bool := s.dev.rqOut a || s.dev.readBad a 64; s.dev.forwarders ≠ [] ∧ s.dev.rqUsed ≠ 0 ∧ s.dev.forwarding = false ∧ bad = false) (states.getD 22 State.reset)) ∧
    ((fun (s : State) => let a : Nat := s.dev.rqAddr (s.dev.fld Reg.jnRqRd 15 0); let bad : Bool := s.dev.rqOut a || s.dev.readBad a 64; s.dev.forwarders ≠ [] ∧ s.dev.rqUsed ≠ 0 ∧ s.dev.forwarding = false ∧ bad = true ∧ s.dev.jn.retried = false) (states.getD 23 State.reset)) ∧
    ((fun (s : State) => let a : Nat := s.dev.rqAddr (s.dev.fld Reg.jnRqRd 15 0); let bad : Bool := s.dev.rqOut a || s.dev.readBad a 64; s.dev.forwarders ≠ [] ∧ s.dev.rqUsed ≠ 0 ∧ s.dev.forwarding = false ∧ bad = true ∧ s.dev.jn.retried = true) (states.getD 24 State.reset)) ∧
    ((fun (s : State) => s.dev.forwarders = [] ∨ s.dev.rqUsed = 0 ∨ s.dev.forwarding = true) (states.getD 0 State.reset)) ∧
    ((fun (d : Dev) (k : Fin 16) => d.serves ↑k = true) (states.getD 20 State.reset).dev (1)) := by decide +kernel

end W23

namespace W24

def mbx (full : Bool) (o n : Nat) (w : Nat) (d : Dev) : Dev := (((d.setOwner n o).setReg (Reg.h2mStatus n) (b2n full)).setReg (Reg.h2mData n) w).setReg (Reg.h2mAck n) 0x80000005
def svc (d : Dev) : Dev := d.setFlag Reg.secBootStat 31 true
def cmdW (tag op imm : Nat) : Nat := tag * 2^23 + op * 2^16 + imm
def rp : Reply := ⟨5, 0x20, 0, [7, 8, 0xFFFFFFFFF], 4, false⟩
def rp2 : Reply := ⟨6, 0x7F, 3, [1,2,3], 0, true⟩
def rep (l : List Reply) (d : Dev) : Dev := { d with vci := { d.vci with replies := ⟨[(3, l)]⟩ } }
def awake (d : Dev) : Dev := { d with harts := ⟨(List.range 16).map (fun k => (k, { held := false, mode := .u, pc := k, csr := ⟨[(0x305, 0x8003)]⟩ }))⟩ }
def pool : List Dev := [running.setFld Reg.pwrStat 18 16 psSentinel, running.setFld Reg.secLc 2 0 5, running.setFld Reg.pwrStat 18 16 psNap, rep [rp] (running.setOwner 3 20), rep [rp] (running.setOwner 3 3), rep [rp] (running.setOwner 3 1), running, mbx false 1 3 0 running, mbx true 1 3 0 running, mbx false 5 3 9 running, (mbx false 3 3 9 running).setReg (Reg.m2hStatus 3) 1,
  rep [rp2, rp] running, rep [rp, rp2] running, rep [rp] (running.setOwner 3 4), rep [rp] (running.setReg (Reg.m2hStatus 3) 1), svc running,
  svc (mbx true 4 3 (cmdW 7 0x10 0) running), svc (mbx true 4 3 (cmdW 7 0 77) running), svc (mbx true 1 3 (cmdW 7 0x40 77) running), svc (mbx true 1 3 (cmdW 7 2 77) running),
  { svc (mbx true 1 3 (cmdW 7 0 77) running) with vci := { jobq := [{tag := 7, op := 0x10, imm := 0, pair := 0, owner := 1, args := []}] } }]
def states : List State := (pool ++ pool.map awake).map mk

theorem witness_PairLocks :
    ((fun (s : State) (n : Fin 32) (m : Master) (ms : List Master) => s.dev.fenced (Reg.mbxLock ↑n) = false ∧ ms.all s.dev.reaches = true ∧ s.dev.pairOwner ↑n = 0 ∧ firstReader ms = some m ∧ ownerOf m < 32) (states.getD 2 State.reset) (0) (Sys2Proof.Master.host) ([Sys2Proof.Master.host])) ∧
    ((fun (s : State) (n : Fin 32) (ms : List Master) => s.dev.fenced (Reg.mbxLock ↑n) = false ∧ s.dev.pairOwner ↑n ≠ 0 ∧ ms.all s.dev.reaches = true) (states.getD 3 State.reset) (3) ([Sys2Proof.Master.host])) ∧
    ((fun (s : State) (n : Fin 32) (m : Master) => s.dev.fenced (Reg.mbxLock ↑n) = false ∧ s.dev.reaches m = true) (states.getD 2 State.reset) (0) (Sys2Proof.Master.host)) ∧
    ((fun (s : State) (m : Master) => s.dev.reaches m = false ∧ ∀ (k : Fin 16), m ≠ Master.service k) (states.getD 0 State.reset) (Sys2Proof.Master.host)) ∧
    ((fun (s : State) (n : Fin 32) (ms : List Master) => s.dev.fenced (Reg.mbxLock ↑n) = true ∧ ms ≠ [] ∧ ms.all s.dev.reaches = true) (states.getD 1 State.reset) (0) ([Sys2Proof.Master.host])) ∧
    ((fun (s : State) (n : Fin 32) (m : Master) => s.dev.fenced (Reg.mbxLock ↑n) = true ∧ s.dev.reaches m = true) (states.getD 1 State.reset) (0) (Sys2Proof.Master.host)) := by decide +kernel

theorem witness_MailboxWords :
    ((fun (s : State) (n : Fin 32) (m : Master) => s.dev.fenced (Reg.h2mData ↑n) = false ∧ s.dev.reaches m = true ∧ s.dev.pairOwner ↑n = ownerOf m ∧ s.dev.h2mFull ↑n = false) (states.getD 3 State.reset) (3) (Sys2Proof.Master.sentinel)) ∧
    ((fun (s : State) (n : Fin 32) (m : Master) => s.dev.fenced (Reg.h2mData ↑n) = false ∧ s.dev.reaches m = true ∧ (s.dev.pairOwner ↑n ≠ ownerOf m ∨ s.dev.h2mFull ↑n = true)) (states.getD 2 State.reset) (0) (Sys2Proof.Master.host)) ∧
    ((fun (s : State) (n : Fin 32) (k : Fin 16) (m : Master) => s.dev.fenced (Reg.vciArgs (16 * ↑n + ↑k)) = false ∧ s.dev.reaches m = true ∧ s.dev.pairOwner ↑n = ownerOf m ∧ s.dev.h2mFull ↑n = false) (states.getD 3 State.reset) (3) (0) (Sys2Proof.Master.sentinel)) ∧
    ((fun (s : State) (n : Fin 32) (k : Fin 16) (m : Master) => s.dev.fenced (Reg.vciArgs (16 * ↑n + ↑k)) = false ∧ s.dev.reaches m = true ∧ s.dev.pairOwner ↑n ≠ ownerOf m) (states.getD 2 State.reset) (0) (0) (Sys2Proof.Master.host)) ∧
    ((fun (s : State) (n : Fin 32) (m : Master) => s.dev.fenced (Reg.m2hData ↑n) = false ∧ s.dev.reaches m = true ∧ s.dev.pairOwner ↑n = ownerOf m) (states.getD 3 State.reset) (3) (Sys2Proof.Master.sentinel)) ∧
    ((fun (s : State) (n : Fin 32) (m : Master) => s.dev.fenced (Reg.m2hData ↑n) = false ∧ s.dev.reaches m = true ∧ s.dev.pairOwner ↑n ≠ ownerOf m) (states.getD 2 State.reset) (0) (Sys2Proof.Master.host)) ∧
    ((fun (s : State) (n : Fin 32) (m : Master) => s.dev.fenced (Reg.m2hAck ↑n) = false ∧ s.dev.reaches m = true ∧ s.dev.pairOwner ↑n = ownerOf m) (states.getD 3 State.reset) (3) (Sys2Proof.Master.sentinel)) ∧
    ((fun (s : State) (n : Fin 32) (m : Master) => s.dev.fenced (Reg.m2hAck ↑n) = false ∧ s.dev.reaches m = true ∧ s.dev.pairOwner ↑n ≠ ownerOf m) (states.getD 2 State.reset) (0) (Sys2Proof.Master.host)) := by decide +kernel

theorem witness_ScansAndCompletions :
    ((fun (s : State) (n : Fin 32) => s.dev.serving = true ∧ List.filter s.dev.h2mFull (List.range 32) = [↑n]) (states.getD 8 State.reset) (3)) ∧
    ((fun (s : State) => s.dev.serving = true ∧ List.filter s.dev.h2mFull (List.range 32) = []) (states.getD 0 State.reset)) ∧
    ((fun (s : State) (n : Fin 32) (r : Reply) (rs : List Reply) => SMap.get [] s.dev.vci.replies ↑n = r :: rs ∧ s.dev.m2hFull ↑n = false ∧ r.res.length < 16) (states.getD 3 State.reset) (3) ({ tag := 5, op := 32, code := 0, res := [7, 8, 68719476735], owner := 4, event := false }) ([])) ∧
    ((fun (s : State) (n : Fin 32) => SMap.get [] s.dev.vci.replies ↑n = [] ∨ s.dev.m2hFull ↑n = true) (states.getD 0 State.reset) (0)) := by decide +kernel

end W24

namespace W25

def pon (d : Dev) : Dev := (List.range 4).foldl (fun d j => d.setReg (Reg.pondState j) 0xFFFFFFFF) (d.setFlag Reg.hifStat 3 true)
def pd : Dev := { (pon running).putBytes 0x1000 ((List.range 80).map (fun i => BitVec.ofNat 8 (i+1))) with bme := true }
def vec (c s m : Nat) (d : Dev) : Dev := (((d.setReg (Reg.intVecCount 5) c).setReg (Reg.intVecSeen 5) s).setReg (Reg.msixCtl 5) m).setReg (Reg.msixData 5) 0x1234
def cd (d : Dev) : Dev := ((((d.setReg (Reg.cdCtl 2) 1).setReg (Reg.cdStat 2) 1).setReg (Reg.cdSize 2) 4).setReg (Reg.cdRingLo 2) 0x8000).setReg (Reg.cdCplLo 2) 0x9000
def desc (d : Dev) : Dev := d.putBytes (hostBase + 0x8000) (toBytes 8 0x1000 ++ toBytes 8 0x3000 ++ toBytes 4 63 ++ toBytes 2 77 ++ toBytes 10 0)
def x : Desc := ⟨0, 0x1000, 0x3000, 64, 77, false, false⟩
def srec : List Byte := toBytes 10 0 ++ toBytes 1 0x10 ++ toBytes 47 5 ++ toBytes 2 1 ++ toBytes 4 9
def big : List Byte := toBytes 10 0 ++ toBytes 1 0x10 ++ toBytes 47 5 ++ toBytes 2 40 ++ toBytes 4 9
def rg (l : List (List Byte)) (d : Dev) : Dev := (((({ d with rings := ⟨[(2, { put := l })]⟩ }.setReg (Reg.hrCtl 2) 1).setReg (Reg.hrSize 2) 16).setReg (Reg.hrBaseLo 2) 0x10000).setReg (Reg.hrWr 2) 17).setReg (Reg.hrRd 2) 10
def dd : Dev := { ((pd.setReg Reg.memDdrSizeHi 4).setReg Reg.hifBar2BaseHi (ddrBase / 2 ^ 32)).setReg Reg.hifBar2BaseLo (ddrBase % 2 ^ 32) with bme := true }
def waits : Dev := { (cd (vec 3 2 0 running)).setOwner 3 1 with hostWait := [⟨.msix 5, 0x4000, [1,2,3,4]⟩, ⟨.report, 0x100, [1]⟩, ⟨.ring 2, 0x300, []⟩, ⟨.conduit 2, 0, []⟩, ⟨.fetch, 0, []⟩, ⟨.journal, 0, []⟩], rings := ⟨[(2, { put := [srec], sent := [big] })]⟩, conduits := ⟨[(2, { active := [x], next := 1 })]⟩ }
def jobd (d : Dev) : Dev := { (d.setFld Reg.vciStat 2 0 3).setFlag Reg.mrStat 1 true with vci := { d.vci with jobq := [⟨7, 0x10, 0, 3, 1, [], true⟩, ⟨8, 0x10, 0, 3, 1, [], false⟩], active := [⟨9, 0x30, 0, 3, 1, [], true⟩] } }
def pool : List Dev := [dd, { ((pd.setFld Reg.pwrStat 18 16 psSentinel).setReg Reg.pwrWakeEn 1) with pins := { pd.pins with perstN := false } }, { ((pd.setFld Reg.pwrStat 18 16 psNap).setReg Reg.pwrWakeEn 1) with pwr := { link := .l1, exitTold := true } }, { (pd.setFld Reg.pwrStat 18 16 psSentinel) with pwr := { exitTo := some 1, exitTold := true, link := .down } }, waits, jobd waits, waits.setFld Reg.secBootStat 3 0 5, { pd with pwr := { link := .down } }, { pd with pwr := { link := .l2 } }, pd.setFld Reg.pwrStat 18 16 psSentinel, { cd pd with pwr := { d3hot := true, link := .l0 } }, (vec 3 2 0 pd).setFlag (Reg.msixPba 0) 5 true, pd, running, { pd with pwr := { d3hot := true, link := .l0 } }, pd.setReg (Reg.pondState 0) 0, pd.setReg Reg.hifBar2BaseHi 1,
  { running with hostWait := [⟨.msix 5, 0x4000, [1,2,3,4]⟩] }, vec 3 2 0 pd, vec 3 2 1 pd, (vec 3 2 1 pd).setFlag (Reg.msixPba 0) 5 true, { vec 3 2 1 pd with fnMask := true },
  cd pd, desc ((cd pd).setReg (Reg.cdHead 2) 3), desc ((cd pd).setReg (Reg.cdHead 2) 3) |>.setConduit 2 { next := 1, active := [x] },
  rg [srec] pd, rg [big] pd, rg [] pd, ((pd.setOwner 3 1).setReg (Reg.h2mStatus 3) 1).setOwner 4 9, (cd (vec 3 2 0 running)).setConduit 2 { active := [x], next := 1 }]
def states : List State := pool.map mk

theorem witness_DeviceMemoryOverBar2 :
    ((fun (s : State) (off : BitVec 34) (data : List Byte) => let a : Nat := s.dev.rn64 Reg.hifBar2BaseLo Reg.hifBar2BaseHi + off.toNat; let n : Nat := data.length; let p : Place := s.dev.placeOf a n; s.dev.reaches Master.host = true ∧ data ≠ [] ∧ p = Place.pond) (states.getD 2 State.reset) (0x000001000#34) ([0x01#8])) ∧
    ((fun (s : State) (off : BitVec 34) (data : List Byte) => let a : Nat := s.dev.rn64 Reg.hifBar2BaseLo Reg.hifBar2BaseHi + off.toNat; let n : Nat := data.length; let p : Place := s.dev.placeOf a n; s.dev.reaches Master.host = true ∧ data ≠ [] ∧ p = Place.ddr ∧ ddrBase + 1073741824 ≤ a) (states.getD 0 State.reset) (0x040001000#34) ([0x01#8])) ∧
    ((fun (s : State) (off : BitVec 34) (data : List Byte) => let a : Nat := s.dev.rn64 Reg.hifBar2BaseLo Reg.hifBar2BaseHi + off.toNat; let n : Nat := data.length; let p : Place := s.dev.placeOf a n; s.dev.reaches Master.host = true ∧ data ≠ [] ∧ p ≠ Place.pond ∧ (p ≠ Place.ddr ∨ a < ddrBase + 1073741824)) (states.getD 0 State.reset) (0x000001000#34) ([0x01#8])) ∧
    ((fun (s : State) (off : BitVec 34) (n : Nat) => let a : Nat := s.dev.rn64 Reg.hifBar2BaseLo Reg.hifBar2BaseHi + off.toNat; let p : Place := s.dev.placeOf a n; s.dev.reaches Master.host = true ∧ 0 < n ∧ n < 4096 ∧ p = Place.pond ∧ s.dev.readBad a n = false) (states.getD 2 State.reset) (0x000001000#34) (1)) ∧
    ((fun (s : State) (off : BitVec 34) (n : Nat) => let a : Nat := s.dev.rn64 Reg.hifBar2BaseLo Reg.hifBar2BaseHi + off.toNat; let p : Place := s.dev.placeOf a n; s.dev.reaches Master.host = true ∧ 0 < n ∧ n < 4096 ∧ p = Place.ddr ∧ ddrBase + 1073741824 ≤ a ∧ s.dev.readBad a n = false) (states.getD 0 State.reset) (0x040001000#34) (1)) ∧
    ((fun (s : State) (off : BitVec 34) (n : Nat) => let a : Nat := s.dev.rn64 Reg.hifBar2BaseLo Reg.hifBar2BaseHi + off.toNat; let p : Place := s.dev.placeOf a n; s.dev.reaches Master.host = true ∧ 0 < n ∧ n < 4096 ∧ p ≠ Place.pond ∧ (p ≠ Place.ddr ∨ a < ddrBase + 1073741824)) (states.getD 0 State.reset) (0x000001000#34) (1)) ∧
    ((fun (s : State) => s.dev.reaches Master.host = false) (states.getD 1 State.reset)) ∧
    ((fun (d : Dev) => d.pwr.d3hot = true ∨ d.pwr.link = PcieLink.l2 ∨ d.pwr.link = PcieLink.down ∨ d.pwrState = psSentinel) (states.getD 1 State.reset).dev) := by decide +kernel

theorem witness_RequestsAndInterrupts :
    ((fun (s : State) => s.dev.hostWait = [] ∧ ((List.range 32).all fun (r : Nat) => (s.dev.ring r).sent.isEmpty) = true) (states.getD 0 State.reset)) ∧
    ((fun (s : State) (q : HostReq) (v : Nat) => s.dev.hostWait = [q] ∧ q.sender = HostSender.msix v ∧ ((List.range 32).all fun (r : Nat) => (s.dev.ring r).sent.isEmpty) = true) (states.getD 17 State.reset) ({ sender := Sys2Proof.Machine.HostSender.msix 5, addr := 16384, data := [0x01#8, 0x02#8, 0x03#8, 0x04#8] }) (5)) ∧
    ((fun (s : State) (v : Fin 64) (x : Word) => s.dev.reaches Master.host = true ∧ s.dev.fenced (Reg.intVecSeen ↑v) = false ∧ x = s.dev.reg (Reg.intVecCount ↑v)) (states.getD 0 State.reset) (5) (0x00000000#32)) ∧
    ((fun (s : State) (v : Fin 64) (x : Word) => s.dev.reaches Master.host = true ∧ s.dev.fenced (Reg.intVecSeen ↑v) = false ∧ x ≠ s.dev.reg (Reg.intVecCount ↑v) ∧ s.dev.bme = true ∧ s.dev.masked ↑v = false) (states.getD 11 State.reset) (5) (0x00000000#32)) ∧
    ((fun (s : State) (v : Fin 64) (x : Word) => s.dev.reaches Master.host = true ∧ s.dev.fenced (Reg.intVecSeen ↑v) = false ∧ x ≠ s.dev.reg (Reg.intVecCount ↑v) ∧ s.dev.flag (Reg.msixCtl ↑v) 0 = true) (states.getD 0 State.reset) (5) (0x00000001#32)) ∧
    ((fun (s : State) (v : Fin 64) => s.dev.flag (Reg.msixPba (↑v / 32)) (↑v % 32) = true ∧ s.dev.fnMask = false ∧ s.dev.flag Reg.hifStat 3 = true ∧ s.dev.reaches Master.host = true ∧ s.dev.fenced (Reg.msixCtl ↑v) = false) (states.getD 11 State.reset) (5)) ∧
    ((fun (s : State) (v : Fin 64) => s.dev.reaches Master.host = true ∧ s.dev.fenced (Reg.msixCtl ↑v) = false ∧ s.dev.flag (Reg.msixPba (↑v / 32)) (↑v % 32) = false) (states.getD 0 State.reset) (5)) ∧
    ((fun (s : State) => s.dev.reaches Master.host = false) (states.getD 1 State.reset)) := by decide +kernel

theorem witness_FunctionStatesAndResets :
    ((fun (s : State) => (s.dev.hostWait.any fun (q : HostReq) => q.sender == HostSender.report) = true) (states.getD 4 State.reset)) := by decide +kernel

theorem witness_ConduitChannels :
    ((fun (s : State) (c : Fin 16) (v : Word) => s.dev.fenced (Reg.cdCtl ↑c) = false ∧ BitVec.getLsbD v 0 = true ∧ s.dev.flag (Reg.cdCtl ↑c) 0 = false) (states.getD 0 State.reset) (2) (0x00000001#32)) ∧
    ((fun (s : State) (c : Fin 16) (v : Word) => s.dev.fenced (Reg.cdCtl ↑c) = false ∧ BitVec.getLsbD v 0 = false ∧ s.dev.flag (Reg.cdCtl ↑c) 0 = true ∧ s.dev.cdRun ↑c = true ∧ (s.dev.conduit ↑c).active = []) (states.getD 10 State.reset) (2) (0x00000000#32)) ∧
    ((fun (s : State) (c : Fin 16) => s.dev.fenced (Reg.cdHead ↑c) = false ∧ s.dev.cdRun ↑c = true ∧ (s.dev.conduit ↑c).active = []) (states.getD 10 State.reset) (2)) ∧
    ((fun (s : State) (c : Fin 16) => s.dev.cdRun ↑c = true ∧ cdAhead s.dev ↑c = true ∧ ((s.dev.conduit ↑c).next + 2 ^ 32 - s.dev.rn (Reg.cdCplrd ↑c)) % 2 ^ 32 < s.dev.cdSize ↑c ∧ (s.dev.conduit ↑c).active = [] ∧ s.dev.bme = true) (states.getD 23 State.reset) (2)) ∧
    ((fun (s : State) (c : Fin 16) => s.dev.cdRun ↑c = false ∨ cdAhead s.dev ↑c = false) (states.getD 0 State.reset) (2)) ∧
    ((fun (s : State) (c : Fin 16) (x : Desc) => (s.dev.conduit ↑c).active = [x] ∧ s.dev.bme = true ∧ x.int = false ∧ x.bad = false ∧ x.index < 2 ^ 32 ∧ s.dev.placeOf x.src x.len = Place.pond ∧ s.dev.placeOf x.dst x.len = Place.pond ∧ s.dev.badMem.cells = [] ∧ 0 < x.len) (states.getD 24 State.reset) (2) ({ index := 0, src := 4096, dst := 12288, len := 64, tag := 77, int := false, bad := false })) := by decide +kernel

theorem witness_HostRings :
    ((fun (s : State) (r : Fin 32) => s.dev.fenced (Reg.hrCtl ↑r) = false) (states.getD 0 State.reset) (2)) ∧
    ((fun (s : State) (r : Fin 32) => s.dev.reaches Master.host = true ∧ s.dev.fenced (Reg.hrRd ↑r) = false) (states.getD 0 State.reset) (2)) ∧
    ((fun (s : State) => s.dev.reaches Master.host = false) (states.getD 1 State.reset)) ∧
    ((fun (s : State) (r : Fin 32) => (s.dev.ring ↑r).put = []) (states.getD 0 State.reset) (2)) ∧
    ((fun (s : State) (r : Fin 32) (bs : List Byte) (l : List (List Byte)) => (s.dev.ring ↑r).put = bs :: l ∧ s.dev.ringOn ↑r = true ∧ s.dev.rn (Reg.hrSize ↑r) < recUnits bs) (states.getD 26 State.reset) (2) ([0x00#8, 0x00#8, 0x00#8, 0x00#8, 0x00#8, 0x00#8, 0x00#8, 0x00#8, 0x00#8, 0x00#8, 0x10#8, 0x05#8, 0x00#8, 0x00#8, 0x00#8, 0x00#8, 0x00#8, 0x00#8, 0x00#8, 0x00#8, 0x00#8, 0x00#8, 0x00#8, 0x00#8, 0x00#8, 0x00#8, 0x00#8, 0x00#8, 0x00#8, 0x00#8, 0x00#8, 0x00#8, 0x00#8, 0x00#8, 0x00#8, 0x00#8, 0x00#8, 0x00#8, 0x00#8, 0x00#8, 0x00#8, 0x00#8, 0x00#8, 0x00#8, 0x00#8, 0x00#8, 0x00#8, 0x00#8, 0x00#8, 0x00#8, 0x00#8, 0x00#8, 0x00#8, 0x00#8, 0x00#8, 0x00#8, 0x00#8, 0x00#8, 0x28#8, 0x00#8, 0x09#8, 0x00#8, 0x00#8, 0x00#8]) ([])) ∧
    ((fun (s : State) (r : Fin 32) (bs : List Byte) (l : List (List Byte)) => let p : Nat := s.dev.rn (Reg.hrWr ↑r) % s.dev.rn (Reg.hrSize ↑r); (s.dev.ring ↑r).put = bs :: l ∧ s.dev.ringOn ↑r = true ∧ recUnits bs + p ≤ s.dev.rn (Reg.hrSize ↑r) ∧ s.dev.ringUsed ↑r + recUnits bs ≤ s.dev.rn (Reg.hrSize ↑r) ∧ fromQueue bs = false ∧ s.dev.bme = true ∧ s.dev.flag (Reg.hrCtl ↑r) 1 = false ∧ s.dev.ringBase ↑r + 64 * p + bs.length ≤ 2 ^ 47 ∧ s.dev.rn64 (Reg.hrWrbackLo ↑r) (Reg.hrWrbackHi ↑r) + 4 ≤ s.dev.ringBase ↑r) (states.getD 25 State.reset) (2) ([0x00#8, 0x00#8, 0x00#8, 0x00#8, 0x00#8, 0x00#8, 0x00#8, 0x00#8, 0x00#8, 0x00#8, 0x10#8, 0x05#8, 0x00#8, 0x00#8, 0x00#8, 0x00#8, 0x00#8, 0x00#8, 0x00#8, 0x00#8, 0x00#8, 0x00#8, 0x00#8, 0x00#8, 0x00#8, 0x00#8, 0x00#8, 0x00#8, 0x00#8, 0x00#8, 0x00#8, 0x00#8, 0x00#8, 0x00#8, 0x00#8, 0x00#8, 0x00#8, 0x00#8, 0x00#8, 0x00#8, 0x00#8, 0x00#8, 0x00#8, 0x00#8, 0x00#8, 0x00#8, 0x00#8, 0x00#8, 0x00#8, 0x00#8, 0x00#8, 0x00#8, 0x00#8, 0x00#8, 0x00#8, 0x00#8, 0x00#8, 0x00#8, 0x01#8, 0x00#8, 0x09#8, 0x00#8, 0x00#8, 0x00#8]) ([])) := by decide +kernel

end W25

namespace W26

def st (v : Nat) (d : Dev) : Dev := (d.setReg (Reg.lkPortStat 1) v).setFlag Reg.lkStat 1 (bit v 2)
def up : Dev := st 7 running
def job (d : Dev) : Dev := d.setFld Reg.vciStat 2 0 3
def pq : LeatPacket := ⟨false, 2, 0, BitVec.ofNat 128 (mkPacket 1 1 1 8 3 5 700 2 0x100)⟩
def cw (seq kind : Nat) (ok : Bool) (ps : List LeatPacket) : Codeword := ⟨BitVec.ofNat 10 seq, BitVec.ofNat 2 kind, ok, 2, 0, false, false, 0, ps⟩
def pr (x : Port) (d : Dev) : Dev := d.setPort 1 x
def cfg (d : Dev) : Dev := d.setReg (Reg.lkCollCfg 3) 0x800001FF
def cfgm (d : Dev) : Dev := d.setReg (Reg.lkCollCfg 3) 0x800201FF
def cl (x : Coll) (d : Dev) : Dev := d.setColl 3 x
def up3 (src seq val down : Nat) : Nat := 7 + 3 * 2^8 + src * 2^12 + seq * 2^16 + val * 2^48 + down * 2^112
def tmo : TimeOut := ⟨0x123, 1000, 5⟩
def tmo2 : TimeOut := ⟨0x113, 900, 5⟩
def routes (d : Dev) : Dev := ((((((d.setReg (Reg.lkRoute 2) 0x80000012).setReg (Reg.lkRoutePmask 2) 1).setReg (Reg.lkRouteRmask 2) 8).setReg (Reg.lkRoute 3) 0x80000021).setReg (Reg.lkRoutePmask 3) 1).setReg (Reg.lkRouteRmask 3) 1).setReg (Reg.lkRoute 5) 0x80000021 |>.setReg (Reg.lkRoutePmask 5) 2
def ups (d : Dev) : Dev := [0, 2, 3].foldl (fun d q => (d.setReg (Reg.lkPortStat q) 7).setFlag Reg.lkStat q true) d
def routed : Dev := (ups (job (routes up))).setRouter 5 { nextSeq := ⟨[(2, 9)]⟩, acked := ⟨[(2, 4)]⟩, inject := [⟨5, [1], 4⟩] }
def pool : List Dev := [routed, routed.setPort 1 { replay := [⟨3, [], 4⟩] }, routed.setReg Reg.lkLinksDown 9, routed.setReg Reg.lkLinksDown 1, (routed.setPort 2 { replay := List.replicate 64 ⟨3, [], 4⟩ }).setReg (Reg.lkPortStat 0) 0, cfgm (cl { pend := true, seen := 1, total := 9, began := 2 } routed), up.setFld Reg.pwrStat 18 16 1, up.setFld Reg.secBootStat 3 0 9, st 3 running |>.setReg Reg.glbVariant 4, { up.setFlag Reg.pwrPadHold 4 true with pwr := { portsWere := 2, link := .l0 } },
  pr { times := [tmo, tmo2], sysid := 7 } up, pr { times := [tmo2], sysid := 7, replay := [⟨3, [], 1⟩] } (up.setReg Reg.lkSysid 7), running, up, up.setReg (Reg.lkPortPartner 1) 0x80021000, up.setReg (Reg.lkPortPartner 1) 0x80022000, pr { rxNext := 5 } up, pr { replay := [⟨3, [], 4⟩] } up, pr { replay := [⟨3, [], 1⟩] } up, st 3 running, st 3 (running.setReg (Reg.lkPortQual 1) 3),
  pr { qualFails := 1 } (st 3 running), (st 0 running).setReg Reg.glbVariant 4, running.setFld Reg.pwrStat 18 16 2, (running.setReg (Reg.lkPortCfg 1) 0x80032000).setReg (Reg.lkPortQual 1) 2, job up, job running, { job running with noticed := 8 }, job ((running.setReg (Reg.lkPortCfg 1) 0x80032000).setReg (Reg.lkPortQual 1) 2),
  cfg (cl { pend := true, seen := 1, total := 9 } running), cfgm (cl { pend := true, seen := 1, total := 9 } running), cfgm (cl { pend := true, seen := 1, total := 9 } (job running)), cfg running]
def states : List State := pool.map mk

theorem witness_CodewordsReceived :
    ((fun (s : State) (p : Fin 4) => s.dev.flag (Reg.lkPortStat ↑p) 1 = false ∨ s.dev.clocksOn = false) (states.getD 4 State.reset) (0)) ∧
    ((fun (s : State) (p : Fin 4) (cw : Codeword) => s.dev.flag (Reg.lkPortStat ↑p) 1 = true ∧ s.dev.clocksOn = true ∧ cw.ok = false) (states.getD 0 State.reset) (0) ({ cwseq := 0x000#10, kind := 0x0#2, ok := false, corrected := 2, ack := 0x000#10, nak := false, ackValid := false, credit := 0x000000000000#48, packets := [] })) ∧
    ((fun (s : State) (p : Fin 4) (cw : Codeword) => s.dev.flag (Reg.lkPortStat ↑p) 1 = true ∧ s.dev.clocksOn = true ∧ cw.ok = true ∧ cw.kind = 0 ∧ cw.cwseq.toNat ≠ (s.dev.port ↑p).rxNext) (states.getD 0 State.reset) (0) ({ cwseq := 0x005#10, kind := 0x0#2, ok := true, corrected := 2, ack := 0x000#10, nak := false, ackValid := false, credit := 0x000000000000#48, packets := [{ set := false, src := 2, dst := 0, pkt := 0x0080200002bc00005030008000100011#128 }] })) ∧
    ((fun (s : State) (p : Fin 4) (cw : Codeword) (q : LeatPacket) => s.dev.flag (Reg.lkPortStat ↑p) 1 = true ∧ s.dev.clocksOn = true ∧ cw.ok = true ∧ cw.kind = 0 ∧ cw.cwseq.toNat = (s.dev.port ↑p).rxNext ∧ s.dev.inUse ↑p = true ∧ cw.packets = [q]) (states.getD 0 State.reset) (0) ({ cwseq := 0x000#10, kind := 0x0#2, ok := true, corrected := 2, ack := 0x000#10, nak := false, ackValid := false, credit := 0x000000000000#48, packets := [{ set := false, src := 2, dst := 0, pkt := 0x0080200002bc00005030008000100011#128 }] }) ({ set := false, src := 2, dst := 0, pkt := 0x0080200002bc00005030008000100011#128 })) ∧
    ((fun (d : Dev) (p : Fin 4) (t : TimeOut) (l : List TimeOut) => d.inUse ↑p = true ∧ (d.port ↑p).replay.length < 64 ∧ (d.port ↑p).times = t :: l ∧ SMap.get 0 (d.port ↑p).used 3 < landSize 3) (states.getD 10 State.reset).dev (1) ({ pkt := 291, due := 1000, fine := 5 }) ([{ pkt := 275, due := 900, fine := 5 }])) := by decide +kernel

theorem witness_TrainingAndQualification :
    ((fun (s : State) (p : Fin 4) => s.dev.isC2 = true ∧ ↑p % 2 = 0 ∨ 2 ≤ s.dev.pwrState ∨ s.dev.fld Reg.secBootStat 3 0 < 10) (states.getD 7 State.reset) (0)) ∧
    ((fun (s : State) (p : Fin 4) => (s.dev.isC2 = false ∨ ↑p % 2 = 1) ∧ s.dev.pwrState < 2 ∧ 10 ≤ s.dev.fld Reg.secBootStat 3 0) (states.getD 0 State.reset) (0)) ∧
    ((fun (s : State) (p : Fin 4) => s.dev.flag (Reg.lkPortStat ↑p) 1 = true ∧ s.dev.flag (Reg.lkPortQual ↑p) 0 = false) (states.getD 0 State.reset) (0)) ∧
    ((fun (s : State) (p : Fin 4) => s.dev.flag (Reg.lkPortStat ↑p) 1 = false ∨ s.dev.flag (Reg.lkPortQual ↑p) 0 = true) (states.getD 4 State.reset) (0)) ∧
    ((fun (d : Dev) (p : Fin 4) => d.flag (Reg.lkPortStat ↑p) 1 = true) (states.getD 0 State.reset).dev (0)) := by decide +kernel

theorem witness_LinksGoDown :
    ((fun (s : State) (p : Fin 4) => s.dev.inUse ↑p = true ∧ s.dev.jobOn = false ∧ s.dev.jobDevs ≤ 1) (states.getD 6 State.reset) (1)) ∧
    ((fun (s : State) (p : Fin 4) => s.dev.inUse ↑p = true ∧ s.dev.jobOn = false ∧ s.dev.jobDevs ≤ 1 ∧ ((s.dev.port ↑p).replay.any fun (c : SentCw) => decide (4 ≤ c.resent)) = true) (states.getD 17 State.reset) (1)) ∧
    ((fun (s : State) (p : Fin 4) => s.dev.inUse ↑p = true ∧ s.dev.jobOn = false ∧ s.dev.jobDevs ≤ 1 ∧ ((s.dev.port ↑p).replay.any fun (c : SentCw) => decide (4 ≤ c.resent)) = false) (states.getD 6 State.reset) (1)) ∧
    ((fun (s : State) (p : Fin 4) => s.dev.inUse ↑p = true ∧ s.dev.jobOn = false ∧ s.dev.jobDevs ≤ 1 ∧ (s.dev.port ↑p).replay ≠ []) (states.getD 11 State.reset) (1)) ∧
    ((fun (s : State) (p : Fin 4) => s.dev.inUse ↑p = true ∧ s.dev.jobOn = false ∧ s.dev.jobDevs ≤ 1 ∧ (s.dev.port ↑p).replay = []) (states.getD 6 State.reset) (1)) ∧
    ((fun (s : State) (p : Fin 4) (sysid : Word) (v : Fin 16) (q : Fin 4) => let x : Nat := b2n (BitVec.toNat sysid == s.dev.rn Reg.lkSysid) * 2 ^ 31 + ↑v * 2 ^ 16 + ↑q * 2 ^ 12; s.dev.inUse ↑p = true ∧ s.dev.jobOn = false ∧ s.dev.jobDevs ≤ 1 ∧ s.dev.flag (Reg.lkPortStat ↑p) 1 = true ∧ s.dev.rn (Reg.lkPortPartner ↑p) ≠ x) (states.getD 6 State.reset) (1) (0x00000000#32) (2) (0)) ∧
    ((fun (s : State) (p : Fin 4) (sysid : Word) (v : Fin 16) (q : Fin 4) => let x : Nat := b2n (BitVec.toNat sysid == s.dev.rn Reg.lkSysid) * 2 ^ 31 + ↑v * 2 ^ 16 + ↑q * 2 ^ 12; s.dev.inUse ↑p = true ∧ s.dev.jobOn = false ∧ s.dev.jobDevs ≤ 1 ∧ s.dev.rn (Reg.lkPortPartner ↑p) = x) (states.getD 14 State.reset) (1) (0x00000000#32) (2) (1)) := by decide +kernel

theorem witness_LinksGoDownDuringAJob :
    ((fun (s : State) (p : Fin 4) => s.dev.inUse ↑p = true ∧ s.dev.jobOn = true) (states.getD 0 State.reset) (0)) ∧
    ((fun (s : State) (p : Fin 4) => s.dev.inUse ↑p = true ∧ s.dev.jobOn = true ∧ ((s.dev.port ↑p).replay.any fun (c : SentCw) => decide (4 ≤ c.resent)) = true) (states.getD 1 State.reset) (1)) ∧
    ((fun (s : State) (p : Fin 4) => s.dev.inUse ↑p = true ∧ s.dev.jobOn = true ∧ (s.dev.port ↑p).replay ≠ []) (states.getD 1 State.reset) (1)) ∧
    ((fun (s : State) (p : Fin 4) (sysid : Word) (v : Fin 16) (q : Fin 4) => s.dev.inUse ↑p = true ∧ s.dev.jobOn = true ∧ s.dev.flag (Reg.lkPortStat ↑p) 1 = true ∧ s.dev.rn (Reg.lkPortPartner ↑p) ≠ b2n (BitVec.toNat sysid == s.dev.rn Reg.lkSysid) * 2 ^ 31 + ↑v * 2 ^ 16 + ↑q * 2 ^ 12) (states.getD 0 State.reset) (0) (0x00000000#32) (2) (0)) ∧
    ((fun (d : Dev) (link : Fin 32) (v : Fin 16) (o : Nat) (r : Fin 256) => d.flag (Reg.lkRoute ↑v) 31 = true ∧ bit (d.rn (Reg.lkRoutePmask ↑v)) ↑link = true ∧ d.routeTo ↑v = some (o, true) ∧ d.hasRouter ↑r = true) (states.getD 3 State.reset).dev (0) (2) (1) (5)) ∧
    ((fun (d : Dev) (link : Fin 32) (v : Fin 16) => d.flag (Reg.lkRoute ↑v) 31 = true ∧ bit (d.rn (Reg.lkRoutePmask ↑v)) ↑link = true ∧ d.routeTo ↑v = none ∧ d.jobOn = true) (states.getD 2 State.reset).dev (0) (2)) := by decide +kernel

theorem witness_LinkDownNotices :
    ((fun (s : State) (l : Fin 32) => bit s.dev.noticed ↑l = true ∨ s.dev.jobOn = false) (states.getD 6 State.reset) (0)) ∧
    ((fun (s : State) (l : Fin 32) => bit s.dev.noticed ↑l = false ∧ s.dev.jobOn = true) (states.getD 0 State.reset) (0)) := by decide +kernel

theorem witness_Collectives :
    ((fun (s : State) (q : QWord) => let g : Nat := bits (BitVec.toNat q) 11 8; let src : Nat := bits (BitVec.toNat q) 15 12; let x : Coll := s.dev.coll g; x.pend = false ∨ s.dev.collRoot g ≠ s.dev.ownDev ∨ bits (BitVec.toNat q) 31 16 ≠ s.dev.collSeq g ∨ bit (s.dev.collMembers g) src = false ∨ bit x.seen src = true) (states.getD 0 State.reset) (0x0000000000000000004d000000004307#128)) ∧
    ((fun (s : State) (q : QWord) => let g : Nat := bits (BitVec.toNat q) 11 8; let src : Nat := bits (BitVec.toNat q) 15 12; let x : Coll := s.dev.coll g; x.pend = true ∧ s.dev.collRoot g = s.dev.ownDev ∧ bits (BitVec.toNat q) 31 16 = s.dev.collSeq g ∧ bit (s.dev.collMembers g) src = true ∧ bit x.seen src = false ∧ s.dev.collOp g ≠ 5 ∧ putBits x.seen src src 1 &&& s.dev.collMembers g ≠ s.dev.collMembers g) (states.getD 29 State.reset) (0x0000000000000000004d000000004307#128)) ∧
    ((fun (s : State) (q : QWord) => let g : Nat := bits (BitVec.toNat q) 11 8; (s.dev.coll g).pend = false ∨ s.dev.collRoot g = s.dev.ownDev ∨ bits (BitVec.toNat q) 31 16 ≠ s.dev.collSeq g) (states.getD 0 State.reset) (0x0000000000000000004d000000004307#128)) ∧
    ((fun (s : State) (q : QWord) => let g : Nat := bits (BitVec.toNat q) 11 8; (s.dev.coll g).pend = true ∧ s.dev.collRoot g ≠ s.dev.ownDev ∧ bits (BitVec.toNat q) 31 16 = s.dev.collSeq g ∧ s.dev.activeCmd 51 (s.dev.coll g).tag = none) (states.getD 5 State.reset) (0x0000000000000000004d000000004307#128)) ∧
    ((fun (s : State) (g : Fin 16) => (s.dev.coll ↑g).pend = false) (states.getD 0 State.reset) (2)) ∧
    ((fun (s : State) (g : Fin 16) => (s.dev.coll ↑g).pend = true ∧ s.dev.activeCmd 51 (s.dev.coll ↑g).tag = none) (states.getD 5 State.reset) (3)) := by decide +kernel

end W26

namespace W27

def ps (k : Nat) (d : Dev) : Dev := d.setFld Reg.pwrStat 18 16 k
def l1 (d : Dev) : Dev := { d with pwr := { d.pwr with link := .l1 } }
def tg (t : Nat) (d : Dev) : Dev := { d with pwr := { d.pwr with target := t } }
def ex (d : Dev) : Dev := { d with pwr := { d.pwr with exitTo := some 1 } }
def we (d : Dev) : Dev := d.setReg Reg.pwrWakeEn 0xFFFFFFFF
def gov (d : Dev) : Dev := { (d.setReg Reg.pwrCap 75) with pwr := { d.pwr with setApc := ⟨[(0, 2000)]⟩, setFlume := 1600, setRace := 900, steps := [1, 0] } }
def trp (d : Dev) : Dev := { d with pwr := { d.pwr with tripRun := 1 }, pins := { d.pins with thermtripN := true } }
def inuse (d : Dev) : Dev := (d.setReg (Reg.lkPortStat 1) 7)
def pool : List Dev := [{ running with pins := { running.pins with enCore := true } }, ps 1 { (running.setReg Reg.pwrNapTmo 5) with pwr := { acted := true } }, (let d := ex (we (ps 2 running)); { d with sec := { d.sec with tampered := true } }), running, tg 1 running, inuse (tg 1 running), l1 (ps 1 (tg 2 running)), ps 2 (tg 3 { running with pins := { running.pins with perstN := false } }), we (ps 2 running), ex (we (ps 2 (running.setFld Reg.tbStat 2 0 3))), (l1 <| ps 1 { tg 2 running with harts := ⟨[(3, {held := false})]⟩, vci := { coresDown := 2 } }), we (ps 3 running), ex (we (ps 3 running)), ex (we (ps 2 running)),
  { ex (ps 3 running) with pins := { running.pins with pgMain := true, enSd := true } }, { ex (ps 3 (running.setReg Reg.tbCtl 1)) with pins := { running.pins with pgMain := true, enSd := true } }, { ex (ps 3 running) with pins := { running.pins with pgMain := false } },
  l1 (we (ps 1 (tg 2 running))), ps 1 { running with pwr := { acted := true } }, ps 7 running, running.setReg Reg.pwrPadHold 0x3F, (ps 2 (running.setReg Reg.pwrPadHold 0x3F)), gov running, gov (running.setReg Reg.pwrTlim 0x5F5A50), trp (running.setReg Reg.pwrTlim 0x5F5A50),
  ps 1 (running.setReg Reg.pwrNapTmo 5), ps 2 (running.setReg Reg.pwrSentTmo 1), (running.setReg Reg.pwrIdleTmo 5)]
def states : List State := pool.map mk

theorem witness_PowerTargets :
    ((fun (s : State) => s.dev.fenced Reg.pwrCtl = false) (states.getD 0 State.reset)) ∧
    ((fun (s : State) => s.dev.pwr.exitTo = none ∧ s.dev.pwrState = psRun ∧ (fun (r : Nat) => s.dev.rn r) Reg.pwrIdleTmo ≠ 0) (states.getD 27 State.reset)) ∧
    ((fun (s : State) => s.dev.pwr.exitTo = none ∧ s.dev.pwrState = psIdle ∧ (fun (r : Nat) => s.dev.rn r) Reg.pwrNapTmo ≠ 0 ∧ s.dev.pwr.acted = false) (states.getD 25 State.reset)) ∧
    ((fun (s : State) => s.dev.pwr.exitTo = none ∧ s.dev.pwrState = psNap ∧ (fun (r : Nat) => s.dev.rn r) Reg.pwrSentTmo ≠ 0) (states.getD 26 State.reset)) ∧
    ((fun (s : State) => s.dev.pwrState ≠ psRun ∨ s.dev.rn Reg.pwrIdleTmo = 0) (states.getD 0 State.reset)) ∧
    ((fun (s : State) => s.dev.pwrState ≠ psIdle ∨ s.dev.rn Reg.pwrNapTmo = 0 ∨ s.dev.pwr.acted = true) (states.getD 0 State.reset)) ∧
    ((fun (s : State) => s.dev.pwrState ≠ psNap ∨ s.dev.rn Reg.pwrSentTmo = 0) (states.getD 0 State.reset)) := by decide +kernel

theorem witness_PowerEntries :
    ((fun (s : State) => s.dev.pwrState = psRun ∧ s.dev.entering = true) (states.getD 4 State.reset)) ∧
    ((fun (s : State) => s.dev.pwrState = psIdle ∧ s.dev.entering = true) (states.getD 6 State.reset)) ∧
    ((fun (s : State) => s.dev.pwrState = psNap ∧ s.dev.entering = true) (states.getD 7 State.reset)) ∧
    ((fun (s : State) => s.dev.entering = false) (states.getD 0 State.reset)) := by decide +kernel

theorem witness_WakeAndExit :
    ((fun (s : State) (w : WakeSource) => (s.dev.pwrState = psNap ∨ s.dev.pwrState = psSentinel) ∧ s.dev.entering = false ∧ s.dev.pwr.exitTo = none ∧ s.dev.wakeOn w = true) (states.getD 8 State.reset) (Sys2Proof.WakeSource.pcie)) ∧
    ((fun (s : State) (w : WakeSource) (p : Fin 4) => (s.dev.pwrState = psNap ∨ s.dev.pwrState = psSentinel) ∧ s.dev.entering = false ∧ s.dev.pwr.exitTo = none ∧ s.dev.wakeOn w = true ∧ w = WakeSource.leat p) (states.getD 8 State.reset) (Sys2Proof.WakeSource.leat 1) (1)) ∧
    ((fun (s : State) (w : WakeSource) => (s.dev.pwrState = psNap ∨ s.dev.pwrState = psSentinel) ∧ s.dev.entering = false ∧ s.dev.pwr.exitTo = none ∧ s.dev.wakeOn w = true ∧ w = WakeSource.sideband) (states.getD 8 State.reset) (Sys2Proof.WakeSource.sideband)) ∧
    ((fun (s : State) (w : WakeSource) => s.dev.wakeOn w = false ∨ s.dev.pwr.exitTo ≠ none ∧ w ≠ WakeSource.sideband) (states.getD 0 State.reset) (Sys2Proof.WakeSource.leat 1)) ∧
    ((fun (s : State) (w : WakeSource) => s.dev.pwrState = psIdle ∧ s.dev.entering = true ∧ s.dev.wakeOn w = true) (states.getD 6 State.reset) (Sys2Proof.WakeSource.pcie)) ∧
    ((fun (s : State) => s.dev.pwr.exitTo ≠ none ∧ (s.dev.pwrState = psSentinel → s.dev.pins.pgMain = true ∧ s.dev.pins.enSd = true)) (states.getD 2 State.reset)) ∧
    ((fun (s : State) => s.dev.pwr.exitTo = none ∨ s.dev.pwrState = psSentinel ∧ s.dev.pins.pgMain = false) (states.getD 0 State.reset)) ∧
    ((fun (s : State) => s.dev.pwrState = psIdle ∧ s.dev.pwr.acted = true) (states.getD 1 State.reset)) ∧
    ((fun (s : State) => s.dev.pwrState ≠ psIdle ∨ s.dev.pwr.acted = false) (states.getD 0 State.reset)) := by decide +kernel

theorem witness_PadsGovernorAndTemperature :
    ((fun (s : State) => s.dev.basic = false) (states.getD 0 State.reset)) ∧
    ((fun (l : List (BitVec 16)) (x : Int × Nat) => hottest (List.map (fun (x : BitVec 16) => x.toInt) (List.take 16 l)).zipIdx = some x) ([0x0064#16, 0x0064#16, 0x0064#16, 0x0064#16, 0x0064#16, 0x0064#16, 0x0064#16, 0x0064#16, 0x0064#16, 0x0064#16, 0x0064#16, 0x0064#16, 0x0064#16, 0x0064#16, 0x0064#16, 0x0064#16]) ((100, 0))) := by decide +kernel

end W27

namespace W28

def cmd (op imm : Nat) (args : List Nat) : VciCmd := { tag := 7, op := op, imm := imm, pair := 3, owner := 4, args := args }
def act (c : VciCmd) (d : Dev) : Dev := { (d.setFlag Reg.secBootStat 31 true).setFld Reg.vciStat 2 0 3 with vci := { active := [c] } }
def cs : List VciCmd := [cmd 0 77 [], cmd 5 0xFF [], cmd 0x22 5 [9], cmd 4 50 [], cmd 4 80 [], cmd 3 0 [900], cmd 3 1 [500], cmd 3 2 [800, 0x8001], cmd 3 0 [9000], cmd 0x20 0x102 [], cmd 0x20 3 [], cmd 0x21 2 [], cmd 0x23 0 [],
  cmd 0x30 0x0105 [1, 2, 3, 0x1000, 0], cmd 0x30 0x0105 [0, 2, 3, 0x1000, 0], cmd 0x30 0x0105 [1, 200, 3, 0x1000, 0], cmd 0x31 0 [], cmd 0x32 3 [2, 10, 5], cmd 0x33 3 [5, 6]]
def pon (d : Dev) : Dev := (List.range 4).foldl (fun d j => d.setReg (Reg.pondState j) 0xFFFFFFFF) d
def base : Dev := (pon running).putBytes 0x1000 [1,2,3,4,5]
def cap : Dev := base.setFld Reg.glbVariant 15 8 75
def gs : Dev := (base.setReg (Reg.intkStrFrame 2) (16 + 16 * 65536)).setReg (Reg.intkStrBufCfg 2) 4
def op2 (d : Dev) : Dev := d.setFlag (Reg.intkStrStat 2) 0 true
def rq (d : Dev) : Dev := (((d.setReg Reg.jnRqCfg 16).setReg Reg.jnRqRd 3).setReg Reg.jnRqWr 5).setReg Reg.jnRqBaseLo 0x2000
def cl (d : Dev) : Dev := d.setReg (Reg.lkCollCfg 3) 0x80000001
def pool : List Dev := cs.map (fun c => act c cap) ++ [act (cs.getD 9 (cmd 0 0 [])) gs, act (cs.getD 11 (cmd 0 0 [])) (op2 gs), act (cs.getD 11 (cmd 0 0 [])) ((op2 gs).setStrm 2 { filling := [{frame := 0, slot := 0}], gather := true }),
  act (cs.getD 9 (cmd 0 0 [])) (op2 gs), act (cs.getD 12 (cmd 0 0 [])) (rq base), act (cs.getD 13 (cmd 0 0 [])) (base.setCell 1 5 { base.cell 1 5 with pageLen := 50 }), { act (cs.getD 13 (cmd 0 0 [])) (base.setCell 1 5 { base.cell 1 5 with pageLen := 50 }) with flume := { (base.setCell 1 5 { base.cell 1 5 with pageLen := 50 }).flume with passed := [({epoch := 1}, false)], shadow := [⟨9,0,0,0,[]⟩] } },
  act (cs.getD 17 (cmd 0 0 [])) (base.setNc 3 { inJob := true }), act (cs.getD 18 (cmd 0 0 [])) (cl base), act (cs.getD 18 (cmd 0 0 [])) (base.setReg (Reg.lkCollCfg 3) 0x80010003), (act (cs.getD 5 (cmd 0 0 [])) base).setFlag Reg.secBootStat 31 false, (act (cs.getD 12 (cmd 0 0 [])) ((rq base).setReg Reg.jnRqRd 6))]
def sw (d : Dev) : List Dev := [act (cs.getD 16 (cmd 0 0 [])) d, act (cs.getD 16 (cmd 0 0 [])) { d.setFlag Reg.flmStat 1 true with flume := { d.flume with waitFrom := some 900 } }, act (cs.getD 16 (cmd 0 0 [])) { d with flume := { d.flume with swapPend := true } }, { d with flume := { d.flume with swapPend := true, swapFrom := 5, ecc := 4 } }, { d with flume := { d.flume with shadow := [⟨9,0,0,0,[]⟩], swapPend := true } }]
def states : List State := (pool ++ sw cap).map mk

theorem witness_ServiceCommands :
    ((fun (s : State) (tag : BitVec 9) (c : VciCmd) => s.dev.activeCmd 0 tag.toNat = some c ∧ c.begun = false) (states.getD 0 State.reset) (0x007#9) ({ tag := 7, op := 0, imm := 77, pair := 3, owner := 4, args := [], begun := false })) ∧
    ((fun (s : State) (tag : BitVec 9) (c : VciCmd) => s.dev.activeCmd 5 tag.toNat = some c ∧ c.begun = false) (states.getD 1 State.reset) (0x007#9) ({ tag := 7, op := 5, imm := 255, pair := 3, owner := 4, args := [], begun := false })) ∧
    ((fun (s : State) (tag : BitVec 9) (c : VciCmd) => s.dev.activeCmd 34 tag.toNat = some c ∧ c.begun = false ∧ c.imm < 64) (states.getD 2 State.reset) (0x007#9) ({ tag := 7, op := 34, imm := 5, pair := 3, owner := 4, args := [9], begun := false })) ∧
    ((fun (s : State) (tag : BitVec 9) (c : VciCmd) => s.dev.activeCmd 4 tag.toNat = some c ∧ c.begun = false ∧ c.imm < 2 ^ 16) (states.getD 3 State.reset) (0x007#9) ({ tag := 7, op := 4, imm := 50, pair := 3, owner := 4, args := [], begun := false })) ∧
    ((fun (s : State) (tag : BitVec 9) (c : VciCmd) => s.dev.starts 3 tag.toNat c) (states.getD 5 State.reset) (0x007#9) ({ tag := 7, op := 3, imm := 0, pair := 3, owner := 4, args := [900], begun := false })) ∧
    ((fun (s : State) (tag : BitVec 9) (c : VciCmd) => s.dev.activeCmd 3 tag.toNat = some c ∧ c.begun = false ∧ s.dev.ready = false) (states.getD 29 State.reset) (0x007#9) ({ tag := 7, op := 3, imm := 0, pair := 3, owner := 4, args := [900], begun := false })) := by unfold Dev.starts; decide +kernel

theorem witness_StreamsOpenAndClose :
    ((fun (s : State) (tag : BitVec 9) (c : VciCmd) => let n : Nat := c.imm % 64; s.dev.starts 32 tag.toNat c ∧ (s.dev.jobState = jsArmed ∨ s.dev.jobState = jsRunning) ∧ s.dev.strOpen n = true) (states.getD 22 State.reset) (0x007#9) ({ tag := 7, op := 32, imm := 258, pair := 3, owner := 4, args := [], begun := false })) ∧
    ((fun (s : State) (tag : BitVec 9) (c : VciCmd) => let n : Nat := c.imm % 64; let code : Nat := (s.dev.setStrm n (have __src : Strm := s.dev.strm n; { acc := __src.acc, ftw := __src.ftw, ftwPend := __src.ftwPend, cic := __src.cic, cicN := __src.cicN, hb1 := __src.hb1, hb1N := __src.hb1N, hb2 := __src.hb2, hb2N := __src.hb2N, fir := __src.fir, firN := __src.firN, outq := __src.outq, outIx := __src.outIx, nextFrame := __src.nextFrame, filling := __src.filling, busy := __src.busy, nextSlot := __src.nextSlot, resume := __src.resume, grid0 := __src.grid0, relink := __src.relink, closing := __src.closing, gather := bit c.imm 8 })).openCode n (bit c.imm 8); s.dev.starts 32 tag.toNat c ∧ (s.dev.jobState = jsArmed ∨ s.dev.jobState = jsRunning) ∧ s.dev.strOpen n = false ∧ code ≠ 0) (states.getD 10 State.reset) (0x007#9) ({ tag := 7, op := 32, imm := 3, pair := 3, owner := 4, args := [], begun := false })) ∧
    ((fun (s : State) (tag : BitVec 9) (c : VciCmd) => let n : Nat := c.imm % 64; let code : Nat := (s.dev.setStrm n (have __src : Strm := s.dev.strm n; { acc := __src.acc, ftw := __src.ftw, ftwPend := __src.ftwPend, cic := __src.cic, cicN := __src.cicN, hb1 := __src.hb1, hb1N := __src.hb1N, hb2 := __src.hb2, hb2N := __src.hb2N, fir := __src.fir, firN := __src.firN, outq := __src.outq, outIx := __src.outIx, nextFrame := __src.nextFrame, filling := __src.filling, busy := __src.busy, nextSlot := __src.nextSlot, resume := __src.resume, grid0 := __src.grid0, relink := __src.relink, closing := __src.closing, gather := bit c.imm 8 })).openCode n (bit c.imm 8); s.dev.starts 32 tag.toNat c ∧ (s.dev.jobState = jsArmed ∨ s.dev.jobState = jsRunning) ∧ s.dev.strOpen n = false ∧ code = 0) (states.getD 9 State.reset) (0x007#9) ({ tag := 7, op := 32, imm := 258, pair := 3, owner := 4, args := [], begun := false })) ∧
    ((fun (s : State) (tag : BitVec 9) (c : VciCmd) => let n : Nat := c.imm % 64; s.dev.starts 33 tag.toNat c ∧ s.dev.strOpen n = false) (states.getD 11 State.reset) (0x007#9) ({ tag := 7, op := 33, imm := 2, pair := 3, owner := 4, args := [], begun := false })) ∧
    ((fun (s : State) (tag : BitVec 9) (c : VciCmd) => let n : Nat := c.imm % 64; s.dev.starts 33 tag.toNat c ∧ s.dev.strOpen n = true ∧ (s.dev.strm n).filling = []) (states.getD 20 State.reset) (0x007#9) ({ tag := 7, op := 33, imm := 2, pair := 3, owner := 4, args := [], begun := false })) ∧
    ((fun (s : State) (tag : BitVec 9) (c : VciCmd) => let n : Nat := c.imm % 64; s.dev.starts 33 tag.toNat c ∧ s.dev.strOpen n = true ∧ (s.dev.strm n).filling ≠ [] ∧ (s.dev.strm n).gather = true) (states.getD 21 State.reset) (0x007#9) ({ tag := 7, op := 33, imm := 2, pair := 3, owner := 4, args := [], begun := false })) := by unfold Dev.starts; decide +kernel

theorem witness_MarkersPagesAndSwaps :
    ((fun (s : State) (tag : BitVec 9) (c : VciCmd) => s.dev.starts 35 tag.toNat c ∧ s.dev.jobState = jsRunning ∧ s.dev.rqFree = 0) (states.getD 30 State.reset) (0x007#9) ({ tag := 7, op := 35, imm := 0, pair := 3, owner := 4, args := [], begun := false })) ∧
    ((fun (s : State) (tag : BitVec 9) (c : VciCmd) => let a : Nat := s.dev.rqAddr (s.dev.fld Reg.jnRqWr 15 0); s.dev.starts 35 tag.toNat c ∧ s.dev.jobState = jsRunning ∧ s.dev.rqFree ≠ 0 ∧ s.dev.rqOut a = false) (states.getD 12 State.reset) (0x007#9) ({ tag := 7, op := 35, imm := 0, pair := 3, owner := 4, args := [], begun := false })) ∧
    ((fun (s : State) (tag : BitVec 9) (c : VciCmd) => let shadow : Nat := (s.dev.fld Reg.flmEpoch 7 0 + 1) % 2; s.dev.starts 48 tag.toNat c ∧ s.dev.jobState = jsRunning ∧ (List.filter (fun (x : VciCmd) => x.tag == c.tag) s.dev.vci.active).length = 1 ∧ cmdArg c 0 ≠ shadow) (states.getD 14 State.reset) (0x007#9) ({ tag := 7, op := 48, imm := 261, pair := 3, owner := 4, args := [0, 2, 3, 4096, 0], begun := false })) ∧
    ((fun (s : State) (tag : BitVec 9) (c : VciCmd) => let n : Nat := cmdArg c 2; let shadow : Nat := (s.dev.fld Reg.flmEpoch 7 0 + 1) % 2; s.dev.starts 48 tag.toNat c ∧ s.dev.jobState = jsRunning ∧ (List.filter (fun (x : VciCmd) => x.tag == c.tag) s.dev.vci.active).length = 1 ∧ cmdArg c 0 = shadow ∧ (s.dev.cell (c.imm / 256) (c.imm % 128)).pageLen < cmdArg c 1 + n) (states.getD 13 State.reset) (0x007#9) ({ tag := 7, op := 48, imm := 261, pair := 3, owner := 4, args := [1, 2, 3, 4096, 0], begun := false })) := by unfold Dev.starts; decide +kernel

theorem witness_MarkersPagesAndSwaps_1 :
    ((fun (s : State) (tag : BitVec 9) (c : VciCmd) => let row : Nat := c.imm / 256; let col : Nat := c.imm % 128; let n : Nat := cmdArg c 2; let a : Nat := cmdArg64 c 3; let shadow : Nat := (s.dev.fld Reg.flmEpoch 7 0 + 1) % 2; s.dev.starts 48 tag.toNat c ∧ s.dev.jobState = jsRunning ∧ (List.filter (fun (x : VciCmd) => x.tag == c.tag) s.dev.vci.active).length = 1 ∧ cmdArg c 0 = shadow ∧ cmdArg c 1 + n ≤ (s.dev.cell row col).pageLen ∧ n ≠ 0 ∧ s.dev.readable a (8 * n) = true ∧ isHost a = false ∧ s.dev.shadowBusy = false ∧ s.dev.flume.shadow = [] ∧ s.dev.flume.swapPend = false) (states.getD 24 State.reset) (0x007#9) ({ tag := 7, op := 48, imm := 261, pair := 3, owner := 4, args := [1, 2, 3, 4096, 0], begun := false })) ∧
    ((fun (s : State) (tag : BitVec 9) (c : VciCmd) => let row : Nat := c.imm / 256; let col : Nat := c.imm % 128; let n : Nat := cmdArg c 2; let a : Nat := cmdArg64 c 3; let shadow : Nat := (s.dev.fld Reg.flmEpoch 7 0 + 1) % 2; s.dev.starts 48 tag.toNat c ∧ s.dev.jobState = jsRunning ∧ (List.filter (fun (x : VciCmd) => x.tag == c.tag) s.dev.vci.active).length = 1 ∧ cmdArg c 0 = shadow ∧ cmdArg c 1 + n ≤ (s.dev.cell row col).pageLen ∧ n ≠ 0 ∧ s.dev.readable a (8 * n) = true ∧ isHost a = false ∧ s.dev.shadowBusy = true) (states.getD 25 State.reset) (0x007#9) ({ tag := 7, op := 48, imm := 261, pair := 3, owner := 4, args := [1, 2, 3, 4096, 0], begun := false })) ∧
    ((fun (s : State) (tag : BitVec 9) (c : VciCmd) => s.dev.starts 49 tag.toNat c ∧ s.dev.jobState = jsRunning) (states.getD 16 State.reset) (0x007#9) ({ tag := 7, op := 49, imm := 0, pair := 3, owner := 4, args := [], begun := false })) := by unfold Dev.starts; decide +kernel

theorem witness_MarkersPagesAndSwaps_2 :
    ((fun (d : Dev) => d.flume.swapPend = true ∧ d.flume.swapFrom ≤ d.flume.ecc ∧ d.shadowOwed = false) (states.getD 33 State.reset).dev) ∧
    ((fun (d : Dev) => d.flume.swapPend = false ∨ d.flume.ecc < d.flume.swapFrom ∨ d.shadowOwed = true) (states.getD 0 State.reset).dev) := by decide +kernel

theorem witness_EligibilityAndCollective :
    ((fun (s : State) (tag : BitVec 9) (c : VciCmd) => s.dev.starts 50 tag.toNat c ∧ s.dev.jobState = jsRunning ∧ ((s.dev.nc c.imm).inJob = false ∨ (s.dev.nc c.imm).failed = true)) (states.getD 17 State.reset) (0x007#9) ({ tag := 7, op := 50, imm := 3, pair := 3, owner := 4, args := [2, 10, 5], begun := false })) ∧
    ((fun (s : State) (tag : BitVec 9) (c : VciCmd) => s.dev.starts 50 tag.toNat c ∧ s.dev.jobState = jsRunning ∧ (s.dev.nc c.imm).inJob = true ∧ (s.dev.nc c.imm).failed = false ∧ cmdArg c 2 ≠ 0) (states.getD 26 State.reset) (0x007#9) ({ tag := 7, op := 50, imm := 3, pair := 3, owner := 4, args := [2, 10, 5], begun := false })) ∧
    ((fun (s : State) (tag : BitVec 9) (c : VciCmd) => let g : Nat := c.imm % 16; s.dev.starts 51 tag.toNat c ∧ s.dev.jobState = jsRunning ∧ (bit (s.dev.collCfg g) 31 = false ∨ bit (s.dev.collMembers g) s.dev.ownDev = false)) (states.getD 18 State.reset) (0x007#9) ({ tag := 7, op := 51, imm := 3, pair := 3, owner := 4, args := [5, 6], begun := false })) ∧
    ((fun (s : State) (tag : BitVec 9) (c : VciCmd) => let g : Nat := c.imm % 16; s.dev.starts 51 tag.toNat c ∧ s.dev.jobState = jsRunning ∧ bit (s.dev.collCfg g) 31 = true ∧ bit (s.dev.collMembers g) s.dev.ownDev = true ∧ (s.dev.coll g).pend = false ∧ List.find? (fun (x : VciCmd) => x.op == 51 && x.imm == c.imm && !x.begun) s.dev.vci.active = some c ∧ s.dev.collRoot g ≠ s.dev.ownDev) (states.getD 28 State.reset) (0x007#9) ({ tag := 7, op := 51, imm := 3, pair := 3, owner := 4, args := [5, 6], begun := false })) ∧
    ((fun (s : State) (tag : BitVec 9) (c : VciCmd) => let g : Nat := c.imm % 16; s.dev.starts 51 tag.toNat c ∧ s.dev.jobState = jsRunning ∧ bit (s.dev.collCfg g) 31 = true ∧ s.dev.collMembers g = 2 ^ s.dev.ownDev ∧ (s.dev.coll g).pend = false ∧ List.find? (fun (x : VciCmd) => x.op == 51 && x.imm == c.imm && !x.begun) s.dev.vci.active = some c ∧ s.dev.collRoot g = s.dev.ownDev ∧ (List.filter (fun (x : VciCmd) => x.tag == c.tag) s.dev.vci.active).length = 1 ∧ cmdArg c 0 < 2 ^ 32 ∧ cmdArg c 1 < 2 ^ 32) (states.getD 27 State.reset) (0x007#9) ({ tag := 7, op := 51, imm := 3, pair := 3, owner := 4, args := [5, 6], begun := false })) := by unfold Dev.starts; decide +kernel

end W28

namespace W29

def cmd (op imm : Nat) (args : List Nat) : VciCmd := { tag := 7, op := op, imm := imm, pair := 3, owner := 4, args := args }
def jq (st : Nat) (c : VciCmd) (d : Dev) : Dev := { (d.setFlag Reg.secBootStat 31 true).setFld Reg.vciStat 2 0 st with vci := { d.vci with jobq := [c] } }
def pon (d : Dev) : Dev := (List.range 4).foldl (fun d j => d.setReg (Reg.pondState j) 0xFFFFFFFF) d
def tailP : List Byte := zeroBytes 16 ++ toBytes 2 4 ++ zeroBytes 6 ++ toBytes 4 80 ++ toBytes 4 0
def pkgB (h : List Byte) : List Byte := toBytes 4 0x4B504457 ++ toBytes 2 1 ++ toBytes 2 1 ++ toBytes 8 80 ++ h ++ tailP
def good : List Byte := pkgB (sha256 tailP)
def bad : List Byte := pkgB (zeroBytes 32)
def desc : List Byte := toBytes 2 2 ++ toBytes 2 0 ++ toBytes 4 32 ++ zeroBytes 32
def desc2 : List Byte := toBytes 2 9 ++ toBytes 2 0 ++ toBytes 4 4 ++ zeroBytes 4
def ddr (d : Dev) : Dev := ((d.setReg Reg.memDdrSizeLo 0).setReg Reg.memDdrSizeHi 1).setReg Reg.memDdrStat 0xF0
def base : Dev := { ((((ddr (pon running))).putBytes 0x1000 good).putBytes 0x2000 bad |>.putBytes 0x3000 desc).putBytes 0x5000 desc2 with board := { pkgBase := ddrBase + 0x40000000, pkgLen := 0x1000 } }
def cs : List VciCmd := [cmd 1 0 [0x3000, 0, 40], cmd 1 0 [0x5000, 0, 12], cmd 1 0 [0, 0x1000, 12], cmd 0x10 0 [0x1000, 0, 80], cmd 0x10 0 [0x2000, 0, 80], cmd 0x10 0 [0x1000, 0, 0], cmd 0x11 0 [], cmd 0x12 0 [5000, 0, 77], cmd 0x13 0 [], cmd 0x14 0 [], cmd 0x15 0 [], cmd 0x16 0 [], cmd 0x17 0 [], cmd 0x18 3 []]
def lad (d : Dev) : Dev := ((d.setReg Reg.flmLadderCtl 1)).setReg Reg.mrTickLen 16000
def runC : VciCmd := cmd 0x12 0 [5000, 0, 77]
def runs : List Dev := [jq 2 runC (base.setReg Reg.flmLadderCtl 0), jq 2 runC (base.setReg Reg.flmLadderCtl 1 |>.setReg (Reg.lkCollCfg 3) 0x87000007), jq 2 (cmd 0x12 0 [1001, 0, 77]) (lad base), jq 2 runC ((lad base).setNc 3 { inJob := true } |>.setReg Reg.mrCplBatch 64), jq 2 runC ((lad base).setFld Reg.mrDevid 12 8 5 |>.setReg Reg.mrTickLen 16001),
  jq 2 runC ((lad base).setFld Reg.mrDevid 12 8 2), jq 2 runC (((lad base).setFld Reg.mrDevid 12 8 2).setFlag (Reg.lkPortCfg 1) 31 true |>.setFlag (Reg.lkPortStat 1) 3 true),
  jq 2 runC ((lad base).setReg (Reg.lkCollCfg 3) 0x87000007)]
def pool : List Dev := runs ++ cs.map (fun c => jq 0 c base) ++ cs.map (fun c => jq 1 c { base with vci := { pkg := ⟨0x1000, 80⟩ } }) ++ (cs.drop 6).map (fun c => jq 2 c (lad base)) ++ (cs.drop 6).map (fun c => jq 3 c base)
 ++ (cs.drop 6).map (fun c => jq 4 c (base.setFlag Reg.mrStat 4 true)) ++
 [jq 3 (cmd 1 0 []) base, jq 4 (cmd 0x18 3 []) (base.setNc 3 { failed := true }), { jq 2 (cmd 0x12 0 []) base with vci := { startAt := some (5000, 77), jobq := [cmd 0x12 0 []] } }, { base with vci := { startAt := some (5000, 77) } },
  jq 4 (cmd 0x14 0 []) ((base.setFld Reg.mrDevid 12 8 2)), jq 4 (cmd 0x15 0 []) (((base.setReg Reg.jnRqCfg 16).setReg Reg.jnRqWr 5)), jq 4 (cmd 0x17 0 []) ((base.setFlag Reg.mrStat 4 true).setNc 3 { inJob := true })]
def padB (n : Nat) (l : List Byte) : List Byte := l ++ zeroBytes (n - l.length)
def imgBody : List Byte := zeroBytes 6 ++ [1, 2] ++ toBytes 4 128 ++ toBytes 4 64 ++ toBytes 4 1 ++ toBytes 4 1 ++ toBytes 4 1 ++ zeroBytes 4 ++ toBytes 4 344 ++ toBytes 4 256 ++ toBytes 4 296 ++ toBytes 4 308 ++ zeroBytes 4 ++ zeroBytes 12 ++ (List.range 96).flatMap (fun i => toBytes 2 (8 * i)) ++
  [3, 5] ++ toBytes 2 1 ++ toBytes 2 0 ++ toBytes 2 1 ++ zeroBytes 16 ++ toBytes 4 0 ++ toBytes 4 0 ++ toBytes 8 77 ++ zeroBytes 12 ++ zeroBytes 8
def imgP : List Byte := let b := padB 1200 imgBody
  b ++ toBytes 4 (crc32c b)
def ncP : List Byte := padB (34848 + 2064) ([1, 2, 0, 1] ++ toBytes 4 2064 ++ toBytes 4 16 ++ toBytes 4 32 ++ zeroBytes 16 ++ toBytes 4 9 ++ toBytes 4 8 ++ toBytes 4 7) ++ toBytes 16 99 ++ toBytes 32 (5 + 2^128 * 6)
def setB (l : List Byte) (o : Nat) (x : List Byte) : List Byte := l.take o ++ x ++ l.drop (o + x.length)
-- header 3: plastic, on die, at 1024, 6 words
def ncP2 : List Byte := setB (setB ncP (34848 + 24) (toBytes 8 (2^63 + 2^60 + 6 * 2^36 + 1024))) (34848 + 2048) (toBytes 8 (0xFFF7 * 2^48))
def ncP3 : List Byte := setB ncP (34848 + 24) (toBytes 8 (2^63 + 2^62 + 2^60 + 6 * 2^36 + 16))
def lrnP : List Byte := padB 4232 ([1, 2] ++ zeroBytes 6 ++ toBytes 4 0x1234)
def mkPkg (ss : List (Nat × List Byte)) : List Byte :=
  let o0 := 64 + 16 * ss.length
  let r := ss.foldl (fun (a : List Byte × List Byte) s => (a.1 ++ toBytes 2 s.1 ++ toBytes 2 0 ++ zeroBytes 4 ++ toBytes 4 (o0 + a.2.length) ++ toBytes 4 s.2.length, a.2 ++ padB (ceilDiv s.2.length 8 * 8) s.2)) ([], [])
  toBytes 4 0x4B504457 ++ toBytes 2 1 ++ toBytes 2 ss.length ++ toBytes 8 (o0 + r.2.length) ++ zeroBytes 32 ++ zeroBytes 16 ++ r.1 ++ r.2
def withPkg (p : List Byte) (ck : Nat) (d : Dev) : Dev := jq 1 (cmd 0x11 ck []) { d.putBytes 0x10000 p with vci := { pkg := ⟨0x10000, p.length⟩ } }
def shortD : Dev := { base with sec := { base.sec with off := [(1, 3), (1, 4), (1, 5), (2, 0), (2, 1)] } }
def badImg : List Byte := setB imgP 300 [9]
def ckB : Nat := ddrBase + 0x50000000
def ckLen : Nat := 16
def ckHd (q : Nat) : List Byte := toBytes 4 q ++ zeroBytes 8 ++ toBytes 4 ckLen ++ toBytes 4 (crc32c (toBytes 16 88 ++ zeroBytes (262144 - 16) ++ toBytes 16 0x12345678))
def withCk (n : Nat) (d : Dev) : Dev :=
  let a := ckB + 2 * n * 1314816
  ((((d.setReg64 Reg.lrnCkptBaseLo Reg.lrnCkptBaseHi ckB).putBytes a (ckHd 6)).putBytes (a + 4096) (toBytes 16 88)).putBytes (a + 266240) (toBytes 16 0x12345678))
def poolA : List Dev := [withPkg (mkPkg [(1, imgP), (4, lrnP), (3, ncP), (5, zeroBytes 7432)]) 0 base, withPkg (mkPkg [(3, ncP2)]) 0 base, withPkg (mkPkg [(3, ncP3)]) 0 base,
  withPkg (mkPkg [(1, imgP)]) 0 shortD, withPkg (mkPkg [(1, badImg)]) 0 base, withPkg (mkPkg [(3, ncP)]) 0 shortD,
  withCk 18 (withPkg (mkPkg [(3, ncP2)]) 1 base), withCk 3 (jq 4 (cmd 0x18 3 []) ((base.setFlag Reg.mrStat 4 true).setNc 3 { failed := true }))]
def poolB : List Dev := [withPkg (mkPkg [(1, zeroBytes 8)]) 0 shortD, withPkg (mkPkg [(1, zeroBytes 8)]) 0 base, jq 1 (cmd 0x11 1 []) { base with vci := { pkg := ⟨0x1000, 80⟩ } }]
def swD (x y : SMap Nat) : Bool := (x.cells ++ y.cells).all (fun c => x.get 0 c.1 / 8 == y.get 0 c.1 / 8)
def states : List State := (pool ++ poolB).map mk

theorem witness_JobCommandsInTheWrongState :
    ((fun (s : State) (c : VciCmd) => c.begun = false ∧ s.dev.vci.split = none ∧ s.dev.jobCmd 1 = some c ∧ s.dev.jobState ≠ jsNone ∧ s.dev.jobState ≠ jsLoaded) (states.getD 60 State.reset) ({ tag := 7, op := 1, imm := 0, pair := 3, owner := 4, args := [], begun := false })) ∧
    ((fun (s : State) (c : VciCmd) => c.begun = false ∧ s.dev.vci.split = none ∧ s.dev.jobCmd 16 = some c ∧ s.dev.jobState ≠ jsNone) (states.getD 25 State.reset) ({ tag := 7, op := 16, imm := 0, pair := 3, owner := 4, args := [4096, 0, 80], begun := false })) ∧
    ((fun (s : State) (c : VciCmd) => c.begun = false ∧ s.dev.vci.split = none ∧ s.dev.jobCmd 17 = some c ∧ s.dev.jobState ≠ jsLoaded) (states.getD 14 State.reset) ({ tag := 7, op := 17, imm := 0, pair := 3, owner := 4, args := [], begun := false })) ∧
    ((fun (s : State) (c : VciCmd) => c.begun = false ∧ s.dev.vci.split = none ∧ s.dev.jobCmd 18 = some c ∧ s.dev.jobState ≠ jsArmed) (states.getD 15 State.reset) ({ tag := 7, op := 18, imm := 0, pair := 3, owner := 4, args := [5000, 0, 77], begun := false })) ∧
    ((fun (s : State) (c : VciCmd) => c.begun = false ∧ s.dev.vci.split = none ∧ s.dev.jobCmd 19 = some c ∧ s.dev.jobState ≠ jsRunning) (states.getD 16 State.reset) ({ tag := 7, op := 19, imm := 0, pair := 3, owner := 4, args := [], begun := false })) ∧
    ((fun (s : State) (c : VciCmd) => c.begun = false ∧ s.dev.vci.split = none ∧ s.dev.jobCmd 20 = some c ∧ s.dev.jobState ≠ jsDrained) (states.getD 17 State.reset) ({ tag := 7, op := 20, imm := 0, pair := 3, owner := 4, args := [], begun := false })) ∧
    ((fun (s : State) (c : VciCmd) => c.begun = false ∧ s.dev.vci.split = none ∧ s.dev.jobCmd 21 = some c ∧ s.dev.jobState < jsArmed) (states.getD 18 State.reset) ({ tag := 7, op := 21, imm := 0, pair := 3, owner := 4, args := [], begun := false })) ∧
    ((fun (s : State) (c : VciCmd) => c.begun = false ∧ s.dev.vci.split = none ∧ s.dev.jobCmd 22 = some c ∧ s.dev.jobState ≠ jsLoaded) (states.getD 19 State.reset) ({ tag := 7, op := 22, imm := 0, pair := 3, owner := 4, args := [], begun := false })) ∧
    ((fun (s : State) (c : VciCmd) => c.begun = false ∧ s.dev.vci.split = none ∧ s.dev.jobCmd 23 = some c ∧ s.dev.jobState ≠ jsRunning ∧ s.dev.jobState ≠ jsDrained) (states.getD 20 State.reset) ({ tag := 7, op := 23, imm := 0, pair := 3, owner := 4, args := [], begun := false })) ∧
    ((fun (s : State) (c : VciCmd) => c.begun = false ∧ s.dev.vci.split = none ∧ s.dev.jobCmd 24 = some c ∧ s.dev.jobState ≠ jsDrained) (states.getD 21 State.reset) ({ tag := 7, op := 24, imm := 3, pair := 3, owner := 4, args := [], begun := false })) := by decide +kernel

theorem witness_DescriptionsAndPackages :
    ((fun (s : State) (c : VciCmd) => let a : Nat := cmdArg64 c 0; let n : Nat := cmdArg c 2; s.dev.jobCmd 1 = some c ∧ s.dev.jobState = jsNone ∧ (n = 0 ∨ s.dev.placeOf a n = Place.unmapped)) (states.getD 10 State.reset) ({ tag := 7, op := 1, imm := 0, pair := 3, owner := 4, args := [0, 4096, 12], begun := false })) ∧
    ((fun (s : State) (c : VciCmd) => let a : Nat := cmdArg64 c 0; let n : Nat := cmdArg c 2; let p : List Byte := s.dev.bytes a n; let ss : List BoardSec := boardSecs p (n / 8 + 1) 0; fun (i : Nat) => s.dev.jobCmd 1 = some c ∧ s.dev.jobState = jsNone ∧ n ≠ 0 ∧ s.dev.placeOf a n = Place.pond ∧ s.dev.readBad a n = false ∧ List.findIdx? (fun (x : BoardSec) => s.dev.boardCode (s.dev.describedShape ss) (s.dev.describedDev ss) x != 0) ss = some i) (states.getD 9 State.reset) ({ tag := 7, op := 1, imm := 0, pair := 3, owner := 4, args := [20480, 0, 12], begun := false }) (0)) ∧
    ((fun (s : State) (c : VciCmd) => let a : Nat := cmdArg64 c 0; let n : Nat := cmdArg c 2; let p : List Byte := s.dev.bytes a n; let ss : List BoardSec := boardSecs p (n / 8 + 1) 0; s.dev.jobCmd 1 = some c ∧ s.dev.jobState = jsNone ∧ n ≠ 0 ∧ s.dev.placeOf a n = Place.pond ∧ s.dev.readBad a n = false ∧ List.findIdx? (fun (x : BoardSec) => s.dev.boardCode (s.dev.describedShape ss) (s.dev.describedDev ss) x != 0) ss = none) (states.getD 8 State.reset) ({ tag := 7, op := 1, imm := 0, pair := 3, owner := 4, args := [12288, 0, 40], begun := false })) ∧
    ((fun (s : State) (c : VciCmd) => let a : Nat := cmdArg64 c 0; let n : Nat := cmdArg c 2; let b : Nat := s.dev.board.pkgBase; let p : List Byte := s.dev.bytes a n; let d1 : Dev := ((s.dev.putBytes b p).touch 0 b n).showColumns; s.dev.jobCmd 16 = some c ∧ s.dev.jobState = jsNone ∧ (n = 0 ∨ s.dev.placeOf a n = Place.pond) ∧ s.dev.readBad a n = false ∧ n ≤ s.dev.board.pkgLen ∧ s.dev.placeOf b n = Place.ddr ∧ s.dev.regionsOk s.dev.ddrRegions = true ∧ d1.packageCode p n ≠ 0) (states.getD 12 State.reset) ({ tag := 7, op := 16, imm := 0, pair := 3, owner := 4, args := [8192, 0, 80], begun := false })) ∧
    ((fun (s : State) (c : VciCmd) => let a : Nat := cmdArg64 c 0; let n : Nat := cmdArg c 2; let b : Nat := s.dev.board.pkgBase; let p : List Byte := s.dev.bytes a n; let d1 : Dev := ((s.dev.putBytes b p).touch 0 b n).showColumns; s.dev.jobCmd 16 = some c ∧ s.dev.jobState = jsNone ∧ (n = 0 ∨ s.dev.placeOf a n = Place.pond) ∧ s.dev.readBad a n = false ∧ n ≤ s.dev.board.pkgLen ∧ s.dev.placeOf b n = Place.ddr ∧ s.dev.regionsOk s.dev.ddrRegions = true ∧ d1.packageCode p n = 0 ∧ secsOf p 6 = [] ∧ secOf p 8 = []) (states.getD 11 State.reset) ({ tag := 7, op := 16, imm := 0, pair := 3, owner := 4, args := [4096, 0, 80], begun := false })) := by decide +kernel

theorem witness_UnloadSubstituteCheckpoint :
    ((fun (s : State) (c : VciCmd) => s.dev.jobCmd 22 = some c ∧ s.dev.jobState = jsLoaded) (states.getD 33 State.reset) ({ tag := 7, op := 22, imm := 0, pair := 3, owner := 4, args := [], begun := false })) ∧
    ((fun (s : State) (c : VciCmd) => s.dev.jobCmd 24 = some c ∧ s.dev.jobState = jsDrained ∧ s.dev.mayShift c.imm = false) (states.getD 59 State.reset) ({ tag := 7, op := 24, imm := 3, pair := 3, owner := 4, args := [], begun := false })) ∧
    ((fun (s : State) (c : VciCmd) => s.dev.jobCmd 24 = some c ∧ s.dev.jobState = jsDrained ∧ s.dev.mayShift c.imm = true ∧ c.imm < 256) (states.getD 61 State.reset) ({ tag := 7, op := 24, imm := 3, pair := 3, owner := 4, args := [], begun := false })) ∧
    ((fun (s : State) (c : VciCmd) => s.dev.jobCmd 23 = some c ∧ c.begun = false ∧ s.dev.jobState = jsDrained ∧ s.dev.flag Reg.mrStat 4 = true ∧ s.dev.vci.resume = none ∧ s.dev.jobNcs = []) (states.getD 58 State.reset) ({ tag := 7, op := 23, imm := 0, pair := 3, owner := 4, args := [], begun := false })) ∧
    ((fun (s : State) (c : VciCmd) => s.dev.jobCmd 23 = some c ∧ c.begun = false ∧ s.dev.jobState = jsDrained ∧ s.dev.flag Reg.mrStat 4 = true ∧ s.dev.vci.resume = none ∧ s.dev.beginJob.ckptWrite.fst = false) (states.getD 66 State.reset) ({ tag := 7, op := 23, imm := 0, pair := 3, owner := 4, args := [], begun := false })) ∧
    ((fun (s : State) (c : VciCmd) => s.dev.jobCmd 23 = some c ∧ c.begun = false ∧ s.dev.jobState = jsRunning ∧ s.dev.flag Reg.mrStat 4 = false ∧ s.dev.vci.resume = none) (states.getD 50 State.reset) ({ tag := 7, op := 23, imm := 0, pair := 3, owner := 4, args := [], begun := false })) := by decide +kernel

theorem witness_RunStartDrainResume :
    ((fun (s : State) (c : VciCmd) => let ladder : Nat := s.dev.fld Reg.flmLadderCtl 15 0; s.dev.jobCmd 18 = some c ∧ c.begun = false ∧ s.dev.jobState = jsArmed ∧ ladder = 0) (states.getD 0 State.reset) ({ tag := 7, op := 18, imm := 0, pair := 3, owner := 4, args := [5000, 0, 77], begun := false })) ∧
    ((fun (s : State) (c : VciCmd) => let ladder : Nat := s.dev.fld Reg.flmLadderCtl 15 0; let batch : Nat := s.dev.fld Reg.mrCplBatch 7 0; let devs : Nat := s.dev.fld Reg.mrDevid 12 8; s.dev.jobCmd 18 = some c ∧ c.begun = false ∧ s.dev.jobState = jsArmed ∧ ladder ≠ 0 ∧ ((∃ (n : Nat), n ∈ s.dev.jobNcs ∧ s.dev.fld (Reg.rtWin n) 8 0 < 2 * batch) ∨ 5 ≤ devs ∧ max 1 (s.dev.fld Reg.mrTickLen 23 0) % 8 ≠ 0)) (states.getD 3 State.reset) ({ tag := 7, op := 18, imm := 0, pair := 3, owner := 4, args := [5000, 0, 77], begun := false })) ∧
    ((fun (s : State) (c : VciCmd) => let ladder : Nat := s.dev.fld Reg.flmLadderCtl 15 0; let batch : Nat := s.dev.fld Reg.mrCplBatch 7 0; let devs : Nat := s.dev.fld Reg.mrDevid 12 8; s.dev.jobCmd 18 = some c ∧ c.begun = false ∧ s.dev.jobState = jsArmed ∧ ladder ≠ 0 ∧ (¬∃ (n : Nat), n ∈ s.dev.jobNcs ∧ s.dev.fld (Reg.rtWin n) 8 0 < 2 * batch) ∧ ¬(5 ≤ devs ∧ max 1 (s.dev.fld Reg.mrTickLen 23 0) % 8 ≠ 0) ∧ 1 < devs ∧ ((∃ (p : Fin 4), s.dev.flag (Reg.lkPortCfg ↑p) 31 = true ∧ (s.dev.flag (Reg.lkPortStat ↑p) 3 = true ∨ s.dev.flag (Reg.lkPortCfg ↑p) 21 ≠ closes s.dev.board.shape s.dev.ownDev ↑p)) ∨ ∃ (a : Nat), a < devs ∧ ∃ (b : Nat), b < devs ∧ s.dev.pairOk a b = false)) (states.getD 5 State.reset) ({ tag := 7, op := 18, imm := 0, pair := 3, owner := 4, args := [5000, 0, 77], begun := false })) ∧
    ((fun (s : State) (c : VciCmd) => let ladder : Nat := s.dev.fld Reg.flmLadderCtl 15 0; let batch : Nat := s.dev.fld Reg.mrCplBatch 7 0; let devs : Nat := s.dev.fld Reg.mrDevid 12 8; s.dev.jobCmd 18 = some c ∧ c.begun = false ∧ s.dev.jobState = jsArmed ∧ ladder ≠ 0 ∧ (¬∃ (n : Nat), n ∈ s.dev.jobNcs ∧ s.dev.fld (Reg.rtWin n) 8 0 < 2 * batch) ∧ ¬(5 ≤ devs ∧ max 1 (s.dev.fld Reg.mrTickLen 23 0) % 8 ≠ 0) ∧ (devs ≤ 1 ∨ s.dev.routesOk = true) ∧ ∃ (g : Fin 16), bit (s.dev.collCfg ↑g) 31 = true ∧ (6 ≤ s.dev.collOp ↑g ∨ bit (s.dev.collMembers ↑g) (s.dev.collRoot ↑g) = false)) (states.getD 1 State.reset) ({ tag := 7, op := 18, imm := 0, pair := 3, owner := 4, args := [5000, 0, 77], begun := false })) ∧
    ((fun (s : State) (c : VciCmd) => let start : Nat := cmdArg64 c 0; let ladder : Nat := s.dev.fld Reg.flmLadderCtl 15 0; let batch : Nat := s.dev.fld Reg.mrCplBatch 7 0; let devs : Nat := s.dev.fld Reg.mrDevid 12 8; s.dev.jobCmd 18 = some c ∧ c.begun = false ∧ s.dev.jobState = jsArmed ∧ ladder ≠ 0 ∧ (¬∃ (n : Nat), n ∈ s.dev.jobNcs ∧ s.dev.fld (Reg.rtWin n) 8 0 < 2 * batch) ∧ ¬(5 ≤ devs ∧ max 1 (s.dev.fld Reg.mrTickLen 23 0) % 8 ≠ 0) ∧ (devs ≤ 1 ∨ s.dev.routesOk = true) ∧ (¬∃ (g : Fin 16), bit (s.dev.collCfg ↑g) 31 = true ∧ (6 ≤ s.dev.collOp ↑g ∨ bit (s.dev.collMembers ↑g) (s.dev.collRoot ↑g) = false)) ∧ start < s.dev.tb.tbc + s.dev.fld Reg.mrBarLead 15 0) (states.getD 2 State.reset) ({ tag := 7, op := 18, imm := 0, pair := 3, owner := 4, args := [1001, 0, 77], begun := false })) := by decide +kernel

theorem witness_RunStartDrainResume_1 :
    ((fun (s : State) (c : VciCmd) => let start : Nat := cmdArg64 c 0; let ladder : Nat := s.dev.fld Reg.flmLadderCtl 15 0; let batch : Nat := s.dev.fld Reg.mrCplBatch 7 0; let devs : Nat := s.dev.fld Reg.mrDevid 12 8; s.dev.jobCmd 18 = some c ∧ c.begun = false ∧ s.dev.jobState = jsArmed ∧ ladder ≠ 0 ∧ (¬∃ (n : Nat), n ∈ s.dev.jobNcs ∧ s.dev.fld (Reg.rtWin n) 8 0 < 2 * batch) ∧ ¬(5 ≤ devs ∧ max 1 (s.dev.fld Reg.mrTickLen 23 0) % 8 ≠ 0) ∧ (devs ≤ 1 ∨ s.dev.routesOk = true) ∧ (¬∃ (g : Fin 16), bit (s.dev.collCfg ↑g) 31 = true ∧ (6 ≤ s.dev.collOp ↑g ∨ bit (s.dev.collMembers ↑g) (s.dev.collRoot ↑g) = false)) ∧ s.dev.tb.tbc + s.dev.fld Reg.mrBarLead 15 0 ≤ start) (states.getD 37 State.reset) ({ tag := 7, op := 18, imm := 0, pair := 3, owner := 4, args := [5000, 0, 77], begun := false })) ∧
    ((fun (s : State) => s.dev.vci.startAt = none) (states.getD 0 State.reset)) ∧
    ((fun (s : State) (c : VciCmd) (start t0 : Nat) => s.dev.vci.startAt = some (start, t0) ∧ s.dev.tbOn = true ∧ s.dev.tb.tbc ≤ start ∧ start < 2 ^ 64 ∧ t0 < 2 ^ 32 ∧ s.dev.jobHead 18 = some c) (states.getD 62 State.reset) ({ tag := 7, op := 18, imm := 0, pair := 3, owner := 4, args := [], begun := false }) (5000) (77)) ∧
    ((fun (s : State) (c : VciCmd) => s.dev.jobCmd 19 = some c ∧ c.begun = false ∧ s.dev.jobState = jsRunning) (states.getD 46 State.reset) ({ tag := 7, op := 19, imm := 0, pair := 3, owner := 4, args := [], begun := false })) ∧
    ((fun (s : State) (c : VciCmd) => s.dev.jobCmd 20 = some c ∧ c.begun = false ∧ s.dev.jobState = jsDrained ∧ s.dev.isSystemRoot = false) (states.getD 64 State.reset) ({ tag := 7, op := 20, imm := 0, pair := 3, owner := 4, args := [], begun := false })) := by decide +kernel

theorem witness_JobStopEndsTheJob :
    ((fun (s : State) (c : VciCmd) => s.dev.vci.split = none ∧ s.dev.jobCmd 21 = some c ∧ c.begun = false ∧ s.dev.jobOn = true ∧ (∀ (n : Fin 64), s.dev.strOpen ↑n = false) ∧ s.dev.flow = false ∧ s.dev.vci.active = [] ∧ s.dev.rqUsed = 0 ∧ s.dev.forwarding = false) (states.getD 40 State.reset) ({ tag := 7, op := 21, imm := 0, pair := 3, owner := 4, args := [], begun := false })) ∧
    ((fun (s : State) (c : VciCmd) => s.dev.vci.split = none ∧ s.dev.jobCmd 21 = some c ∧ c.begun = false ∧ s.dev.jobOn = true ∧ (∀ (n : Fin 64), s.dev.strOpen ↑n = false) ∧ s.dev.flow = false ∧ s.dev.vci.active = [] ∧ s.dev.rqUsed ≠ 0) (states.getD 65 State.reset) ({ tag := 7, op := 21, imm := 0, pair := 3, owner := 4, args := [], begun := false })) := by decide +kernel

end W29

namespace W30

def on (d : Dev) : Dev := d.setReg Reg.senCtl 0x80000100
def sen (x : Sen) (d : Dev) : Dev := { d with sen := x }
def hdr (len addr : Nat) : Nat := 2^63 + len * 2^36 + addr
def neuW : Nat := neuWord ⟨100, 5, 7, 3, 1, 2, true, 0⟩
def ps : SMap Nat := ⟨[(16, 200 + 5 * 2^24), (17, 0x70000000 + 0x00F000), (18, 0x00020001)]⟩
def core : Sen := { header := ⟨[(3, hdr 1 10), (4, hdr 1 12)]⟩, syn := ⟨[(10, 0x7F05), (12, 0x0505)]⟩, state := ⟨[(5, neuW)]⟩, pset := ps, next := [⟨3, 3, 256⟩] }
def core2 : Sen := { core with next := [⟨4, 3, 256⟩] }
def core3 : Sen := { core with next := [⟨9, 3, 256⟩] }
def rule (v : Nat) (d : Dev) : Dev := (((d.setReg (Reg.senRuleCond 0) 0x20010103).setReg (Reg.senRuleLvl 0) 50).setReg (Reg.senEnvVal 1) v).setReg (Reg.senRuleAct 0) 0
def flt (d : Dev) : Dev := (((d.setReg (Reg.senBqB0 1) 0x12345).setReg (Reg.senBqA1 1) 0xFFFF0).setReg (Reg.senEnvCfg 0) 0x5300).setReg (Reg.senBqCfg 2) 1
def pool : List Dev := [running, on running, on (sen { frames := 63 } running), (on (sen { frames := 64, sample := 5, bq := ⟨[(1, ⟨3,4,5,6⟩)]⟩, env := ⟨[(0, 50000000)]⟩ } (flt running))).setFlag Reg.senStat 1 true,
  (on (sen { frames := 64, sample := 5, fifo := [7, 8, 9, 10], bq := ⟨[(1, ⟨3,4,5,6⟩)]⟩ } (flt running))).setFlag Reg.senStat 1 true,
  (on (sen { frames := 64, sample := 5, fifo := [7000], bq := ⟨[(1, ⟨3,4,5,6⟩)]⟩, env := ⟨[(0, 50000000)]⟩ } (flt running))).setFlag Reg.senStat 1 true, sen { fifo := [900] } running,
  on (sen { state := ⟨[(3, neuWord ⟨100, 5, 7, 3, 1, 2, true, 0⟩), (5, neuWord ⟨-900, 50, 300, 3, 1, 2, true, 0⟩)]⟩, decay := ⟨[(7, 5)]⟩, pset := ⟨[(1, 2^30)]⟩ } (running.setReg Reg.senTick 400)), on (sen { state := ⟨[(3, neuWord ⟨100, 5, 7, 3, 1, 2, true, 0⟩)]⟩ } (running.setReg Reg.senTick 0x2000000)),
  on (sen core running), on (sen core2 running), on (sen core3 running), rule 60 (on running), rule 40 (on running), running.setReg Reg.senMemAddr 0x1002, running.setReg Reg.senMemAddr 0x2003, running.setReg Reg.senMemAddr 0x1FFFF,  sen core (running.setReg Reg.senMemAddr 0x10005)]
def states : List State := pool.map mk

theorem witness_SentinelSamples :
    ((fun (s : State) (taken : Bool) => s.dev.senOn = false ∧ (taken = false ∨ s.dev.sen.fifo = [])) (states.getD 0 State.reset) (true)) ∧
    ((fun (s : State) => s.dev.senOn = true) (states.getD 1 State.reset)) ∧
    ((fun (s : State) => s.dev.senOn = true ∧ s.dev.flag Reg.senStat 1 = false) (states.getD 1 State.reset)) ∧
    ((fun (s : State) => s.dev.senOn = true ∧ s.dev.flag Reg.senStat 1 = true ∧ 63 ≤ s.dev.sen.frames ∧ s.dev.fld Reg.senSdiCfg 3 0 = 0 ∧ s.dev.sen.sum = 0) (states.getD 3 State.reset)) ∧
    ((fun (s : State) (x : Int) => s.dev.sen.fifo = [x]) (states.getD 5 State.reset) (7000)) ∧
    ((fun (s : State) (x : Int) => s.dev.sen.fifo = [x] ∧ s.dev.senOn = true ∧ s.dev.held unitSentinel = false) (states.getD 5 State.reset) (7000)) := by decide +kernel

theorem witness_SentinelTicks :
    ((fun (s : State) => s.dev.senOn = false ∨ s.dev.held unitSentinel = true) (states.getD 0 State.reset)) ∧
    ((fun (s : State) => s.dev.senOn = true ∧ s.dev.held unitSentinel = false ∧ s.dev.sen.fifo = [] ∧ s.dev.sen.next = [] ∧ (∀ (r : Fin 32), s.dev.fld (Reg.senRuleCond ↑r) 31 28 = 0) ∧ 32 ≤ s.dev.fld Reg.senCtl 15 0) (states.getD 1 State.reset)) ∧
    ((fun (s : State) (x : SenEvent) (y : Syn) => let h : Nat := SMap.get 0 s.dev.sen.header x.header; s.dev.senOn = true ∧ s.dev.held unitSentinel = false ∧ s.dev.sen.fifo = [] ∧ s.dev.sen.next = [x] ∧ hdValid h = true ∧ (walkRow (hdBlock h) 0 (s.dev.senRow h)).fst = [y] ∧ y.tgt < 1024 ∧ (s.dev.senNeu y.tgt).pset < 8 ∧ ∀ (r : Fin 32), s.dev.fld (Reg.senRuleCond ↑r) 31 28 = 0) (states.getD 9 State.reset) ({ header := 3, mult := 3, payload := 256 }) ({ ix := 0, w := 127, tgt := 5 })) ∧
    ((fun (s : State) => s.dev.senOn = true ∧ s.dev.held unitSentinel = false ∧ s.dev.sen.fifo = [] ∧ s.dev.sen.next = [] ∧ s.dev.fld (Reg.senRuleCond 0) 31 28 = 2 ∧ s.dev.fld (Reg.senRuleCond 0) 25 16 < 4 ∧ s.dev.fld (Reg.senRuleCond 0) 15 8 = 1 ∧ 1 ≤ s.dev.fld (Reg.senRuleCond 0) 7 0 ∧ s.dev.rn (Reg.senRuleAct 0) = 0 ∧ SMap.get [] s.dev.sen.hist 0 = [] ∧ ∀ (r : Fin 31), s.dev.fld (Reg.senRuleCond (↑r + 1)) 31 28 = 0) (states.getD 12 State.reset)) := by decide +kernel

theorem witness_SentinelMemory :
    ((fun (s : State) (m : Master) => s.dev.fenced Reg.senMemData = false ∧ s.dev.reaches m = true ∧ s.dev.senOn = true) (states.getD 1 State.reset) (Sys2Proof.Master.mp)) ∧
    ((fun (s : State) (m : Master) => s.dev.fenced Reg.senMemData = false ∧ s.dev.reaches m = true ∧ s.dev.senOn = false) (states.getD 0 State.reset) (Sys2Proof.Master.mp)) ∧
    ((fun (s : State) (m : Master) => s.dev.fenced Reg.senMemData = false ∧ s.dev.reaches m = true) (states.getD 0 State.reset) (Sys2Proof.Master.mp)) := by decide +kernel

end W30

namespace W31

def pon (d : Dev) : Dev := (List.range 4).foldl (fun d j => d.setReg (Reg.pondState j) 0xFFFFFFFF) d
def ddr (d : Dev) : Dev := { (((d.setReg Reg.memDdrSizeLo 0).setReg Reg.memDdrSizeHi 1).setReg Reg.memDdrStat 0xF0) with board := { pkgBase := ddrBase, pkgLen := 0x10000 } }
def base : Dev := ddr (pon running)
def basic (d : Dev) : Dev := d.setFld Reg.pwrStat 18 16 7
def sites : List Site := [.flumeCell 1 2 true 5, .ncNeuron 3 5, .ncAcc 3 1 5, .ncHeader 3 7, .ncSynapse 3 9 1, .ncCache 3 7 1, .deltaStore 3, .ncAxon 3 9, .ncControl 3 7, .windowCounter 5, .pond 1 2, .cacheClean 5, .ddrLine 4, .coreModified 2 true 5, .sentinelNeuron 4, .intake 2 1 5, .router 3 4, .mpMemory 5, .junctionMap 3]
def lg (u : Nat) (l : ErrLog) (d : Dev) : Dev := d.setLog u l
def e (cls : Nat) : QWord := BitVec.ofNat 128 (entryOf cls 5 6 7 false false 900)
def nowE (src addr : Nat) : QWord := BitVec.ofNat 128 (entryOf 2 src 0 addr false false 1000)
def sameE : QWord := BitVec.ofNat 128 (entryOf clsData (siteSource (.ncAxon 3 9)) 0 9 false false 900)
def full8 : ErrLog := { wr := 8, todo := (List.range 8).map (fun k => ⟨k, e 2, none⟩), entries := ⟨(List.range 8).map (fun k => (k, e 2))⟩ }
def full8n : ErrLog := { wr := 8, todo := (List.range 8).map (fun k => ⟨k, nowE (4 + k) 1, none⟩), entries := ⟨(List.range 8).map (fun k => (k, nowE (4 + k) 1))⟩ }
def some3 : ErrLog := { wr := 4, hnd := 1, todo := [⟨1, e 2, none⟩, ⟨2, nowE 2 9, none⟩, ⟨3, nowE 200 1, none⟩], entries := ⟨[(1, e 2), (2, nowE 2 9), (3, nowE 200 1)]⟩ }
def rich (d : Dev) : Dev := { d.setNc 3 { acc := ⟨[(accKey 1 5, 77)]⟩ } with jn := { d.jn with wctr := ⟨[(5, 9)]⟩ } }
def cachedD (d : Dev) (dirty : List Nat) : Dev := (d.setNc 3 { cached := [{ header := 7, words := List.replicate 32 1, used := 1, hinted := false, dirty := dirty }], syn := ⟨[(31, 0xC002)]⟩ }).setReg (Reg.ncMemCfg 3) 1
def pool : List Dev := [cachedD base [], cachedD base [0], rich base, rich (base.setReg Reg.drgCtl 0), lg 3 full8 base, lg 3 full8n base, lg 3 some3 base, lg 0x102 some3 (rich base), lg 3 { wr := 1, todo := [⟨0, sameE, none⟩], entries := ⟨[(0, sameE)]⟩ } base, basic base, base.setFld Reg.pwrStat 18 16 2, lg 3 { wr := 9, hnd := 1 } base, lg 0x103 { wr := 8, hnd := 3 } base, base.setFld Reg.vciStat 2 0 3,
  lg 3 { wr := 2, hnd := 1, todo := [⟨1, e 3, some (.ncControl 3 7)⟩] } base, lg 0x103 { wr := 2, hnd := 1, held := true, todo := [⟨1, e 2, none⟩] } base, lg 0x104 { wr := 2, hnd := 1, todo := [⟨1, e 3, none⟩] } (lg 0x103 { wr := 2, hnd := 1, held := true, todo := [⟨1, e 2, none⟩] } base),
  { base with laps := ⟨[(0, {pos := 511}), (10, {pos := 65535}), (2, {pos := 5})]⟩ }]
def states : List State := pool.map mk

theorem witness_FailedChecks :
    ((fun (s : State) (x : Site) => s.dev.siteLives x = false) (states.getD 0 State.reset) (Sys2Proof.Site.deltaStore 0x000003#24)) ∧
    ((fun (s : State) (x : Site) (b : Bool) => s.dev.siteLives x = true ∧ s.dev.siteCls x = clsData ∧ meets s.dev x b = true) (states.getD 0 State.reset) (Sys2Proof.Site.flumeCell 1 2 true 0x0005#13) (true)) ∧
    ((fun (s : State) (x : Site) (b : Bool) => s.dev.siteLives x = true ∧ s.dev.siteCls x ≠ clsFatal ∧ meets s.dev x b = true ∧ logsOnce s.dev x = true) (states.getD 0 State.reset) (Sys2Proof.Site.flumeCell 1 2 true 0x0005#13) (true)) ∧
    ((fun (s : State) (n : Fin 256) => s.dev.pwrState ≤ 1 ∧ s.dev.absentReg (Reg.ncStat ↑n) = false) (states.getD 0 State.reset) (3)) ∧
    ((fun (s : State) (b : Bool) (i : Fin 4096) => s.dev.pwrState ≤ 1 ∧ meets s.dev (Site.windowCounter i) b = true) (states.getD 0 State.reset) (true) (5)) ∧
    ((fun (s : State) (b : Bool) (k : Fin 64) (l : Fin 8192) => s.dev.pwrState ≤ 1 ∧ s.dev.pondOn ↑k = true ∧ meets s.dev (Site.pond k l) b = true) (states.getD 0 State.reset) (true) (1) (2)) ∧
    ((fun (s : State) (n : Fin 256) => s.dev.pwrState ≤ 1 ∧ s.dev.absentReg (Reg.ncStat ↑n) = false ∧ s.dev.basic = false) (states.getD 0 State.reset) (3)) := by decide +kernel

theorem witness_ErrorHandling :
    ((fun (s : State) => 2 < s.dev.pwrState ∨ s.dev.nextTodo = none) (states.getD 0 State.reset)) ∧
    ((fun (s : State) (u : Nat) (t : ErrTodo) => s.dev.pwrState ≤ 2 ∧ s.dev.nextTodo = some (u, t) ∧ t.site = none ∧ BitVec.toNat t.entry % 16 ≠ clsEvent) (states.getD 6 State.reset) (3) ({ num := 1, entry := 0x00000000000003840000000700060502#128, site := none })) ∧
    ((fun (s : State) (u : Nat) (t : ErrTodo) (n : Fin 256) (w : BitVec 24) => s.dev.pwrState ≤ 2 ∧ s.dev.nextTodo = some (u, t) ∧ t.site = some (Site.ncControl n w) ∧ u = ↑n) (states.getD 14 State.reset) (3) ({ num := 1, entry := 0x00000000000003840000000700060503#128, site := some (Sys2Proof.Site.ncControl 3 0x000007#24) }) (3) (0x000007#24)) ∧
    ((fun (s : State) (u : Nat) (t : ErrTodo) => s.dev.nextTodo = some (u, t)) (states.getD 6 State.reset) (3) ({ num := 1, entry := 0x00000000000003840000000700060502#128, site := none })) := by decide +kernel

theorem witness_DredgerAndPatrol :
    ((fun (s : State) (k : Fin 12) => s.dev.dredges ↑k = false) (states.getD 3 State.reset) (0)) ∧
    ((fun (s : State) (k : Fin 12) => s.dev.dredges ↑k = true) (states.getD 0 State.reset) (0)) ∧
    ((fun (s : State) (k : Fin 12) (x : Site) => s.dev.dredges ↑k = true ∧ siteKind x = some ↑k ∧ k ≠ 11 ∧ s.dev.siteLives x = true ∧ s.dev.siteCls x = clsData) (states.getD 0 State.reset) (2) (Sys2Proof.Site.ncNeuron 3 5)) ∧
    ((fun (s : State) (l : BitVec 33) => let a : Nat := ddrBase + l.toNat * 64; s.dev.dredges 11 = false ∨ s.dev.fld Reg.drgDdrRate 15 0 = 0 ∨ s.dev.isDdr a = false ∨ s.dev.patrolled a = false) (states.getD 0 State.reset) (0x1ffffffff#33)) ∧
    ((fun (s : State) (l : BitVec 33) => let a : Nat := ddrBase + l.toNat * 64; s.dev.dredges 11 = true ∧ s.dev.fld Reg.drgDdrRate 15 0 ≠ 0 ∧ s.dev.isDdr a = true ∧ s.dev.patrolled a = true) (states.getD 0 State.reset) (0x000000004#33)) := by decide +kernel

end W31

namespace W32

def st (n : Nat) (d : Dev) : Dev := d.setStep n
def bs : Dev := { ({} : Dev) with tb := { tbc := 900 }, bme := true }
def psx (k : Nat) (d : Dev) : Dev := d.setFld Reg.pwrStat 18 16 k
def dirty (d : Dev) : Dev := dirtyRegs 3 ([Reg.senSamples, Reg.glbBadacc] ++ [Reg.pwrNapTmo, Reg.senStat, Reg.secTampers, Reg.pwrTrips, Reg.secTamper]) { d with mem := ⟨[(5, 7), (hostBase + 9, 8)]⟩ }
def rdy (d : Dev) : Dev := d.setFlag Reg.secBootStat 31 true
def rom (d : Dev) : Dev := { st 4 d with sec := { d.sec with romWait := true } }
def go5 (d : Dev) : Dev := { st 5 d with sec := { d.sec with go := true } }
def pn (f : Pins → Pins) (d : Dev) : Dev := { d with pins := f d.pins }
def okHdr : List Byte := List.replicate 160 0
def lcS (l : Nat) (d : Dev) : Dev := { d with fuses := { d.fuses with lc := l } }
def pool : List Dev := [bs, lcS 2 (rdy { bs with bme := false }), dirty bs, dirty (rdy bs), pn (fun p => { p with thermtripN := false }) bs, pn (fun p => { p with thermtripN := false }) (bs.setReg Reg.pwrTj 0xFF00), pn (fun p => { p with thermtripN := false }) (bs.setReg Reg.pwrTj 0x370), pn (fun p => { p with sysRstN := false, straps := 13 }) bs,
  st 1 (pn (fun p => { p with sysRstN := false, straps := 13, padsHeld := true }) bs), st 1 bs, st 2 (pn (fun p => { p with enCore := true }) bs), st 2 (pn (fun p => { p with enCore := true, enSd := true, pgMain := true }) bs), rdy (pn (fun p => { p with enCore := true, enSd := true, pgMain := true }) bs),
  st 3 bs, st 3 (lcS 5 bs), st 4 bs, st 4 (pn (fun p => { p with perstN := false }) bs), rom bs, rom { bs with sec := { bs.sec with tampered := true } }, rom (pn (fun p => { p with tamperN := false }) bs),
  go5 bs, go5 (bs.setReg Reg.secFwLen 100), (go5 ((bs.setReg Reg.secFwLen 100).setReg Reg.secFwBaseHi 0x7FFF)).setReg Reg.secFwBaseLo 0xFFFFFFF0, st 5 bs, st 6 bs, st 6 { bs with sec := { bs.sec with trained := true } }, st 6 { bs with sec := { bs.sec with trained := true, header := okHdr } },
  st 6 { bs with sec := { bs.sec with trained := true, warm := true, header := List.replicate 64 0 ++ toBytes 12 2 ++ sha256 [] ++ List.replicate 52 0 } },
  st 7 bs, st 8 bs, st 8 { bs with fuses := { bs.fuses with variant := 0xA002 } }, st 9 bs, st 9 { bs with sec := { bs.sec with warm := true, failed := [⟨5, 3, 1, 7⟩] } }, st 10 (bs.setReg Reg.lkCtl 2), st 11 bs, st 11 (bs.setReg Reg.secJrnlCap 40000), st 11 { bs with sec := { bs.sec with fatal := some (.mpMemory 5) } },
  (rdy { bs with sec := { bs.sec with header := okHdr } }).setFld Reg.secSvn 21 16 7, (rdy { bs with sec := { bs.sec with header := okHdr } }).setFld Reg.vciStat 2 0 3, rdy { bs with sec := { bs.sec with tampered := true, vault := ⟨[(0, 1), (1, 1), (256, 1), (257, 2)]⟩ } },
  lcS 1 (rdy bs), lcS 2 (rom bs), rom (lcS 0 bs), (rdy bs).setFlag Reg.secAttStat 31 true, { (rdy bs) with sec := { bs.sec with vault := ⟨[(0, 1), (1, 3), (256, 1), (257, 4)]⟩, runtime := [7], header := okHdr, board := sha256 [5] } }, { ((rdy bs).setReg Reg.secAttDstHi 0x7FFF).setReg Reg.secAttDstLo 0xFFFFFFF0 with sec := { bs.sec with vault := ⟨[(0, 1), (1, 3), (256, 1), (257, 4)]⟩ } },
  { (rdy bs).setFlag Reg.secAttStat 31 true with sec := { bs.sec with vault := ⟨[(0, 1), (1, 3), (256, 1), (257, 4)]⟩, runtime := [7], header := okHdr, board := sha256 [5] } },
  { (rdy bs).setFlag Reg.secAttStat 31 true with sec := { bs.sec with tampered := true } }, st 8 { bs with sec := { bs.sec with failed := [⟨1, 3, 1, 7⟩] } },
  psx 2 (rdy (pn (fun p => { p with enCore := true }) bs)), psx 3 (rdy bs), psx 7 (rdy (pn (fun p => { p with enCore := true }) bs))]
def states : List State := pool.map mk

theorem witness_ResetsOfTheDevice :
    ((fun (s : State) => s.dev.resetAllowed = true) (states.getD 0 State.reset)) ∧
    ((fun (s : State) => s.dev.resetAllowed = false) (states.getD 6 State.reset)) ∧
    ((fun (s : State) (m : Master) => s.dev.fenced 8 = false ∧ s.dev.reaches m = true ∧ s.dev.resetAllowed = true) (states.getD 0 State.reset) (Sys2Proof.Master.mp)) ∧
    ((fun (s : State) (v : Word) (m : Master) => s.dev.fenced 8 = false ∧ s.dev.reaches m = true ∧ v ≠ 2650) (states.getD 0 State.reset) (0x00000000#32) (Sys2Proof.Master.mp)) := by decide +kernel

theorem witness_SuppliesAtPowerUp :
    ((fun (s : State) => s.dev.atStep 0 = true) (states.getD 0 State.reset)) ∧
    ((fun (s : State) => s.dev.atStep 1 = true) (states.getD 8 State.reset)) ∧
    ((fun (s : State) => s.dev.atStep 1 = false) (states.getD 0 State.reset)) ∧
    ((fun (s : State) => s.dev.atStep 2 = true ∧ s.dev.pins.enSd = true ∧ s.dev.pins.pgMain = true) (states.getD 11 State.reset)) ∧
    ((fun (s : State) => s.dev.atStep 2 = false ∨ s.dev.pins.enSd = false ∨ s.dev.pins.pgMain = false) (states.getD 0 State.reset)) ∧
    ((fun (s : State) => s.dev.atStep 2 = true ∧ s.dev.pins.enCore = true ∧ s.dev.pins.pgMain = false) (states.getD 10 State.reset)) ∧
    ((fun (s : State) => s.dev.pins.enCore = false ∨ s.dev.pins.pgMain = true) (states.getD 0 State.reset)) ∧
    ((fun (s : State) => s.dev.pins.pgMain = false) (states.getD 0 State.reset)) ∧
    ((fun (s : State) => s.dev.pins.pgMain = true ∧ s.dev.pins.enCore = true) (states.getD 11 State.reset)) := by decide +kernel

theorem witness_BringUpSteps :
    ((fun (s : State) => s.dev.atStep 3 = true) (states.getD 13 State.reset)) ∧
    ((fun (s : State) => s.dev.atStep 4 = true ∧ s.dev.sec.romWait = false) (states.getD 15 State.reset)) ∧
    ((fun (s : State) (v : Word) => s.dev.fenced Reg.secBootCtl = false ∧ BitVec.getLsbD v 0 = true ∧ s.dev.bootStep = 4 ∧ s.dev.sec.romWait = true ∧ s.dev.sec.tampered = false ∧ s.dev.pins.tamperN = true) (states.getD 17 State.reset) (0x00000001#32)) ∧
    ((fun (s : State) (v : Word) => s.dev.fenced Reg.secBootCtl = false ∧ ¬(BitVec.getLsbD v 0 = true ∧ s.dev.bootStep = 4 ∧ s.dev.sec.romWait = true ∧ s.dev.sec.tampered = false ∧ s.dev.pins.tamperN = true)) (states.getD 0 State.reset) (0x00000000#32)) ∧
    ((fun (s : State) => s.dev.atStep 7 = true) (states.getD 28 State.reset)) ∧
    ((fun (s : State) => s.dev.atStep 8 = true) (states.getD 29 State.reset)) ∧
    ((fun (s : State) => s.dev.atStep 9 = true) (states.getD 31 State.reset)) ∧
    ((fun (s : State) => s.dev.atStep 10 = true) (states.getD 33 State.reset)) ∧
    ((fun (s : State) => s.dev.atStep 11 = true ∧ s.dev.sec.fatal = none) (states.getD 34 State.reset)) ∧
    ((fun (s : State) (x : Site) => s.dev.atStep 11 = true ∧ s.dev.sec.fatal = some x) (states.getD 36 State.reset) (Sys2Proof.Site.mpMemory 0x000005#24)) ∧
    ((fun (s : State) => s.dev.atStep 0 = false) (states.getD 1 State.reset)) ∧
    ((fun (s : State) => s.dev.atStep 2 = false) (states.getD 0 State.reset)) ∧
    ((fun (s : State) => s.dev.atStep 3 = false) (states.getD 0 State.reset)) ∧
    ((fun (s : State) => s.dev.atStep 4 = false) (states.getD 0 State.reset)) ∧
    ((fun (s : State) => s.dev.atStep 5 = false) (states.getD 0 State.reset)) ∧
    ((fun (s : State) => s.dev.atStep 6 = false) (states.getD 0 State.reset)) ∧
    ((fun (s : State) => s.dev.atStep 7 = false) (states.getD 0 State.reset)) ∧
    ((fun (s : State) => s.dev.atStep 8 = false) (states.getD 0 State.reset)) ∧
    ((fun (s : State) => s.dev.atStep 9 = false) (states.getD 0 State.reset)) ∧
    ((fun (s : State) => s.dev.atStep 10 = false) (states.getD 0 State.reset)) ∧
    ((fun (s : State) => s.dev.atStep 11 = false) (states.getD 0 State.reset)) := by decide +kernel

theorem witness_FirmwareAndRuntime :
    ((fun (s : State) => let len : Nat := s.dev.rn Reg.secFwLen; s.dev.atStep 5 = true ∧ s.dev.sec.go = true ∧ s.dev.bme = true ∧ len = 0) (states.getD 20 State.reset)) ∧
    ((fun (s : State) => let a : Nat := s.dev.rn64 Reg.secFwBaseLo Reg.secFwBaseHi; let len : Nat := s.dev.rn Reg.secFwLen; s.dev.atStep 5 = true ∧ s.dev.sec.go = true ∧ s.dev.bme = true ∧ len ≠ 0 ∧ 2 ^ 47 < a + len) (states.getD 22 State.reset)) ∧
    ((fun (s : State) => let a : Nat := s.dev.rn64 Reg.secFwBaseLo Reg.secFwBaseHi; let len : Nat := s.dev.rn Reg.secFwLen; s.dev.atStep 5 = true ∧ s.dev.sec.go = true ∧ s.dev.bme = true ∧ len ≠ 0 ∧ a + len ≤ 2 ^ 47) (states.getD 21 State.reset)) ∧
    ((fun (s : State) => s.dev.atStep 5 = true ∧ s.dev.sec.go = false) (states.getD 23 State.reset)) ∧
    ((fun (s : State) => let c : Nat × Nat × Nat × List Byte := compOf s.dev.sec.header 2; let a : Nat := hostBase + s.dev.rn64 Reg.secFwBaseLo Reg.secFwBaseHi; let bundle : List Byte := s.dev.bytes a (s.dev.rn Reg.secFwLen); let img : List Byte := List.take c.snd.snd.fst (List.drop c.snd.fst bundle); s.dev.atStep 6 = true ∧ s.dev.sec.trained = true ∧ s.dev.bme = true ∧ s.dev.readBad a (s.dev.rn Reg.secFwLen) = false ∧ sha256 img ≠ c.snd.snd.snd) (states.getD 25 State.reset)) ∧
    ((fun (s : State) => let c : Nat × Nat × Nat × List Byte := compOf s.dev.sec.header 2; let a : Nat := hostBase + s.dev.rn64 Reg.secFwBaseLo Reg.secFwBaseHi; let bundle : List Byte := s.dev.bytes a (s.dev.rn Reg.secFwLen); let img : List Byte := List.take c.snd.snd.fst (List.drop c.snd.fst bundle); s.dev.atStep 6 = true ∧ s.dev.sec.trained = true ∧ s.dev.bme = true ∧ s.dev.readBad a (s.dev.rn Reg.secFwLen) = false ∧ sha256 img = c.snd.snd.snd) (states.getD 27 State.reset)) ∧
    ((fun (s : State) => s.dev.atStep 6 = true ∧ s.dev.sec.trained = false) (states.getD 24 State.reset)) := by decide +kernel

theorem witness_VersionAndLifeCycle :
    ((fun (s : State) => let run : Nat := s.dev.fld Reg.secSvn 21 16; s.dev.fenced Reg.secSvnCommit = false ∧ s.dev.jobState ≤ jsLoaded ∧ s.dev.sec.header ≠ [] ∧ s.dev.fuses.svn < run) (states.getD 37 State.reset)) ∧
    ((fun (s : State) => let run : Nat := s.dev.fld Reg.secSvn 21 16; s.dev.fenced Reg.secSvnCommit = false ∧ (jsLoaded < s.dev.jobState ∨ s.dev.sec.header = [] ∨ run ≤ s.dev.fuses.svn)) (states.getD 0 State.reset)) ∧
    ((fun (s : State) (v : Word) => s.dev.fenced Reg.secLcCtl = false ∧ s.dev.sec.lcWait = none ∧ BitVec.getLsbD v 31 = false) (states.getD 0 State.reset) (0x00000000#32)) ∧
    ((fun (s : State) (v : Word) => s.dev.fenced Reg.secLcCtl = false ∧ s.dev.sec.lcWait = none ∧ BitVec.getLsbD v 31 = true ∧ s.dev.sec.tampered = true) (states.getD 18 State.reset) (0x80000002#32)) ∧
    ((fun (s : State) (v : Word) => s.dev.fenced Reg.secLcCtl = false ∧ s.dev.sec.lcWait = none ∧ BitVec.getLsbD v 31 = true ∧ s.dev.sec.tampered = false ∧ ¬(s.dev.bootStep = 4 ∧ s.dev.sec.romWait = true ∨ s.dev.flag Reg.secBootStat 31 = true ∧ s.dev.jobState = jsNone)) (states.getD 0 State.reset) (0x80000002#32)) := by decide +kernel

theorem witness_VersionAndLifeCycle_1 :
    ((fun (s : State) (v : Word) => let tgt : Nat := BitVec.toNat v % 8; s.dev.fenced Reg.secLcCtl = false ∧ s.dev.sec.lcWait = none ∧ BitVec.getLsbD v 31 = true ∧ s.dev.sec.tampered = false ∧ (s.dev.bootStep = 4 ∧ s.dev.sec.romWait = true ∨ s.dev.flag Reg.secBootStat 31 = true ∧ s.dev.jobState = jsNone) ∧ lcAllowed s.dev.fuses.lc tgt = false) (states.getD 1 State.reset) (0x80000002#32)) ∧
    ((fun (s : State) (v : Word) => let tgt : Nat := BitVec.toNat v % 8; s.dev.fenced Reg.secLcCtl = false ∧ s.dev.sec.lcWait = none ∧ BitVec.getLsbD v 31 = true ∧ s.dev.sec.tampered = false ∧ (s.dev.bootStep = 4 ∧ s.dev.sec.romWait = true ∨ s.dev.flag Reg.secBootStat 31 = true ∧ s.dev.jobState = jsNone) ∧ lcAllowed s.dev.fuses.lc tgt = true ∧ tgt ≠ 4 ∧ s.dev.resetAllowed = true) (states.getD 1 State.reset) (0x80000003#32)) ∧
    ((fun (s : State) (v : Word) => let tgt : Nat := BitVec.toNat v % 8; let token : Nat := hostBase + s.dev.rn64 Reg.secLcTokenLo Reg.secLcTokenHi; s.dev.fenced Reg.secLcCtl = false ∧ s.dev.sec.lcWait = none ∧ BitVec.getLsbD v 31 = true ∧ s.dev.sec.tampered = false ∧ (s.dev.bootStep = 4 ∧ s.dev.sec.romWait = true ∨ s.dev.flag Reg.secBootStat 31 = true ∧ s.dev.jobState = jsNone) ∧ lcAllowed s.dev.fuses.lc tgt = true ∧ tgt = 4 ∧ s.dev.bme = true ∧ s.dev.resetAllowed = true ∧ token + 7920 ≤ hostBase + 2 ^ 47) (states.getD 3 State.reset) (0x80000004#32)) ∧
    ((fun (s : State) (v : Word) => let tgt : Nat := BitVec.toNat v % 8; let token : Nat := hostBase + s.dev.rn64 Reg.secLcTokenLo Reg.secLcTokenHi; s.dev.fenced Reg.secLcCtl = false ∧ s.dev.sec.lcWait = none ∧ BitVec.getLsbD v 31 = true ∧ s.dev.sec.tampered = false ∧ (s.dev.bootStep = 4 ∧ s.dev.sec.romWait = true ∨ s.dev.flag Reg.secBootStat 31 = true ∧ s.dev.jobState = jsNone) ∧ lcAllowed s.dev.fuses.lc tgt = true ∧ tgt = 4 ∧ s.dev.bme = false ∧ token + 7920 ≤ hostBase + 2 ^ 47) (states.getD 1 State.reset) (0x80000004#32)) := by decide +kernel

theorem witness_AttestationReports :
    ((fun (s : State) => s.dev.fenced Reg.secAttCtl = false ∧ s.dev.flag Reg.secAttStat 31 = true) (states.getD 43 State.reset)) ∧
    ((fun (s : State) => s.dev.fenced Reg.secAttCtl = false ∧ s.dev.flag Reg.secAttStat 31 = false ∧ s.dev.sec.tampered = false ∧ s.dev.idKey = []) (states.getD 0 State.reset)) ∧
    ((fun (s : State) => s.dev.fenced Reg.secAttCtl = false ∧ s.dev.flag Reg.secAttStat 31 = false ∧ s.dev.sec.tampered = true) (states.getD 18 State.reset)) ∧
    ((fun (s : State) => s.dev.fenced Reg.secAttCtl = false ∧ s.dev.flag Reg.secAttStat 31 = false ∧ s.dev.sec.tampered = false ∧ s.dev.idKey ≠ [] ∧ ¬s.dev.rn64 Reg.secAttDstLo Reg.secAttDstHi + 17472 ≤ 2 ^ 47) (states.getD 45 State.reset)) ∧
    ((fun (s : State) => s.dev.fenced Reg.secAttCtl = false ∧ s.dev.flag Reg.secAttStat 31 = false ∧ s.dev.sec.tampered = false ∧ s.dev.idKey ≠ [] ∧ s.dev.rn64 Reg.secAttDstLo Reg.secAttDstHi + 17472 ≤ 2 ^ 47) (states.getD 44 State.reset)) ∧
    ((fun (s : State) => let a : Nat := s.dev.rn64 Reg.secAttDstLo Reg.secAttDstHi; s.dev.flag Reg.secAttStat 31 = true ∧ s.dev.bme = true ∧ (s.dev.hostWait.any fun (r : HostReq) => r.sender == HostSender.report) = false ∧ s.dev.sec.tampered = false ∧ a + 17472 ≤ 2 ^ 47) (states.getD 43 State.reset)) ∧
    ((fun (s : State) => s.dev.flag Reg.secAttStat 31 = true ∧ (s.dev.hostWait.any fun (r : HostReq) => r.sender == HostSender.report) = false ∧ s.dev.sec.tampered = true) (states.getD 47 State.reset)) ∧
    ((fun (s : State) => s.dev.flag Reg.secAttStat 31 = false) (states.getD 0 State.reset)) := by decide +kernel

theorem witness_TamperAndBoundaryScan :
    ((fun (s : State) (src : TamperSource) => s.dev.detects src = true) (states.getD 0 State.reset) (Sys2Proof.TamperSource.pin)) ∧
    ((fun (s : State) (src : TamperSource) => s.dev.detects src = false) (states.getD 0 State.reset) (Sys2Proof.TamperSource.volt)) := by decide +kernel

end W32

namespace W33

def lk (d : Dev) (en up : Bool) (lemc : Option Nat) : Dev :=
  let d := (d.setReg (Reg.intkLinkCfg 0) (1 + 1*256 + 2*16384)).setReg (Reg.intkLinkCtl 0) ((2640 * 2^20) + b2n en)
  let d := ((d.setReg (Reg.intkLinkStat 0) (b2n en + 2 * b2n up)).setReg (Reg.intkLinkSper 0) 0x40000).setReg (Reg.sysPeriod 1) 64
  d.setLink 0 { lemc := lemc, crcLeft := ⟨[(1, 3)]⟩, j := 9 }
def sy (m : Nat) (d : Dev) : Dev := [0, 1].foldl (fun d n => ((d.setReg (Reg.sysCtl n) (m + 0x500)).setReg (Reg.sysGap n) (3 + 2*65536)).setSys n { next := some 1029, gapPos := 1}) d
def sn (d : Dev) : Dev := ((d.setReg Reg.senCtl 0x80000100).setFlag Reg.senStat 1 true)
def flt (d : Dev) : Dev := ((((d.setReg (Reg.senBqB0 1) 0x12345).setReg (Reg.senBqA1 1) 0xFFFF0).setReg (Reg.senEnvCfg 0) 0x5300).setReg (Reg.senEnvCfg 1) 0x4202).setReg (Reg.senEnvCfg 2) 0x0001
def ks (d : Dev) : Dev := (d.setFld Reg.pwrStat 18 16 3)
def gtr (d : Dev) : Dev := ({ d with tb := { d.tb with cmp := ⟨[(0,1001),(1,1001),(3,2^40)]⟩}}.setReg (Reg.tbcmpStat 1) 1).setReg (Reg.tbcmpCtl 1) 0xFFFFFF01
def awake (d : Dev) : Dev := { d with harts := ⟨(List.range 16).map (fun k => (k, { held := false }))⟩ }
def pool : List Dev := [running, gtr running, ({} : Dev), ks running, flt { running with sen := { fifo := [-700] } }] ++ [0, 500, 29, 1029].flatMap (fun l => [1, 2, 3].flatMap fun m => [sy m (lk running true true (some l)), sy m (lk running true false (some l))]) ++
  [ks { running with tb := { running.tb with sent := 374, keeper := 7 } }, flt (sn running), (flt (sn { running with sen := { fifo := [0x123400], frames := 64, sum := 777, count := 3, sample := 5, bq := ⟨[(1, ⟨3,4,5,6⟩)]⟩, env := ⟨[(0, 50000000)]⟩ } })).setReg Reg.senSdiCfg 0x10002, flt (sn { running with sen := { fifo := [0x123400], frames := 64, sample := 5, bq := ⟨[(1, ⟨3,4,5,6⟩)]⟩, env := ⟨[(0, 50000000)]⟩ } })]
def states : List State := (pool ++ [awake running]).map mk

theorem witness_SysrefPulsesNeverRealign :
    ((fun (s : State) (ch : Fin 8) (n : Fin 6) (g : Nat) => s.dev.tbOn = true ∧ s.dev.clocksOn = true ∧ (s.dev.sys ↑ch).next = some g ∧ s.dev.tb.tbc < g ∧ (s.dev.sysMode ↑ch = 2 → (s.dev.sys ↑ch).gapPos < max 1 (s.dev.fld (Reg.sysGap ↑ch) 7 0)) ∧ s.dev.linkEn ↑n = true ∧ s.dev.fld (Reg.intkLinkCfg ↑n) 26 24 = ↑ch ∧ s.dev.flag (Reg.intkLinkStat ↑n) 4 = false ∧ (s.dev.link ↑n).lemc ≠ none) (states.getD 5 State.reset) (0) (0) (1029)) ∧
    ((fun (d : Dev) (ch : Fin 8) (n : Fin 6) => d.linkEn ↑n = true ∧ d.fld (Reg.intkLinkCfg ↑n) 26 24 = ↑ch ∧ d.flag (Reg.intkLinkStat ↑n) 4 = false) (states.getD 5 State.reset).dev (0) (0)) := by decide +kernel

theorem witness_FreeLockReadByManyInOneCycle :
    ((fun (s : State) (n : Fin 32) (m : Master) (ms : List Master) => s.dev.fenced (Reg.mbxLock ↑n) = false ∧ s.dev.pairOwner ↑n = 0 ∧ m ∈ ms ∧ ∀ (k : Master), k ∈ ms → servedAt m ≤ servedAt k ∧ s.dev.reaches k = true) (states.getD 0 State.reset) (0) (Sys2Proof.Master.host) ([Sys2Proof.Master.host])) := by decide +kernel

theorem witness_EnvelopeDetectors :
    ((fun (s : State) (k : Fin 4) (z : Int) => s.dev.sen.fifo = [z] ∧ s.dev.fld (Reg.senEnvCfg ↑k) 3 0 ≤ 8 ∧ SMap.get 0 s.dev.sen.env ↑k < 2 ^ 32) (states.getD 4 State.reset) (0) (-700)) := by decide +kernel

theorem witness_ClassOfAFinalWindow :
    ((fun (counts : List Nat) => ∀ (x : Nat), x ∈ counts → x = 0) ([])) := by decide +kernel

end W33

namespace W34

def cmd (op imm : Nat) (args : List Nat) : VciCmd := { tag := 7, op := op, imm := imm, pair := 3, owner := 4, args := args }
def jq (st : Nat) (c : VciCmd) (d : Dev) : Dev := { (d.setFlag Reg.secBootStat 31 true).setFld Reg.vciStat 2 0 st with vci := { d.vci with jobq := [c] } }
def pon (d : Dev) : Dev := (List.range 4).foldl (fun d j => d.setReg (Reg.pondState j) 0xFFFFFFFF) d
def blk (cap : Nat) : List Byte := toBytes 2 6400 ++ toBytes 1 2 ++ toBytes 1 8 ++ toBytes 1 16 ++ zeroBytes 43 ++ toBytes 8 cap ++ zeroBytes 8
def cap : Nat := 2 * 8 * 16 * 0x8000000
def base : Dev := ((pon running).putBytes 0x1000 (blk cap ++ blk cap)).putBytes 0x2000 (blk 5 ++ blk cap)
def cs : List VciCmd := [cmd 2 3 [0x1000, 0], cmd 2 3 [0x2000, 0], cmd 2 3 [0x1000, 0x80], cmd 2 4 [0x1000, 0], cmd 2 0 [0x1000, 0]]
def pool : List Dev := (cs.map (fun c => jq 0 c base)) ++ [jq 1 (cmd 2 3 [0x1000, 0]) base]
def states : List State := pool.map mk

theorem witness_DdrConfiguration :
    ((fun (s : State) (c : VciCmd) => s.dev.jobHead 2 = some c ∧ s.dev.basic = false ∧ s.dev.serving = true ∧ s.dev.jobState ≠ jsNone) (states.getD 5 State.reset) ({ tag := 7, op := 2, imm := 3, pair := 3, owner := 4, args := [4096, 0], begun := false })) ∧
    ((fun (s : State) (c : VciCmd) => let ks : List Nat := maskBits 4 c.imm; let a : Nat := cmdArg64 c 0; let n : Nat := 64 * ks.length; s.dev.jobHead 2 = some c ∧ s.dev.basic = false ∧ s.dev.serving = true ∧ s.dev.jobState = jsNone ∧ s.dev.readable a n = false) (states.getD 2 State.reset) ({ tag := 7, op := 2, imm := 3, pair := 3, owner := 4, args := [4096, 128], begun := false })) ∧
    ((fun (s : State) (c : VciCmd) => let ks : List Nat := maskBits 4 c.imm; let a : Nat := cmdArg64 c 0; let n : Nat := 64 * ks.length; s.dev.jobHead 2 = some c ∧ s.dev.basic = false ∧ s.dev.serving = true ∧ s.dev.jobState = jsNone ∧ s.dev.readable a n = true ∧ (isHost a = false ∨ s.dev.bme = true)) (states.getD 0 State.reset) ({ tag := 7, op := 2, imm := 3, pair := 3, owner := 4, args := [4096, 0], begun := false })) := by decide +kernel

end W34

namespace W35

def pk (row col axon tick : Nat) : Nat := mkPacket 1 1 row col 3 axon tick 2 0x100
def wr (d : Dev) (r : Nat) (x : Router) : Dev := d.setRouter r x
def base : Dev := running
def ib (l : List Nat) (port vc : Nat) : SMap (List Nat) := ⟨[(port*5+vc, l)]⟩
def full : SMap (List Nat) := ⟨[(15, List.replicate 8 1)]⟩
def ps : List Nat := [0, 9, pk 1 8 5 700, pk 1 0x10 5 700, pk 1 0x100 5 700, pk 2 8 5 700, pk 5 8 5 700, pk 4 0x18 5 700]
def rt (tbl : List (Nat × Nat)) (d : Dev) : Dev := tbl.foldl (fun d x => d.setReg x.1 x.2) d
def inj (x : Router) : Dev := wr base 3 { x with openTick := 700 }
def evp (g : Nat) : Nat := putBits (pk 1 8 5 700) 79 76 g
def cplp (dev ack : Nat) : Nat := 3 + dev * 2^52 + ack * 2^60
def routed (d : Dev) : Dev := (d.setReg (Reg.lkRoute 2) 0x80000001).setReg (Reg.lkRoutePmask 2) 0
def lp (seq dev : Nat) : Nat := tagged (putBits (putBits (pk 1 8 5 700) 107 96 seq) 19 4 dev) 0 2 0 7
def landing (q : Nat) (x : Landing) (d : Dev) : Dev := { d.setPort 0 { landing := ⟨[(0, [q])]⟩ } with bar := { d.bar with landing := ⟨[(515, x)]⟩ } }
def hp : Nat := putBits (pk 1 0x10 5 700) 3 0 2
def tg (c : Nat) : Nat := tagged (putBits (pk 1 8 5 700) 3 0 c) 1 0 0 0
def hints : List Dev := [ inj { inbuf := ⟨[(10, [tg 1]), (16, [tg 2]), (22, [tg 3])]⟩, hintAt := ⟨[(3, 1000)]⟩ }, inj { inbuf := ⟨[(10, [tg 1]), (17, [tg 4]), (23, [tg 6]), (24, [tg 1])]⟩ }, inj { inbuf := ⟨[(10, [tg 1]), (16, [tg 2]), (24, [tg 1])]⟩ },
  inj { inbuf := ⟨[(20, [pk 1 0x10 5 700]), (21, [hp])]⟩ }, inj { inbuf := ⟨[(20, [pk 1 0x10 5 700]), (21, [hp])]⟩, hintAt := ⟨[(4, 1000)]⟩ },
  inj { inbuf := ⟨[(15, [pk 1 0x10 5 700]), (16, [hp]), (21, [hp])]⟩, hintAt := ⟨[(3, 1000)]⟩ }]
def pool : List Dev := hints ++
  ps.map (fun p => inj { inbuf := ib [p, 77] 4 0 }) ++
  [(inj { inbuf := ib [pk 1 8 5 700] 4 0 }).setNc 3 { failed := true },
   (inj { inbuf := ib [pk 1 0x10 5 700] 4 0 }).setRouter 4 { inbuf := full },
   inj { repl := [⟨0, [(1, 55), (2, 66)]⟩] }, inj { repl := [⟨0, [(1, 55)]⟩] }, 
   inj { fromNc := [evp 0, 5] }, inj { fromNc := [evp 2] }, (inj { fromNc := [evp 2] }).setReg (Reg.rtGrpCtl 3 2) 0x80000005,
   inj { inject := [⟨pk 3 8 5 700, [0], 4⟩] }, inj { inject := [⟨pk 3 8 5 700, [2], 4⟩] },
   routed (inj { inject := [⟨pk 3 8 5 700, [2], 4⟩], nextSeq := ⟨[(2, 300)]⟩ }),
   inj { cpls := [cplp 2 5], nextSeq := ⟨[(2, 7)]⟩ }, inj { cpls := [cplp 2 5], nextSeq := ⟨[(2, 4)]⟩ },
   landing (lp 5 1) {next := 5} base, landing (lp 5 1) {next := 6} base, landing (lp 505 1) {next := 6} base, landing (lp 8 1) {next := 6, seen := 4} base,
   landing (putBits (lp 5 1) 3 0 12) {} base, inj { inbuf := ib [pk 3 0x18 5 700, 77] 4 0 }, (((inj { inbuf := ib [pk 5 8 5 700, 77] 4 0, repl := List.replicate 32 ⟨0,[(1,5)]⟩ }))), ((inj { inbuf := ib [pk 0xC 8 5 700, 77] 4 0, outAt := ⟨[(0,1001)]⟩ })), (inj { inbuf := ⟨[(20, [pk 1 8 5 700]), (21, [putBits (pk 1 8 5 700) 3 0 2])]⟩ }), (inj { inbuf := ⟨[(5, [pk 1 8 5 700]), (20, [pk 1 8 5 700])]⟩ }), (inj { inbuf := ib [pk 4 0x18 5 700, 77] 4 0 }).setRouter 4 { inbuf := full } |>.setRouter 19 {inbuf := ⟨[(0, List.replicate 8 1)]⟩}, routed (landing 0 {next := 9, again := true} base),  landing (lp 5 1) {next := 5} (base.setReg Reg.mrCplBatch 16),
   routed (landing 0 {next := 9, pend := 3} base), (routed (landing 0 {next := 9, pend := 3} base)).setFlag (Reg.lkPortStat 1) 2 true,
   ((routed (landing 0 {next := 9, pend := 3} base)).setFlag (Reg.lkPortStat 1) 2 true).setPort 1 { replay := List.replicate 64 ⟨0, [], 0⟩ }, base]
def states : List State := (hints ++ (pool.drop 12 |>.take 24)).map mk

theorem witness_OutputArbitration :
    ((fun (d : Dev) (r out : Nat) (v w : Fin 5) (src q : Fin 8) => d.granted r out ↑v ↑src = true ∧ d.asks r out ↑v ↑src = true ∧ d.asks r out ↑w ↑q = true ∧ d.outRoom r out ↑w = true ∧ ↑w = 3) (states.getD 1 State.reset).dev (3) (1) (3) (3) (4) (4)) ∧
    ((fun (d : Dev) (r out : Nat) (v w : Fin 5) (src q : Fin 8) => d.granted r out ↑v ↑src = true ∧ d.asks r out ↑v ↑src = true ∧ d.asks r out ↑w ↑q = true ∧ d.outRoom r out ↑w = true ∧ ↑w = 2) (states.getD 0 State.reset).dev (3) (1) (2) (2) (4) (4)) ∧
    ((fun (d : Dev) (r out : Nat) (v w : Fin 5) (src q : Fin 8) => d.granted r out ↑v ↑src = true ∧ d.asks r out ↑v ↑src = true ∧ d.asks r out ↑w ↑q = true ∧ d.outRoom r out ↑w = true ∧ ↑w = 4) (states.getD 1 State.reset).dev (3) (1) (3) (4) (4) (4)) ∧
    ((fun (d : Dev) (r out : Nat) (v w : Fin 5) (src q : Fin 8) => d.granted r out ↑v ↑src = true ∧ d.asks r out ↑v ↑src = true ∧ d.asks r out ↑w ↑q = true ∧ d.outRoom r out ↑w = true ∧ ↑v = 0 ∧ ↑w = 1) (states.getD 4 State.reset).dev (3) (1) (0) (1) (4) (4)) ∧
    ((fun (d : Dev) (r out : Nat) (v w : Fin 5) (src q : Fin 8) => d.granted r out ↑v ↑src = true ∧ d.asks r out ↑v ↑src = true ∧ d.asks r out ↑w ↑q = true ∧ d.outRoom r out ↑w = true ∧ ↑v = 1 ∧ ↑w = 0) (states.getD 3 State.reset).dev (3) (1) (1) (0) (4) (4)) ∧
    ((fun (d : Dev) (r out v w a b : Nat) => v < 5 ∧ w < 5 ∧ a < 8 ∧ b < 8 ∧ ((d.router r).lastIn.cells.all fun (c : Nat × Nat) => decide (c.snd ≤ 8)) = true ∧ d.asks r out v a = true ∧ d.asks r out w b = true ∧ d.granted r out v a = true ∧ d.granted r out w b = true) (states.getD 1 State.reset).dev (3) (1) (3) (3) (4) (4)) ∧
    ((fun (d : Dev) (r out : Nat) (w : Fin 5) (q : Fin 8) => d.outIdle r out = true ∧ d.asks r out ↑w ↑q = true ∧ d.outRoom r out ↑w = true) (states.getD 0 State.reset).dev (3) (1) (1) (3)) ∧
    ((fun (d : Dev) (r out : Nat) => d.outIdle r out = false) (states.getD 27 State.reset).dev (3) (0)) := by decide +kernel

end W35

namespace W36

def cmd (op imm : Nat) (args : List Nat) : VciCmd := { tag := 7, op := op, imm := imm, pair := 3, owner := 4, args := args }
def jq (st : Nat) (c : VciCmd) (d : Dev) : Dev := { (d.setFlag Reg.secBootStat 31 true).setFld Reg.vciStat 2 0 st with vci := { d.vci with jobq := [c] } }
def pon (d : Dev) : Dev := (List.range 4).foldl (fun d j => d.setReg (Reg.pondState j) 0xFFFFFFFF) d
def tailP : List Byte := zeroBytes 16 ++ toBytes 2 4 ++ zeroBytes 6 ++ toBytes 4 80 ++ toBytes 4 0
def pkgB (h : List Byte) : List Byte := toBytes 4 0x4B504457 ++ toBytes 2 1 ++ toBytes 2 1 ++ toBytes 8 80 ++ h ++ tailP
def good : List Byte := pkgB (sha256 tailP)
def bad : List Byte := pkgB (zeroBytes 32)
def desc : List Byte := toBytes 2 2 ++ toBytes 2 0 ++ toBytes 4 32 ++ zeroBytes 32
def desc2 : List Byte := toBytes 2 9 ++ toBytes 2 0 ++ toBytes 4 4 ++ zeroBytes 4
def ddr (d : Dev) : Dev := ((d.setReg Reg.memDdrSizeLo 0).setReg Reg.memDdrSizeHi 1).setReg Reg.memDdrStat 0xF0
def base : Dev := { ((((ddr (pon running))).putBytes 0x1000 good).putBytes 0x2000 bad |>.putBytes 0x3000 desc).putBytes 0x5000 desc2 with board := { pkgBase := ddrBase + 0x40000000, pkgLen := 0x1000 } }
def cs : List VciCmd := [cmd 1 0 [0x3000, 0, 40], cmd 1 0 [0x5000, 0, 12], cmd 1 0 [0, 0x1000, 12], cmd 0x10 0 [0x1000, 0, 80], cmd 0x10 0 [0x2000, 0, 80], cmd 0x11 0 [], cmd 0x12 0 [5000, 0, 77], cmd 0x13 0 [], cmd 0x14 0 [], cmd 0x15 0 [], cmd 0x16 0 [], cmd 0x17 0 [], cmd 0x18 3 []]
def lad (d : Dev) : Dev := ((d.setReg Reg.flmLadderCtl 1)).setReg Reg.mrTickLen 16000
def pool : List Dev := cs.map (fun c => jq 0 c base) ++ cs.map (fun c => jq 1 c { base with vci := { pkg := ⟨0x1000, 80⟩ } }) ++ (cs.drop 5).map (fun c => jq 2 c (lad base)) ++ (cs.drop 5).map (fun c => jq 3 c base)
 ++ (cs.drop 5).map (fun c => jq 4 c (base.setFlag Reg.mrStat 4 true)) ++
 [jq 3 (cmd 1 0 []) base, jq 4 (cmd 0x18 3 []) (base.setNc 3 { failed := true }), { jq 2 (cmd 0x12 0 []) base with vci := { startAt := some (5000, 77), jobq := [cmd 0x12 0 []] } }, { base with vci := { startAt := some (5000, 77) } },
  jq 4 (cmd 0x14 0 []) ((base.setFld Reg.mrDevid 12 8 2)), jq 4 (cmd 0x15 0 []) (((base.setReg Reg.jnRqCfg 16).setReg Reg.jnRqWr 5)), jq 4 (cmd 0x17 0 []) ((base.setFlag Reg.mrStat 4 true).setNc 3 { inJob := true })]
def padB (n : Nat) (l : List Byte) : List Byte := l ++ zeroBytes (n - l.length)
def imgBody : List Byte := zeroBytes 6 ++ [1, 2] ++ toBytes 4 128 ++ toBytes 4 64 ++ toBytes 4 1 ++ toBytes 4 1 ++ toBytes 4 1 ++ zeroBytes 4 ++ toBytes 4 344 ++ toBytes 4 256 ++ toBytes 4 296 ++ toBytes 4 308 ++ zeroBytes 4 ++ zeroBytes 12 ++ (List.range 96).flatMap (fun i => toBytes 2 (8 * i)) ++
  [3, 5] ++ toBytes 2 1 ++ toBytes 2 0 ++ toBytes 2 1 ++ zeroBytes 16 ++ toBytes 4 0 ++ toBytes 4 0 ++ toBytes 8 77 ++ zeroBytes 12 ++ zeroBytes 8
def imgP : List Byte := let b := padB 1200 imgBody
  b ++ toBytes 4 (crc32c b)
def ncP : List Byte := padB (34848 + 2064) ([1, 2, 0, 1] ++ toBytes 4 2064 ++ toBytes 4 16 ++ toBytes 4 32 ++ zeroBytes 16 ++ toBytes 4 9 ++ toBytes 4 8 ++ toBytes 4 7) ++ toBytes 16 99 ++ toBytes 32 (5 + 2^128 * 6)
def setB (l : List Byte) (o : Nat) (x : List Byte) : List Byte := l.take o ++ x ++ l.drop (o + x.length)
-- header 3: plastic, on die, at 1024, 6 words
def ncP2 : List Byte := setB (setB ncP (34848 + 24) (toBytes 8 (2^63 + 2^60 + 6 * 2^36 + 1024))) (34848 + 2048) (toBytes 8 (0xFFF7 * 2^48))
def ncP3 : List Byte := setB ncP (34848 + 24) (toBytes 8 (2^63 + 2^62 + 2^60 + 6 * 2^36 + 16))
def lrnP : List Byte := padB 4232 ([1, 2] ++ zeroBytes 6 ++ toBytes 4 0x1234)
def mkPkg (ss : List (Nat × List Byte)) : List Byte :=
  let o0 := 64 + 16 * ss.length
  let r := ss.foldl (fun (a : List Byte × List Byte) s => (a.1 ++ toBytes 2 s.1 ++ toBytes 2 0 ++ zeroBytes 4 ++ toBytes 4 (o0 + a.2.length) ++ toBytes 4 s.2.length, a.2 ++ padB (ceilDiv s.2.length 8 * 8) s.2)) ([], [])
  toBytes 4 0x4B504457 ++ toBytes 2 1 ++ toBytes 2 ss.length ++ toBytes 8 (o0 + r.2.length) ++ zeroBytes 32 ++ zeroBytes 16 ++ r.1 ++ r.2
def withPkg (p : List Byte) (ck : Nat) (d : Dev) : Dev := jq 1 (cmd 0x11 ck []) { d.putBytes 0x10000 p with vci := { pkg := ⟨0x10000, p.length⟩ } }
def shortD : Dev := { base with sec := { base.sec with off := [(1, 3), (1, 4), (1, 5), (2, 0), (2, 1)] } }
def badImg : List Byte := setB imgP 300 [9]
def ckB : Nat := ddrBase + 0x50000000
def ckLen : Nat := 16
def ckHd (q : Nat) : List Byte := toBytes 4 q ++ zeroBytes 8 ++ toBytes 4 ckLen ++ toBytes 4 (crc32c (toBytes 16 88 ++ zeroBytes (262144 - 16) ++ toBytes 16 0x12345678))
def withCk (n : Nat) (d : Dev) : Dev :=
  let a := ckB + 2 * n * 1314816
  ((((d.setReg64 Reg.lrnCkptBaseLo Reg.lrnCkptBaseHi ckB).putBytes a (ckHd 6)).putBytes (a + 4096) (toBytes 16 88)).putBytes (a + 266240) (toBytes 16 0x12345678))
def poolA : List Dev := [withPkg (mkPkg [(1, imgP), (4, lrnP), (3, ncP), (5, zeroBytes 7432)]) 0 base, withPkg (mkPkg [(3, ncP2)]) 0 base, withPkg (mkPkg [(3, ncP3)]) 0 base,
  withPkg (mkPkg [(1, imgP)]) 0 shortD, withPkg (mkPkg [(1, badImg)]) 0 base, withPkg (mkPkg [(3, ncP)]) 0 shortD,
  withCk 18 (withPkg (mkPkg [(3, ncP2)]) 1 base), withCk 3 (jq 4 (cmd 0x18 3 []) ((base.setFlag Reg.mrStat 4 true).setNc 3 { failed := true }))]
def poolB : List Dev := [withPkg (mkPkg [(1, zeroBytes 8)]) 0 shortD, withPkg (mkPkg [(1, zeroBytes 8)]) 0 base, jq 1 (cmd 0x11 1 []) { base with vci := { pkg := ⟨0x1000, 80⟩ } }]
def swD (x y : SMap Nat) : Bool := (x.cells ++ y.cells).all (fun c => x.get 0 c.1 / 8 == y.get 0 c.1 / 8)
def states : List State := (poolB ++ [jq 1 (cmd 0x11 0 []) { base with vci := { pkg := ⟨0x1000, 80⟩ } }]).map mk

theorem witness_ArmWritesEveryUnit :
    ((fun (s : State) (c : VciCmd) => let p : List Byte := s.dev.bytes s.dev.vci.pkg.addr s.dev.vci.pkg.len; let short : Bool := !(secOf p 1).isEmpty && s.dev.colsShort || !(secsOf p 3).isEmpty && s.dev.rowsShort; s.dev.jobCmd 17 = some c ∧ s.dev.jobState = jsLoaded ∧ s.dev.readable s.dev.vci.pkg.addr (max 1 s.dev.vci.pkg.len) = true ∧ s.dev.regionsOk s.dev.ddrRegions = true ∧ short = true) (states.getD 0 State.reset) ({ tag := 7, op := 17, imm := 0, pair := 3, owner := 4, args := [], begun := false })) ∧
    ((fun (s : State) (c : VciCmd) => let p : List Byte := s.dev.bytes s.dev.vci.pkg.addr s.dev.vci.pkg.len; let short : Bool := !(secOf p 1).isEmpty && s.dev.colsShort || !(secsOf p 3).isEmpty && s.dev.rowsShort; let crcBad : Bool := !(secOf p 1).isEmpty && !imageCrcOk (secOf p 1); s.dev.jobCmd 17 = some c ∧ s.dev.jobState = jsLoaded ∧ s.dev.readable s.dev.vci.pkg.addr (max 1 s.dev.vci.pkg.len) = true ∧ s.dev.regionsOk s.dev.ddrRegions = true ∧ short = false ∧ crcBad = true) (states.getD 1 State.reset) ({ tag := 7, op := 17, imm := 0, pair := 3, owner := 4, args := [], begun := false })) ∧
    ((fun (s : State) (c : VciCmd) => let p : List Byte := s.dev.bytes s.dev.vci.pkg.addr s.dev.vci.pkg.len; let short : Bool := !(secOf p 1).isEmpty && s.dev.colsShort || !(secsOf p 3).isEmpty && s.dev.rowsShort; let crcBad : Bool := !(secOf p 1).isEmpty && !imageCrcOk (secOf p 1); s.dev.jobCmd 17 = some c ∧ s.dev.jobState = jsLoaded ∧ s.dev.readable s.dev.vci.pkg.addr (max 1 s.dev.vci.pkg.len) = true ∧ s.dev.regionsOk s.dev.ddrRegions = true ∧ short = false ∧ crcBad = false) (states.getD 2 State.reset) ({ tag := 7, op := 17, imm := 1, pair := 3, owner := 4, args := [], begun := false })) ∧
    ((fun (s : State) (c : VciCmd) => let p : List Byte := s.dev.bytes s.dev.vci.pkg.addr s.dev.vci.pkg.len; let short : Bool := !(secOf p 1).isEmpty && s.dev.colsShort || !(secsOf p 3).isEmpty && s.dev.rowsShort; let crcBad : Bool := !(secOf p 1).isEmpty && !imageCrcOk (secOf p 1); s.dev.jobCmd 17 = some c ∧ s.dev.jobState = jsLoaded ∧ s.dev.readable s.dev.vci.pkg.addr (max 1 s.dev.vci.pkg.len) = true ∧ s.dev.regionsOk s.dev.ddrRegions = true ∧ short = false ∧ crcBad = false ∧ recordsPlaced p = true) (states.getD 2 State.reset) ({ tag := 7, op := 17, imm := 1, pair := 3, owner := 4, args := [], begun := false })) ∧
    ((fun (s : State) (c : VciCmd) => let p : List Byte := s.dev.bytes s.dev.vci.pkg.addr s.dev.vci.pkg.len; let short : Bool := !(secOf p 1).isEmpty && s.dev.colsShort || !(secsOf p 3).isEmpty && s.dev.rowsShort; let crcBad : Bool := !(secOf p 1).isEmpty && !imageCrcOk (secOf p 1); s.dev.jobCmd 17 = some c ∧ s.dev.jobState = jsLoaded ∧ s.dev.readable s.dev.vci.pkg.addr (max 1 s.dev.vci.pkg.len) = true ∧ s.dev.regionsOk s.dev.ddrRegions = true ∧ short = false ∧ crcBad = false ∧ recordsPlaced p = true ∧ bit c.imm 0 = true ∧ ∀ (n : Fin 256) (k : Fin 2), s.dev.readBad (s.dev.ckptAddr ↑n ↑k) 1314816 = false) (states.getD 2 State.reset) ({ tag := 7, op := 17, imm := 1, pair := 3, owner := 4, args := [], begun := false })) := by decide +kernel

end W36

end Sys2Proof.Tests
end

section
/-! SYSREF pulses at an aligned link (R67): what a period of the timebase leaves of a link and of its SYSREF channel, and
what the channel's pulse does. -/

namespace Sys2Proof.Machine.Dev

/-! ### What stays until a channel pulses -/

/-- The registers that say whether and how a pulse of channel ch is checked at link n, and the count of pulses off its grid. -/
def pulseRegs (ch n : Nat) : List Nat :=
  [Reg.pwrStat, Reg.sysCtl ch, Reg.sysGap ch, Reg.intkLinkCfg n, Reg.intkLinkCtl n, Reg.intkLinkStat n,
    Reg.intkLinkSysrefMiss n]

variable {ch : Fin 8} {n : Fin 6} {d e f : Dev}

/-- From d to e no time passes, link n and the registers of its check are as before, and so is the grid point of channel ch
once it has one. -/
structure SysrefKept (ch : Fin 8) (n : Fin 6) (d e : Dev) : Prop where
  tbc : e.tb.tbc = d.tb.tbc
  link : e.link n = d.link n
  regs : ∀ a ∈ pulseRegs ch n, e.reg a = d.reg a
  next : (d.sys ch).next.isSome → (e.sys ch).next = (d.sys ch).next
  gapPos : (e.sys ch).gapPos = (d.sys ch).gapPos

namespace SysrefKept

/-- A change apart from the count, the links, the SYSREF channels and the registers of the check. -/
theorem of_eq (ht : e.tb.tbc = d.tb.tbc) (hs : e.tb.sysref = d.tb.sysref) (hl : e.links = d.links)
    (hr : ∀ a ∈ pulseRegs ch n, e.reg a = d.reg a) : SysrefKept ch n d e where
  tbc := ht
  link := by rw [Dev.link, Dev.link, hl]
  regs := hr
  next := fun _ => by rw [sys, sys, hs]
  gapPos := by rw [sys, sys, hs]

theorem refl (d : Dev) : SysrefKept ch n d d := of_eq rfl rfl rfl fun _ _ => rfl

theorem trans (h : SysrefKept ch n d e) (g : SysrefKept ch n e f) : SysrefKept ch n d f where
  tbc := g.tbc.trans h.tbc
  link := g.link.trans h.link
  regs := fun a ha => (g.regs a ha).trans (h.regs a ha)
  next := fun hs => (g.next (by rw [h.next hs]; exact hs)).trans (h.next hs)
  gapPos := g.gapPos.trans h.gapPos

/-- A fold whose steps keep the check from every device that the steps before can give. -/
theorem foldl {β : Type} {step : Dev → β → Dev} (l : List β)
    (hf : ∀ e, SysrefKept ch n d e → ∀ b ∈ l, SysrefKept ch n e (step e b)) : SysrefKept ch n d (l.foldl step d) := by
  induction l generalizing d with
  | nil => exact refl d
  | cons b l ih =>
    have first : SysrefKept ch n d (step d b) := hf d (refl d) b (by simp)
    exact first.trans (ih fun e he c hc => hf e (first.trans he) c (by simp [hc]))

theorem rn (h : SysrefKept ch n d e) {a : Nat} (ha : a ∈ pulseRegs ch n) : e.rn a = d.rn a := by
  rw [Dev.rn, Dev.rn, h.regs a ha]

theorem setReg (d : Dev) {a : Nat} (v : Nat) (h : a ∉ pulseRegs ch n) : SysrefKept ch n d (d.setReg a v) :=
  of_eq rfl rfl rfl fun _ hb => reg_setReg_ne d v fun e => h (e ▸ hb)

theorem setFlag (d : Dev) {a : Nat} (i : Nat) (v : Bool) (h : a ∉ pulseRegs ch n) : SysrefKept ch n d (d.setFlag a i v) :=
  setReg d _ h

theorem bump (d : Dev) {a : Nat} (h : a ∉ pulseRegs ch n) : SysrefKept ch n d (d.bump a) := setReg d _ h

/-- An alternative of which each side keeps the check. -/
theorem ite {c : Prop} [Decidable c] (ht : c → SysrefKept ch n d e) (hf : ¬ c → SysrefKept ch n d f) :
    SysrefKept ch n d (if c then e else f) := by
  by_cases h : c
  · rw [if_pos h]; exact ht h
  · rw [if_neg h]; exact hf h

end SysrefKept

/-! ### Registers apart from the check -/

theorem mem_pulseRegs {a ch n : Nat} : a ∈ pulseRegs ch n ↔
    a = 0x20000 ∨ a = 0x30100 + 0x20 * ch ∨ a = 0x3010C + 0x20 * ch ∨ a = 0x50400 + 0x40 * n ∨ a = 0x50404 + 0x40 * n ∨
      a = 0x50408 + 0x40 * n ∨ a = 0x50420 + 0x40 * n := by
  simp only [pulseRegs, List.mem_cons, List.not_mem_nil, or_false]

/-- The registers of compare units, timers and trigger outputs. -/
theorem notMem_pulseRegs_of_timing {a : Nat} (h : 0x30200 ≤ a) (h' : a < 0x50400) : a ∉ pulseRegs ch n := by
  rw [mem_pulseRegs]; omega

/-- The registers of SYSREF channels that count and report. -/
theorem notMem_pulseRegs_of_sysStat {m k : Nat} (hm : m < 8) (hk : k = 0x14 ∨ k = 0x18 ∨ k = 0x1C) :
    0x30100 + k + 0x20 * m ∉ pulseRegs ch n := by
  rw [mem_pulseRegs]; omega

theorem padHold_notMem_pulseRegs : Reg.pwrPadHold ∉ pulseRegs ch n := by
  simp only [mem_pulseRegs, Reg.pwrPadHold]; omega

theorem strStat_notMem_pulseRegs (k : Nat) : Reg.intkStrStat k ∉ pulseRegs ch n := by
  simp only [mem_pulseRegs, Reg.intkStrStat]; omega

/-- The registers of another link. -/
theorem notMem_pulseRegs_of_link {m k : Nat} (hm : m ≠ n) (hk : k < 0x40) (h6 : m < 6) :
    0x50400 + k + 0x40 * m ∉ pulseRegs ch n := by
  rw [mem_pulseRegs]; omega

theorem not_timerReg_of_mem {a : Nat} (h : a ∈ pulseRegs ch n) : ¬ timerReg a := by
  rw [mem_pulseRegs] at h
  simp only [timerReg, vectorReg, wakeReg, Reg.intVecCount, Reg.msixPba, Reg.hifBmeHeld, Reg.pwrAborts, Reg.pwrWakeCause,
    Reg.pwrWakes, Reg.sbWakes]
  omega

/-! ### What the check reads -/

theorem SysrefKept.clocksOn (h : SysrefKept ch n d e) : e.clocksOn = d.clocksOn := by
  simp only [Dev.clocksOn, pwrState, fld, h.rn (a := Reg.pwrStat) (by simp [pulseRegs])]

theorem SysrefKept.linkEn (h : SysrefKept ch n d e) : e.linkEn n = d.linkEn n := by
  simp only [Dev.linkEn, flag, h.rn (a := Reg.intkLinkCtl n) (by simp [pulseRegs])]

theorem SysrefKept.linkChannel (h : SysrefKept ch n d e) :
    e.fld (Reg.intkLinkCfg n) 26 24 = d.fld (Reg.intkLinkCfg n) 26 24 := by
  simp only [fld, h.rn (a := Reg.intkLinkCfg n) (by simp [pulseRegs])]

theorem SysrefKept.linkWaits (h : SysrefKept ch n d e) :
    e.flag (Reg.intkLinkStat n) 4 = d.flag (Reg.intkLinkStat n) 4 := by
  simp only [flag, h.rn (a := Reg.intkLinkStat n) (by simp [pulseRegs])]

theorem SysrefKept.onLemc (h : SysrefKept ch n d e) (t : Nat) : e.onLemc n t = d.onLemc n t := by
  have cfg : e.rn (Reg.intkLinkCfg n) = d.rn (Reg.intkLinkCfg n) := h.rn (by simp [pulseRegs])
  have ctl : e.rn (Reg.intkLinkCtl n) = d.rn (Reg.intkLinkCtl n) := h.rn (by simp [pulseRegs])
  simp only [Dev.onLemc, fld, h.link, cfg, ctl]

/-! ### The timers, the compare units and the trigger outputs -/

theorem TimersOnly.sysrefKept (h : TimersOnly d e) : SysrefKept ch n d e :=
  have htb : e.noTimers.tb = d.noTimers.tb := by rw [h.1]
  have hlinks : e.noTimers.links = d.noTimers.links := by rw [h.1]
  .of_eq (congrArg Tb.tbc htb :) (congrArg Tb.sysref htb :) hlinks fun a ha => h.2 a (not_timerReg_of_mem ha)

theorem sysrefKept_gtEdges {os : List Nat} (ho : ∀ o ∈ os, o < 16) (d : Dev) : SysrefKept ch n d (gtEdges os d) :=
  (timersOnly_gtEdges os ho d).sysrefKept

theorem lt_of_mem_maskBits {w v i : Nat} (h : i ∈ maskBits w v) : i < w := List.mem_range.mp (List.mem_filter.mp h).1

/-- A change of one channel that keeps its grid point and its place in the sequence. -/
theorem sysrefKept_setSys (d : Dev) (m : Nat) (x : Sysref)
    (h : m = ch → ((d.sys m).next.isSome → x.next = (d.sys m).next) ∧ x.gapPos = (d.sys m).gapPos) :
    SysrefKept ch n d (d.setSys m x) := by
  by_cases hm : m = ch
  · subst hm
    have same : (d.setSys ch x).sys ch = x := SMap.get_set_same ..
    exact ⟨rfl, rfl, fun _ _ => rfl, by rw [same]; exact (h rfl).1, by rw [same]; exact (h rfl).2⟩
  · have other : (d.setSys m x).sys ch = d.sys ch := SMap.get_set_ne _ _ _ (Ne.symm hm) _
    exact ⟨rfl, rfl, fun _ _ => rfl, fun _ => by rw [other], by rw [other]⟩

/-- A trigger gives a grid point only to a channel that has none. -/
theorem sysrefKept_sysTrigger (d : Dev) {m : Nat} (hm : m < 8) : SysrefKept ch n d (d.sysTrigger m) := by
  unfold sysTrigger
  refine .ite (fun _ => .bump d (notMem_pulseRegs_of_sysStat hm (.inr (.inr rfl)))) fun hwait => ?_
  have hnone : (d.sys m).next.isSome = false := by
    simp only [Bool.or_eq_true, not_or, Bool.not_eq_true] at hwait
    exact hwait.1.2
  refine .trans ?_ (.setFlag _ _ _ (notMem_pulseRegs_of_sysStat hm (.inl rfl)))
  exact sysrefKept_setSys d m _ fun _ => ⟨fun h => by simp [hnone] at h, rfl⟩

theorem sysrefKept_cmpFire (stops : List Nat) {m : Nat} (hm : m < 4) (d : Dev) :
    SysrefKept ch n d (cmpFire stops m d) := by
  have disarmed : SysrefKept ch n d (d.setFlag (Reg.tbcmpStat m) 0 false) :=
    .setFlag d _ _ (notMem_pulseRegs_of_timing (by simp only [Reg.tbcmpStat]; omega) (by simp only [Reg.tbcmpStat]; omega))
  have interrupt (b : Bool) (e : Dev) : SysrefKept ch n e (if b then e.tbInterrupt else e) :=
    .ite (fun _ => (timersOnly_tbInterrupt e).sysrefKept) fun _ => .refl e
  unfold cmpFire
  refine ((disarmed.trans (interrupt _ _)).trans (.foldl _ ?triggers)).trans (.foldl _ ?starts)
  case triggers => exact fun e _ p hp => sysrefKept_sysTrigger e (lt_of_mem_maskBits hp)
  case starts =>
    exact fun e _ o ho => (timersOnly_gtSetRun true e (lt_of_mem_maskBits (List.mem_filter.mp ho).1)).sysrefKept

theorem sysrefKept_trigTick (t : Nat) (d : Dev) : SysrefKept ch n d (trigTick t d) := by
  unfold trigTick
  extract_lets d1
  have ended : SysrefKept ch n d d1 := .foldl _ fun e _ p _ => .of_eq rfl rfl rfl fun _ _ => rfl
  exact ended.trans (.of_eq rfl rfl rfl fun _ _ => rfl)

theorem sysrefKept_ppsAt (t : Nat) (d : Dev) : SysrefKept ch n d (ppsAt t d) := by
  unfold ppsAt
  extract_lets _ _ d1 d2
  have fallen : SysrefKept ch n d d1 := .ite (fun _ => .refl d) fun _ => .of_eq rfl rfl rfl fun _ _ => rfl
  have released : SysrefKept ch n d1 d2 := .setFlag d1 1 false padHold_notMem_pulseRegs
  exact .ite (fun _ => fallen) fun _ => (fallen.trans released).trans (.of_eq rfl rfl rfl fun _ _ => rfl)

theorem sysrefKept_trigOutPulse (d : Dev) {p : Nat} (hp : p < 8) : SysrefKept ch n d (d.trigOutPulse p) := by
  have reg (e : Dev) {k : Nat} (v : Nat) (hk : k < 0x20) : SysrefKept ch n e (e.setReg (0x30800 + k + 0x20 * p) v) :=
    .setReg e v (notMem_pulseRegs_of_timing (by omega) (by omega))
  have taken : SysrefKept ch n d { d with tb := { d.tb with outAt := putBits d.tb.outAt p p 1 } } :=
    .of_eq rfl rfl rfl fun _ _ => rfl
  unfold trigOutPulse
  refine .ite (fun _ => .refl d) fun _ => taken.trans (.ite (fun _ => reg _ (k := 0x14) _ (by omega)) fun _ => ?_)
  have started (e : Dev) (x : TrigOut) : SysrefKept ch n e (e.setTrigOut p x) := .of_eq rfl rfl rfl fun _ _ => rfl
  have stamped (e : Dev) (t : Nat) :
      SysrefKept ch n e ((e.setReg64 (Reg.trgoCapLo p) (Reg.trgoCapHi p) t).bump (Reg.trgoSeq p)) :=
    ((reg e (k := 0x08) _ (by omega)).trans (reg _ (k := 0x0C) _ (by omega))).trans (reg _ (k := 0x10) _ (by omega))
  have both (t : Nat) (x : TrigOut) (e : Dev) := (started e x).trans (stamped (e.setTrigOut p x) t)
  exact .ite (fun _ => (both _ _ _).trans (.of_eq rfl rfl rfl fun _ _ => rfl)) fun _ => both _ _ _

theorem sysrefKept_gateEdges (lines : Nat) (d : Dev) : SysrefKept ch n d (d.gateEdges lines) := by
  have gate (v : Nat) (e : Dev) {o : Nat} (ho : o < 16) : SysrefKept ch n e (e.setFld (Reg.gtCtl o) 7 6 v) :=
    .setReg e _ (notMem_pulseRegs_of_timing (by simp only [Reg.gtCtl]; omega) (by simp only [Reg.gtCtl]; omega))
  unfold gateEdges
  extract_lets os covered steps holds d1 d2 d3
  have owner {o : Nat} (ho : o ∈ steps) : o < 16 :=
    gtOwners_lt (List.mem_filter.mp (List.mem_filter.mp (List.mem_filter.mp ho).1).1).1
  have drawn : SysrefKept ch n d d1 := .ite (fun _ => .of_eq rfl rfl rfl fun _ _ => rfl) fun _ => .refl d
  have held : SysrefKept ch n d1 d2 := .foldl _ fun e _ o _ => .of_eq rfl rfl rfl fun _ _ => rfl
  have stepped : SysrefKept ch n d2 d3 :=
    (SysrefKept.foldl _ fun e _ o ho => gate 0 e (owner ho)).trans (sysrefKept_gtEdges (fun o ho => owner ho) _)
  exact ((drawn.trans held).trans stepped).trans (.foldl _ fun e _ o ho => gate 3 e (owner ho))

theorem sysrefKept_crossbarPulse (lines : Nat) (d : Dev) : SysrefKept ch n d (d.crossbarPulse lines) := by
  unfold crossbarPulse
  extract_lets new _ d1 d2
  have raised : SysrefKept ch n d d1 := .of_eq rfl rfl rfl fun _ _ => rfl
  have driven : SysrefKept ch n d1 d2 := .foldl _ fun e _ p hp =>
    .ite (fun _ => sysrefKept_trigOutPulse e (List.mem_range.mp hp)) fun _ => .refl e
  exact (raised.trans driven).trans (.ite (fun _ => sysrefKept_gateEdges new d2) fun _ => .refl d2)

theorem sysrefKept_linesTaken (d : Dev) : SysrefKept ch n d d.linesTaken := by
  unfold linesTaken
  extract_lets due d1
  have taken : SysrefKept ch n d d1 := .foldl _ fun e _ l _ => .of_eq rfl rfl rfl fun _ _ => rfl
  exact taken.trans (.ite (fun _ => .refl d1) fun _ => sysrefKept_crossbarPulse _ d1)

/-! ### The intake -/

/-- The pending NCO resets of a link's streams, served while the link is up (R74). -/
def ncoResets (m : Nat) (d : Dev) : Dev :=
  if !d.linkUp m then d else
  ((d.streamsOf m).filter (fun k => d.flag (Reg.intkStrStat k) 4)).foldl
    (fun d k => (d.ncoReset k).setFlag (Reg.intkStrStat k) 4 false) d

/-- What a pulse of its channel at count t does to one link (R66, R67, R74): sysrefAtIntake's step. -/
def intakePulse (t : Nat) (d : Dev) (m : Nat) : Dev :=
  if d.flag (Reg.intkLinkStat m) 4 then
    let d := (d.setLink m { d.link m with lemc := some (t : Int) }).setFlag (Reg.intkLinkStat m) 4 false
    (d.streamsOf m).foldl ncoReset d
  else if (d.link m).lemc.isSome then ncoResets m (if d.onLemc m t then d else d.bump (Reg.intkLinkSysrefMiss m))
  else d

/-- The links that take their SYSREF from a channel. -/
def linksOf (d : Dev) (c : Nat) : List Nat :=
  (List.range 6).filter (fun m => d.linkEn m && d.fld (Reg.intkLinkCfg m) 26 24 == c)

theorem sysrefAtIntake_eq (h : d.clocksOn = true) (c t : Nat) :
    d.sysrefAtIntake c t = (d.linksOf c).foldl (intakePulse t) d := by
  simp only [sysrefAtIntake, h]; rfl

theorem sysrefAtIntake_off (h : d.clocksOn = false) (c t : Nat) : d.sysrefAtIntake c t = d := by
  simp [sysrefAtIntake, h]

theorem mem_linksOf {c m : Nat} :
    m ∈ d.linksOf c ↔ m < 6 ∧ d.linkEn m = true ∧ d.fld (Reg.intkLinkCfg m) 26 24 = c := by
  simp [linksOf]

theorem sysrefKept_ncoReset (d : Dev) (k : Nat) : SysrefKept ch n d (d.ncoReset k) := .of_eq rfl rfl rfl fun _ _ => rfl

theorem sysrefKept_ncoResets (m : Nat) (d : Dev) : SysrefKept ch n d (ncoResets m d) :=
  .ite (fun _ => .refl d) fun _ => .foldl _ fun e _ k _ =>
    (sysrefKept_ncoReset e k).trans (.setFlag _ 4 false (strStat_notMem_pulseRegs k))

theorem sysrefKept_setLink (d : Dev) {m : Nat} (hm : m ≠ n) (l : Link) : SysrefKept ch n d (d.setLink m l) where
  tbc := rfl
  link := SMap.get_set_ne _ _ _ (Ne.symm hm) _
  regs := fun _ _ => rfl
  next := fun _ => rfl
  gapPos := rfl

/-- A pulse at another link. -/
theorem sysrefKept_intakePulse (t : Nat) (d : Dev) {m : Nat} (hm : m ≠ n) (h6 : m < 6) :
    SysrefKept ch n d (intakePulse t d m) := by
  unfold intakePulse
  refine .ite (fun _ => ?aligns) fun _ => .ite (fun _ => ?checks) fun _ => .refl d
  case aligns =>
    have waits (e : Dev) : SysrefKept ch n e (e.setFlag (Reg.intkLinkStat m) 4 false) :=
      .setFlag e 4 false (notMem_pulseRegs_of_link (k := 0x08) hm (by omega) h6)
    exact ((sysrefKept_setLink d hm _).trans (waits _)).trans (.foldl _ fun e _ k _ => sysrefKept_ncoReset e k)
  case checks =>
    have counted : SysrefKept ch n d (if d.onLemc m t then d else d.bump (Reg.intkLinkSysrefMiss m)) :=
      .ite (fun _ => .refl d) fun _ => .bump d (notMem_pulseRegs_of_link (k := 0x20) hm (by omega) h6)
    exact counted.trans (sysrefKept_ncoResets m _)

/-- A pulse of another channel than the link's. -/
theorem sysrefKept_sysrefAtIntake {c : Nat} (hc : d.fld (Reg.intkLinkCfg n) 26 24 ≠ c) (t : Nat) :
    SysrefKept ch n d (d.sysrefAtIntake c t) := by
  cases hclk : d.clocksOn
  · rw [sysrefAtIntake_off hclk]; exact .refl d
  · rw [sysrefAtIntake_eq hclk]
    refine .foldl _ fun e _ m hm => ?_
    obtain ⟨h6, _, hcm⟩ := mem_linksOf.mp hm
    exact sysrefKept_intakePulse t e (fun h => hc (h ▸ hcm)) h6

/-! ### The check -/

/-- From d to e no time passes and a pulse at count t is checked at link n: one off the LEMC grid is counted, and the link and
the other registers of the check are as before (R67). -/
structure SysrefChecked (ch : Fin 8) (n : Fin 6) (t : Nat) (d e : Dev) : Prop where
  tbc : e.tb.tbc = d.tb.tbc
  link : e.link n = d.link n
  regs : ∀ a ∈ pulseRegs ch n, a ≠ Reg.intkLinkSysrefMiss n → e.reg a = d.reg a
  miss : e.rn (Reg.intkLinkSysrefMiss n) = (d.rn (Reg.intkLinkSysrefMiss n) + b2n (!d.onLemc n t)) % 2 ^ 32

variable {t : Nat}

theorem SysrefKept.checked (h : SysrefKept ch n d e) (g : SysrefChecked ch n t e f) : SysrefChecked ch n t d f where
  tbc := g.tbc.trans h.tbc
  link := g.link.trans h.link
  regs := fun a ha hm => (g.regs a ha hm).trans (h.regs a ha)
  miss := by rw [g.miss, h.onLemc, h.rn (by simp [pulseRegs])]

theorem SysrefChecked.kept (g : SysrefChecked ch n t d e) (h : SysrefKept ch n e f) : SysrefChecked ch n t d f where
  tbc := h.tbc.trans g.tbc
  link := h.link.trans g.link
  regs := fun a ha hm => (h.regs a ha).trans (g.regs a ha hm)
  miss := by rw [h.rn (by simp [pulseRegs]), g.miss]

/-- A fold of which one step is the check, and every other step leaves it alone while the link keeps its channel. -/
theorem sysrefChecked_foldl {step : Dev → Nat → Dev} {l : List Nat} {k : Nat} (hl : l.Nodup) (hk : k ∈ l)
    (other : ∀ e, e.reg (Reg.intkLinkCfg n) = d.reg (Reg.intkLinkCfg n) → ∀ m ∈ l, m ≠ k → SysrefKept ch n e (step e m))
    (check : ∀ e, SysrefKept ch n d e → SysrefChecked ch n t e (step e k)) : SysrefChecked ch n t d (l.foldl step d) := by
  obtain ⟨before, after, rfl⟩ := List.append_of_mem hk
  obtain ⟨_, hnodup, apart⟩ := List.nodup_append.mp hl
  have hafter : k ∉ after := (List.nodup_cons.mp hnodup).1
  rw [List.foldl_append, List.foldl_cons]
  have kept : SysrefKept ch n d (before.foldl step d) := .foldl _ fun e he m hm =>
    other e (he.regs _ (by simp [pulseRegs])) m (by simp [hm]) (apart m hm k (by simp))
  have checked := kept.checked (check _ kept)
  exact checked.kept (.foldl _ fun e he m hm =>
    other e ((he.regs _ (by simp [pulseRegs])).trans (checked.regs _ (by simp [pulseRegs]) (by simp))) m (by simp [hm])
      fun h => hafter (h ▸ hm))

/-- A pulse at a link that does not wait for one (R67). -/
theorem sysrefChecked_intakePulse (hw : d.flag (Reg.intkLinkStat n) 4 = false) (t : Nat) :
    SysrefChecked ch n t d (intakePulse t d n) := by
  have counted : SysrefChecked ch n t d (if d.onLemc n t then d else d.bump (Reg.intkLinkSysrefMiss n)) := by
    cases h : d.onLemc n t
    · exact ⟨rfl, rfl, fun _ _ ha => reg_setReg_ne d _ ha, by simp [rn_bump_same, h, b2n]⟩
    · exact ⟨rfl, rfl, fun _ _ _ => rfl, by rw [h]; exact (Nat.mod_eq_of_lt (rn_lt d _)).symm⟩
  unfold intakePulse
  rw [hw, if_neg Bool.false_ne_true]
  split
  · exact counted.kept (sysrefKept_ncoResets n _)
  · rename_i h
    have hon : d.onLemc n t = true := by rw [Dev.onLemc, Option.not_isSome_iff_eq_none.mp h]
    rwa [hon, if_pos rfl] at counted

/-- A pulse of the link's channel. -/
theorem sysrefChecked_sysrefAtIntake (hclk : d.clocksOn = true) (hen : d.linkEn n = true)
    (hcfg : d.fld (Reg.intkLinkCfg n) 26 24 = ch) (hw : d.flag (Reg.intkLinkStat n) 4 = false) (t : Nat) :
    SysrefChecked ch n t d (d.sysrefAtIntake ch t) := by
  rw [sysrefAtIntake_eq hclk]
  refine sysrefChecked_foldl (List.nodup_range.filter _) (mem_linksOf.mpr ⟨n.isLt, hen, hcfg⟩) ?_ fun e he => ?_
  · exact fun e _ m hm hne => sysrefKept_intakePulse t e hne (mem_linksOf.mp hm).1
  · exact sysrefChecked_intakePulse (by rw [flag, he.rn (by simp [pulseRegs])]; exact hw) t

/-! ### The channel's grid points -/

theorem sysrefKept_showSys (d : Dev) {m : Nat} (hm : m < 8) : SysrefKept ch n d (d.showSys m) :=
  .setFlag d _ _ (notMem_pulseRegs_of_sysStat hm (.inl rfl))

theorem sysrefKept_sysOver {m : Nat} (hm : m < 8) (t : Nat) (d : Dev) : SysrefKept ch n d (sysOver m t d) := by
  unfold sysOver
  extract_lets x d1
  have ended : SysrefKept ch n d d1 := sysrefKept_setSys d m _ fun _ => ⟨fun _ => rfl, rfl⟩
  have flagged : SysrefKept ch n d1 (if x.shot then d1.setFlag (Reg.sysStat m) 1 true else d1) :=
    .ite (fun _ => .setFlag d1 _ _ (notMem_pulseRegs_of_sysStat hm (.inl rfl))) fun _ => .refl d1
  exact .ite (fun _ => .refl d) fun _ => (ended.trans flagged).trans (sysrefKept_showSys _ hm)

theorem sysrefKept_sysFreed (m t : Nat) (d : Dev) : SysrefKept ch n d (sysFreed m t d) := by
  unfold sysFreed
  extract_lets _ d1
  have freed : SysrefKept ch n d d1 := sysrefKept_setSys d m _ fun _ => ⟨fun _ => rfl, rfl⟩
  exact .ite (fun _ => .refl d) fun _ => .ite (fun _ => freed) fun _ =>
    freed.trans (.setFlag d1 _ _ padHold_notMem_pulseRegs)

/-- What a channel does at count t before it looks at its grid point. -/
theorem sysrefKept_freedOver {m : Nat} (hm : m < 8) (t : Nat) (d : Dev) :
    SysrefKept ch n d (sysFreed m t (sysOver m t d)) :=
  (sysrefKept_sysOver hm t d).trans (sysrefKept_sysFreed m t _)

/-- A channel's pulse before it reaches the intake: its end is set, and it is counted. -/
def pulseBegun (m t : Nat) (d : Dev) : Dev :=
  let e := d.setSys m { d.sys m with pulseEnd := some (t + d.fld (Reg.sysCtl m) 15 8), shot := d.sysMode m == 3 }
  (e.bump (Reg.sysPulses m)).showSys m

theorem sysBegin_eq (m t : Nat) (d : Dev) : sysBegin m t d = (pulseBegun m t d).sysrefAtIntake m t := rfl

theorem sysrefKept_pulseBegun {m : Nat} (hm : m < 8) (t : Nat) (d : Dev) : SysrefKept ch n d (pulseBegun m t d) := by
  unfold pulseBegun
  extract_lets _ e
  have timed : SysrefKept ch n d e := sysrefKept_setSys d m _ fun _ => ⟨fun _ => rfl, rfl⟩
  have counted : SysrefKept ch n e (e.bump (Reg.sysPulses m)) := .bump e (notMem_pulseRegs_of_sysStat hm (.inr (.inl rfl)))
  exact (timed.trans counted).trans (sysrefKept_showSys _ hm)

/-- Another channel than the link's at count t. -/
theorem sysrefKept_sysAt_other {m : Nat} (hm : m < 8) (hne : m ≠ ch) (hcfg : d.fld (Reg.intkLinkCfg n) 26 24 = ch)
    (t : Nat) : SysrefKept ch n d (sysAt m t d) := by
  unfold sysAt
  extract_lets d1 x count cyc gapped next d2
  have early : SysrefKept ch n d d1 := sysrefKept_freedOver hm t d
  have moved : SysrefKept ch n d d2 := early.trans (sysrefKept_setSys d1 m _ fun h => absurd h hne)
  refine .ite (fun _ => early) fun _ => .ite (fun _ => moved) fun _ => ?_
  have begun := moved.trans (sysrefKept_pulseBegun hm t d2)
  have apart : (pulseBegun m t d2).fld (Reg.intkLinkCfg n) 26 24 ≠ m := by
    rw [begun.linkChannel, hcfg]
    exact Ne.symm hne
  exact (begun.trans (sysrefKept_sysrefAtIntake apart t)).trans (sysrefKept_sysOver hm t _)

/-- The link's channel at a count before its grid point. -/
theorem sysrefKept_sysAt_early {g t : Nat} (hg : (d.sys ch).next = some g) (ht : t ≠ g) :
    SysrefKept ch n d (sysAt ch t d) := by
  have early : SysrefKept ch n d (sysFreed ch t (sysOver ch t d)) := sysrefKept_freedOver ch.isLt t d
  have waits : ((sysFreed ch t (sysOver ch t d)).sys ch).next = some g := by rw [early.next (by simp [hg]), hg]
  unfold sysAt
  extract_lets d1 x
  rw [if_pos (by simpa [x, d1, waits] using Ne.symm ht)]
  exact early

/-- Channel ch pulses at count g, its next grid point, and link n is enabled on it and does not wait for a pulse. -/
structure PulseDue (ch : Fin 8) (n : Fin 6) (g : Nat) (d : Dev) : Prop where
  next : (d.sys ch).next = some g
  burst : d.sysMode ch = 2 → (d.sys ch).gapPos < max 1 (d.fld (Reg.sysGap ch) 7 0)
  clocks : d.clocksOn = true
  enabled : d.linkEn n = true
  channel : d.fld (Reg.intkLinkCfg n) 26 24 = ch
  aligned : d.flag (Reg.intkLinkStat n) 4 = false

theorem SysrefKept.pulseDue {g : Nat} (h : SysrefKept ch n d e) (hd : PulseDue ch n g d) : PulseDue ch n g e where
  next := by rw [h.next (by simp [hd.next]), hd.next]
  burst := by
    have := hd.burst
    simpa only [sysMode, fld, h.gapPos, h.rn (a := Reg.sysCtl ch) (by simp [pulseRegs]),
      h.rn (a := Reg.sysGap ch) (by simp [pulseRegs])] using this
  clocks := h.clocksOn.trans hd.clocks
  enabled := h.linkEn.trans hd.enabled
  channel := h.linkChannel.trans hd.channel
  aligned := h.linkWaits.trans hd.aligned

/-- The link's channel at its grid point. -/
theorem sysrefChecked_sysAt {g : Nat} (hd : PulseDue ch n g d) : SysrefChecked ch n g d (sysAt ch g d) := by
  unfold sysAt
  extract_lets d1 x count cyc gapped next d2
  have early : SysrefKept ch n d d1 := sysrefKept_freedOver ch.isLt g d
  have due := early.pulseDue hd
  have pulses : ¬ (gapped && decide (count ≤ x.gapPos)) = true := by
    simp only [gapped, Bool.and_eq_true, beq_iff_eq, decide_eq_true_eq, not_and, Nat.not_le]
    exact due.burst
  rw [if_neg (by simp [x, due.next]), if_neg pulses, sysBegin_eq]
  have begun : SysrefKept ch n d2 (pulseBegun ch g d2) := sysrefKept_pulseBegun ch.isLt g d2
  have check : SysrefChecked ch n g d2 (sysOver ch g ((pulseBegun ch g d2).sysrefAtIntake ch g)) := by
    refine (begun.checked (sysrefChecked_sysrefAtIntake ?_ ?_ ?_ ?_ g)).kept (sysrefKept_sysOver ch.isLt g _)
    · exact begun.clocksOn.trans due.clocks
    · exact begun.linkEn.trans due.enabled
    · exact begun.linkChannel.trans due.channel
    · exact begun.linkWaits.trans due.aligned
  exact early.checked ⟨check.tbc, check.link, check.regs, check.miss⟩

/-! ### The passage of time -/

/-- The device with another count. -/
def atTime (d : Dev) (t : Nat) : Dev := { d with tb := { d.tb with tbc := t } }

theorem SysrefKept.atTime (h : SysrefKept ch n d e) (t : Nat) : SysrefKept ch n (d.atTime t) (e.atTime t) :=
  ⟨rfl, h.link, h.regs, h.next, h.gapPos⟩

theorem PulseDue.atTime {g : Nat} (h : PulseDue ch n g d) (t : Nat) : PulseDue ch n g (d.atTime t) :=
  ⟨h.next, h.burst, h.clocks, h.enabled, h.channel, h.aligned⟩

theorem sysrefKept_setTime (d : Dev) (t : Nat) : SysrefKept ch n (d.atTime t) (d.setTime t) := by
  unfold setTime
  extract_lets next div rise div' level d1
  have released : SysrefKept ch n d d1 :=
    .ite (fun _ => .setFlag d 1 false padHold_notMem_pulseRegs) fun _ => .refl d
  exact (released.atTime t).trans (.of_eq rfl rfl rfl fun _ _ => rfl)

/-- A period before its SYSREF channels: timers, the new count, compare units. -/
def tickBegun (d : Dev) : Dev :=
  let t := d.tb.tbc + 1
  let r := gtSteps (d.gtOwners.filter (fun o => clkEdges (d.gtClk o) t != clkEdges (d.gtClk o) d.tb.tbc)) d
  (List.range 4).foldl (fun e m => if e.cmpArmed m && e.cmpValue m == t then cmpFire (gtStops r.2 r.1) m e else e)
    ((gtActions r.2 r.1).setTime t).linesDown

/-- A period after its compare units: SYSREF channels, the PPS output, the trigger outputs and the crossings. -/
theorem tbTick_eq (d : Dev) : tbTick d =
    linesTaken (trigTick (d.tb.tbc + 1) (ppsAt (d.tb.tbc + 1)
      ((List.range 8).foldl (fun e m => sysAt m (d.tb.tbc + 1) e) (tickBegun d)))) := rfl

theorem sysrefKept_tickBegun (d : Dev) : SysrefKept ch n (d.atTime (d.tb.tbc + 1)) (tickBegun d) := by
  unfold tickBegun
  extract_lets t r
  have stepped : SysrefKept ch n d (gtActions r.2 r.1) :=
    sysrefKept_gtEdges (fun o ho => gtOwners_lt (List.mem_filter.mp ho).1) d
  have timed := (stepped.atTime t).trans (sysrefKept_setTime _ t)
  have lowered : SysrefKept ch n (d.atTime t) ((gtActions r.2 r.1).setTime t).linesDown :=
    timed.trans (.of_eq rfl rfl rfl fun _ _ => rfl)
  exact lowered.trans (.foldl _ fun e _ m hm =>
    .ite (fun _ => sysrefKept_cmpFire _ (List.mem_range.mp hm) e) fun _ => .refl e)

/-- The end of a period. -/
theorem sysrefKept_tickEnd (t : Nat) (d : Dev) : SysrefKept ch n d (linesTaken (trigTick t (ppsAt t d))) :=
  ((sysrefKept_ppsAt t d).trans (sysrefKept_trigTick t _)).trans (sysrefKept_linesTaken _)

/-- A period that does not come to the channel's grid point. -/
theorem sysrefKept_tbTick {g : Nat} (hd : PulseDue ch n g d) (hg : d.tb.tbc + 1 ≠ g) :
    SysrefKept ch n (d.atTime (d.tb.tbc + 1)) (tbTick d) := by
  have begun := sysrefKept_tickBegun (ch := ch) (n := n) d
  rw [tbTick_eq]
  refine (begun.trans (.foldl _ fun e he m hm => ?_)).trans (sysrefKept_tickEnd _ _)
  have due : PulseDue ch n g e := (begun.trans he).pulseDue (hd.atTime _)
  by_cases h : m = ch
  · subst h; exact sysrefKept_sysAt_early due.next hg
  · exact sysrefKept_sysAt_other (List.mem_range.mp hm) h due.channel _

/-- The period that comes to the channel's grid point. -/
theorem sysrefChecked_tbTick {g : Nat} (hd : PulseDue ch n g d) (hg : d.tb.tbc + 1 = g) :
    SysrefChecked ch n g (d.atTime g) (tbTick d) := by
  have begun := sysrefKept_tickBegun (ch := ch) (n := n) d
  have due := begun.pulseDue (hd.atTime _)
  rw [tbTick_eq]
  rw [hg] at begun ⊢
  refine begun.checked ((sysrefChecked_foldl (k := ch) List.nodup_range (by simp) ?_ ?_).kept (sysrefKept_tickEnd g _))
  · intro e he m hm hne
    refine sysrefKept_sysAt_other (List.mem_range.mp hm) hne ?_ g
    rw [fld, Dev.rn, he]; exact due.channel
  · exact fun e he => sysrefChecked_sysAt (he.pulseDue due)

theorem tbNext_le (d : Dev) (t : Nat) : d.tbNext t ≤ t := by rw [tbNext, List.foldl_min]; exact Nat.min_le_left _ _

theorem tbPass_past (fuel : Nat) (h : t ≤ d.tb.tbc) : tbPass t fuel d = d := by
  cases fuel with
  | zero => rfl
  | succ fuel => rw [tbPass, if_pos h]

/-- The periods to count e that only count, of which there may be none. -/
def glideTo (e : Nat) (d : Dev) : Dev :=
  if e ≤ d.tb.tbc then d else (d.gtOwners.foldl (gtGlide d.tb.tbc e) d).setTime e

theorem tbPass_step (fuel : Nat) (h : d.tb.tbc < t) :
    tbPass t (fuel + 1) d = tbPass t fuel (tbTick (glideTo (d.tbNext t - 1) d)) := by
  rw [tbPass, if_neg (by omega)]; rfl

theorem sysrefKept_glideTo (e : Nat) (d : Dev) : SysrefKept ch n (d.atTime (max d.tb.tbc e)) (glideTo e d) := by
  unfold glideTo
  split
  · rename_i h
    rw [Nat.max_eq_left h]; exact .refl d
  · rename_i h
    rw [Nat.max_eq_right (by omega)]
    have glided : SysrefKept ch n d (d.gtOwners.foldl (gtGlide d.tb.tbc e) d) := .foldl _ fun x _ o ho =>
      (timersOnly_gtGlide d.tb.tbc e x (gtOwners_lt ho)).sysrefKept
    exact (glided.atTime e).trans (sysrefKept_setTime _ e)

/-- Time passes to the channel's grid point: the only pulse that the link's check sees is the one there. -/
theorem sysrefChecked_tbPass {g : Nat} (fuel : Nat) (hd : PulseDue ch n g d) (hg : d.tb.tbc < g)
    (hf : g - d.tb.tbc ≤ fuel) : SysrefChecked ch n g (d.atTime g) (tbPass g fuel d) := by
  induction fuel generalizing d with
  | zero => omega
  | succ fuel ih =>
    rw [tbPass_step fuel hg]
    have before : max d.tb.tbc (d.tbNext g - 1) < g := by have := tbNext_le d g; omega
    have kept : SysrefKept ch n (d.atTime (max d.tb.tbc (d.tbNext g - 1))) (glideTo (d.tbNext g - 1) d) :=
      sysrefKept_glideTo _ d
    generalize glideTo (d.tbNext g - 1) d = e at kept ⊢
    have time : e.tb.tbc = max d.tb.tbc (d.tbNext g - 1) := kept.tbc
    have due : PulseDue ch n g e := kept.pulseDue (hd.atTime _)
    by_cases last : e.tb.tbc + 1 = g
    · have check := (kept.atTime g).checked (sysrefChecked_tbTick due last)
      have arrived : (tbTick e).tb.tbc = g := check.tbc
      rwa [tbPass_past fuel (Nat.le_of_eq arrived.symm)]
    · have ticked := sysrefKept_tbTick due last
      have now : (tbTick e).tb.tbc = e.tb.tbc + 1 := ticked.tbc
      have rest := ih (ticked.pulseDue (due.atTime _)) (by omega) (by omega)
      exact ((kept.atTime g).trans (ticked.atTime g)).checked rest

/-! ### The command -/

/-- A grid point of the channel that is not silent is where its next pulse begins (R45, R46). -/
theorem sysPulse_eq {g : Nat} (hd : PulseDue ch n g d) : sysPulse ch d = d.advanceTo g := by
  have loud : ¬ (d.sysMode ch = 2 ∧ max 1 (d.fld (Reg.sysGap ch) 7 0) ≤ (d.sys ch).gapPos) := fun h =>
    absurd (hd.burst h.1) (Nat.not_lt.mpr h.2)
  simp only [sysPulse, hd.next, if_neg loud, Nat.zero_mul, Nat.add_zero]

/-- The channel's next pulse is checked at the link (R67). -/
theorem sysrefChecked_sysPulse {g : Nat} (hd : PulseDue ch n g d) (hon : d.tbOn = true) (hg : d.tb.tbc < g) :
    SysrefChecked ch n g (d.atTime g) (sysPulse ch d) := by
  rw [sysPulse_eq hd, advanceTo, if_pos hon]
  exact sysrefChecked_tbPass _ hd hg (Nat.le_refl _)

/-- A checked pulse leaves the link up or down as it was. -/
theorem SysrefChecked.linkUp (h : SysrefChecked ch n t d e) : e.linkUp n = d.linkUp n := by
  simp only [Dev.linkUp, flag, Dev.rn, h.regs (Reg.intkLinkStat n) (by simp [pulseRegs]) (by simp)]

end Sys2Proof.Machine.Dev

namespace Sys2Proof.Machine

open Dev

/-- Settles O58: time passes to the grid point without a change at the link, and the pulse there is checked, not taken. -/
theorem sysrefPulsesNeverRealign : Obligations.SysrefPulsesNeverRealign := by
  refine ⟨?_, ?_⟩
  · intro s ch n g hon hclk hnext hg hburst hen hch hw _
    have check := sysrefChecked_sysPulse ⟨hnext, hburst, hclk, hen, hch, hw⟩ hon hg
    exact ⟨_, rfl, rfl, check.tbc, check.miss, by rw [check.link]; rfl, check.linkUp⟩
  · intro d ch n t hen hch hw
    cases hclk : d.clocksOn
    · rw [sysrefAtIntake_off hclk]; exact ⟨rfl, rfl⟩
    · have check := sysrefChecked_sysrefAtIntake hclk hen hch hw t
      exact ⟨by rw [check.link], check.linkUp⟩

end Sys2Proof.Machine
end

section
/-! Reads of one lock in one cycle (R364): the owner numbers name the masters that reach the registers, and the first served of
them takes a free lock. -/

namespace Sys2Proof.Machine

/-! ### Owner numbers (R365) -/

theorem ownerOf_lt (m : Master) : ownerOf m < 32 := by
  cases m <;> simp only [ownerOf] <;> omega

/-- The owner number is a function of the place in the order of R363. -/
theorem ownerOf_eq_of_rankOf (m : Master) :
    ownerOf m = if rankOf m = 0 then 2 else if rankOf m = 1 then 1 else rankOf m + 1 := by
  cases m with
  | sideband | host | mp | sentinel => rfl
  | core c | service c => rw [if_neg, if_neg] <;> simp only [ownerOf, rankOf] <;> omega

/-- The master with an owner number, a core standing for its runtime (R365). -/
def masterNumbered : Nat → Master
  | 1 => .host
  | 2 => .sideband
  | 3 => .mp
  | 20 => .sentinel
  | o => .core (Fin.ofNat 16 (o - 4))

theorem masterNumbered_core : ∀ c : Fin 16, masterNumbered (4 + c) = .core c := by decide

namespace Dev

/-- Every master that reaches the registers has a number of its own: only the service program shares one, its core's, and it does
not reach them (R304). -/
theorem masterNumbered_ownerOf {d : Dev} {m : Master} (h : d.reaches m = true) : masterNumbered (ownerOf m) = m := by
  cases m with
  | sideband | host | mp | sentinel => rfl
  | core c => exact masterNumbered_core c
  | service c => exact absurd h Bool.false_ne_true

theorem ownerOf_eq_iff {d : Dev} {k m : Master} (hk : d.reaches k = true) (hm : d.reaches m = true) :
    ownerOf k = ownerOf m ↔ k = m := by
  refine ⟨fun h => ?_, congrArg ownerOf⟩
  rw [← masterNumbered_ownerOf hk, h, masterNumbered_ownerOf hm]

theorem rankOf_eq_iff {d : Dev} {k m : Master} (hk : d.reaches k = true) (hm : d.reaches m = true) :
    rankOf k = rankOf m ↔ k = m := by
  refine ⟨fun h => (ownerOf_eq_iff hk hm).mp ?_, congrArg rankOf⟩
  rw [ownerOf_eq_of_rankOf, h, ← ownerOf_eq_of_rankOf]

/-! ### The first reader -/

/-- Of some readers the first served is one that none stands before. -/
theorem exists_firstReader : ∀ {ms : List Master}, ms ≠ [] →
    ∃ x ∈ ms, firstReader ms = some x ∧ ∀ k ∈ ms, rankOf x ≤ rankOf k
  | [], h => absurd rfl h
  | [m], _ => ⟨m, by simp, rfl, by simp⟩
  | m :: k :: ms, _ => by
    obtain ⟨x, hx, hfirst, hle⟩ := exists_firstReader (List.cons_ne_nil k ms)
    rw [firstReader, hfirst]
    by_cases h : rankOf x < rankOf m
    · exact ⟨x, List.mem_cons_of_mem m hx, by simp [h], List.forall_mem_cons.mpr ⟨Nat.le_of_lt h, hle⟩⟩
    · have hm := Nat.not_lt.mp h
      exact ⟨m, List.mem_cons_self, by simp [h],
        List.forall_mem_cons.mpr ⟨Nat.le_refl _, fun j hj => Nat.le_trans hm (hle j hj)⟩⟩

theorem firstReader_eq {d : Dev} {m : Master} {ms : List Master} (hm : m ∈ ms)
    (hreach : ∀ k ∈ ms, d.reaches k = true) (hle : ∀ k ∈ ms, rankOf m ≤ rankOf k) : firstReader ms = some m := by
  obtain ⟨x, hx, hfirst, hx_le⟩ := exists_firstReader (List.ne_nil_of_mem hm)
  have same : x = m := (rankOf_eq_iff (hreach x hx) (hreach m hm)).mp (Nat.le_antisymm (hx_le m hm) (hle x hx))
  rw [hfirst, same]

/-! ### The lock -/

theorem pairOwner_of_regs {d e : Dev} (h : d.regs = e.regs) (n : Nat) : d.pairOwner n = e.pairOwner n := by
  rw [pairOwner, fld, rn_of_regs h, pairOwner, fld]

theorem rn_showVci_ne (d : Dev) {a : Nat} (h : a ≠ Reg.vciStat) : d.showVci.rn a = d.rn a := by
  simp only [showVci, rn_setFld_ne _ _ _ _ h]

theorem rn_dropReplies_ne (d : Dev) (n : Nat) (keep : Reply → Bool) {a : Nat} (hs : a ≠ Reg.vciStat)
    (ho : a ≠ Reg.vciOrphanCpl) : (d.dropReplies n keep).rn a = d.rn a := by
  rw [dropReplies, rn_showVci_ne _ hs, rn_bump_ne _ _ ho]
  rfl

theorem pairOwner_dropReplies (d : Dev) (n : Fin 32) (k : Nat) (keep : Reply → Bool) :
    (d.dropReplies k keep).pairOwner n = d.pairOwner n := by
  have hs : Reg.mbxLock n ≠ Reg.vciStat := by simp only [Reg.mbxLock, Reg.vciStat]; omega
  have ho : Reg.mbxLock n ≠ Reg.vciOrphanCpl := by simp only [Reg.mbxLock, Reg.vciOrphanCpl]; omega
  rw [pairOwner, fld, rn_dropReplies_ne d k keep hs ho, pairOwner, fld]

theorem pairOwner_setOwner (d : Dev) (n : Nat) (m : Master) : (d.setOwner n (ownerOf m)).pairOwner n = ownerOf m := by
  rw [pairOwner, setOwner, fld_setFld_same _ _ _ _ _ (by decide) (by decide)]
  exact Nat.mod_eq_of_lt (ownerOf_lt m)

/-- A free lock goes to the first reader (R366). -/
theorem pairOwner_lockRead_free {d : Dev} {n : Fin 32} {m : Master} {ms : List Master} (hfree : d.pairOwner n = 0)
    (hfirst : firstReader ms = some m) : (d.lockRead n ms).pairOwner n = ownerOf m := by
  have taken : (d.lockRead n ms).regs =
      ((d.setOwner n (ownerOf m)).dropReplies n fun r => r.owner == ownerOf m).regs := by
    simp only [lockRead, hfree, hfirst, ne_eq, not_true_eq_false, if_false]
  rw [pairOwner_of_regs taken, pairOwner_dropReplies, pairOwner_setOwner]

/-- What readers get: 0 for the owner after the read, its number for the others (R366). -/
theorem lastRead_lockRead (d : Dev) (n : Nat) (ms : List Master) :
    (d.lockRead n ms).lastRead =
      ms.map fun k => if ownerOf k = (d.lockRead n ms).pairOwner n then 0 else w32 ((d.lockRead n ms).pairOwner n) := rfl

/-- Readers that all reach an open block are all served, in one read. -/
theorem lockReads_of_reaches {d : Dev} {n : Nat} {ms : List Master} (hopen : d.fenced (Reg.mbxLock n) = false)
    (hne : ms ≠ []) (hreach : ∀ k ∈ ms, d.reaches k = true) : d.lockReads n ms = (d.lockRead n ms).activity := by
  have served : ms.filter d.reaches = ms := List.filter_eq_self.mpr hreach
  have refused : ms.filter (fun k => !d.reaches k) = [] := by simpa using hreach
  simp [lockReads, served, refused, hopen, hne]

end Dev

open Dev

theorem servedAt_eq_rankOf (m : Master) : servedAt m = rankOf m := by
  cases m <;> rfl

/-- Settles O59: the reader whom R363 serves first is the winner, and its number tells it from every other reader. -/
theorem freeLockReadByManyInOneCycle : Obligations.FreeLockReadByManyInOneCycle := by
  intro s n m ms hopen hfree hm hms
  have hreach : ∀ k ∈ ms, s.dev.reaches k = true := fun k hk => (hms k hk).2
  have hle : ∀ k ∈ ms, rankOf m ≤ rankOf k := fun k hk => by
    rw [← servedAt_eq_rankOf, ← servedAt_eq_rankOf]; exact (hms k hk).1
  have winner := pairOwner_lockRead_free hfree (firstReader_eq hm hreach hle)
  refine ⟨_, rfl, rfl, ?_⟩
  rw [lockReads_of_reaches hopen (List.ne_nil_of_mem hm) hreach]
  refine ⟨winner, ?_⟩
  rw [activity_lastRead, lastRead_lockRead, winner]
  refine List.map_congr_left fun k hk => ?_
  simp only [ownerOf_eq_iff (hreach k hk) (hreach m hm), w32]

end Sys2Proof.Machine
end

section
/-! The envelope detectors (R425): a value that waited passes the sections, then each envelope, and what follows in the same
command leaves the envelopes and their inputs as they are. -/

namespace Sys2Proof.Machine.Dev

variable {d e f : Dev} {k : Nat}

/-! ### What an envelope takes -/

/-- R425's procedure: an envelope's state after a value t, 8 fraction bits in both. -/
def envelopeTo (t y attack release : Nat) : Nat :=
  if y < t then y + (t - y) / 2 ^ attack else y - (y - t) / 2 ^ release

/-- A state of 32 bits stays one: it never passes the value. -/
theorem envelopeTo_lt {t y n : Nat} (ht : t < n) (hy : y < n) (attack release : Nat) : envelopeTo t y attack release < n := by
  unfold envelopeTo
  split
  · have := Nat.div_le_self (t - y) (2 ^ attack)
    omega
  · exact Nat.lt_of_le_of_lt (Nat.sub_le _ _) hy

/-- The state that envelope k takes with the inputs as they stand. -/
def envelopeLevel (d : Dev) (k : Nat) : Nat :=
  envelopeTo (min (d.senInput (d.fld (Reg.senEnvCfg k) 3 0)).natAbs (2 ^ 23 - 1) * 2 ^ 8) (d.sen.env.get 0 k)
    (d.fld (Reg.senEnvCfg k) 11 8) (d.fld (Reg.senEnvCfg k) 15 12)

theorem senInput_of_le {src : Nat} (h : src ≤ 8) :
    d.senInput src = if src = 0 then d.sen.sample else (d.sen.bq.get {} (src - 1)).y1 := by
  rw [senInput, if_pos h]

theorem envelope_sen (d : Dev) (k : Nat) :
    (d.envelope k).sen = { d.sen with env := d.sen.env.set 0 k (d.envelopeLevel k) } := by
  unfold envelope
  extract_lets c src t y y' _ sen drawn
  rfl

theorem rn_envelope_val (d : Dev) (k : Nat) :
    (d.envelope k).rn (Reg.senEnvVal k) = d.envelopeLevel k / 2 ^ 8 % 2 ^ 32 := rn_setReg_same _ _ _

theorem rn_envelope_ne (d : Dev) {a : Nat} (h : a ≠ Reg.senEnvVal k) : (d.envelope k).rn a = d.rn a := by
  unfold envelope
  extract_lets c src t y y' _ sen drawn
  have draw : drawn.rn a = d.rn a := by
    simp only [drawn]
    split <;> rfl
  exact (rn_setReg_ne _ _ h).trans draw

/-! ### The frame of one envelope -/

/-- The registers of envelope k. -/
def envelopeRegs (k : Nat) : List Nat := [Reg.senEnvCfg k, Reg.senEnvVal k]

theorem notMem_envelopeRegs_of_lt {a : Nat} (h : a < 0x60200) : a ∉ envelopeRegs k := by
  simp only [envelopeRegs, Reg.senEnvCfg, Reg.senEnvVal, List.mem_cons, List.not_mem_nil, or_false]
  omega

theorem senEnvVal_notMem_envelopeRegs {j : Nat} (h : j ≠ k) : Reg.senEnvVal j ∉ envelopeRegs k := by
  simp only [envelopeRegs, Reg.senEnvCfg, Reg.senEnvVal, List.mem_cons, List.not_mem_nil, or_false]
  omega

/-- From d to e envelope k keeps its registers, its state and its inputs. -/
structure EnvelopeKept (k : Nat) (d e : Dev) : Prop where
  regs : ∀ a ∈ envelopeRegs k, e.rn a = d.rn a
  env : e.sen.env.get 0 k = d.sen.env.get 0 k
  sample : e.sen.sample = d.sen.sample
  bq : e.sen.bq = d.sen.bq

namespace EnvelopeKept

theorem refl (d : Dev) : EnvelopeKept k d d := ⟨fun _ _ => rfl, rfl, rfl, rfl⟩

theorem setReg (h : EnvelopeKept k d e) {a : Nat} (v : Nat) (ha : a ∉ envelopeRegs k) : EnvelopeKept k d (e.setReg a v) :=
  ⟨fun b hb => (rn_setReg_ne e v (ne_of_mem_of_not_mem hb ha)).trans (h.regs b hb), h.env, h.sample, h.bq⟩

theorem setFlag (h : EnvelopeKept k d e) {a : Nat} (i : Nat) (v : Bool) (ha : a ∉ envelopeRegs k) :
    EnvelopeKept k d (e.setFlag a i v) := h.setReg _ ha

theorem bump (h : EnvelopeKept k d e) {a : Nat} (ha : a ∉ envelopeRegs k) : EnvelopeKept k d (e.bump a) := h.setReg _ ha

theorem drew (h : EnvelopeKept k d e) : EnvelopeKept k d e.drew := ⟨h.regs, h.env, h.sample, h.bq⟩

/-- A change of the Sentinel outside its filters. -/
theorem setSen (h : EnvelopeKept k d e) {x : Sen} (he : x.env = e.sen.env) (hs : x.sample = e.sen.sample)
    (hb : x.bq = e.sen.bq) : EnvelopeKept k d { e with sen := x } :=
  ⟨h.regs, by rw [he, h.env], hs.trans h.sample, hb.trans h.bq⟩

theorem ite {c : Prop} [Decidable c] (ht : EnvelopeKept k d e) (hf : EnvelopeKept k d f) :
    EnvelopeKept k d (if c then e else f) := by
  split
  · exact ht
  · exact hf

/-- A value that the decimator pushes goes no further than the FIFO. -/
theorem senPush (h : EnvelopeKept k d e) (v : Int) : EnvelopeKept k d (senPush v e) :=
  .ite (h.bump (notMem_envelopeRegs_of_lt (by decide))) (h.setSen rfl rfl rfl)

/-- Another envelope takes its input. -/
theorem envelope (h : EnvelopeKept k d e) {j : Nat} (hj : j ≠ k) : EnvelopeKept k d (e.envelope j) where
  regs a ha := (rn_envelope_ne e (ne_of_mem_of_not_mem ha (senEnvVal_notMem_envelopeRegs hj))).trans (h.regs a ha)
  env := by rw [envelope_sen, ← h.env]; exact SMap.get_set_ne 0 0 e.sen.env (Ne.symm hj) _
  sample := by rw [envelope_sen]; exact h.sample
  bq := by rw [envelope_sen]; exact h.bq

theorem foldl_envelope {l : List Nat} (hk : k ∉ l) (d : Dev) : EnvelopeKept k d (l.foldl Dev.envelope d) :=
  List.foldlRecOn l Dev.envelope (refl d) fun _ he _ hj => he.envelope fun h => hk (h ▸ hj)

theorem fld (h : EnvelopeKept k d e) (hi lo : Nat) : e.fld (Reg.senEnvCfg k) hi lo = d.fld (Reg.senEnvCfg k) hi lo := by
  rw [Dev.fld, h.regs _ (by simp [envelopeRegs]), Dev.fld]

theorem envelopeLevel (h : EnvelopeKept k d e) (hsrc : d.fld (Reg.senEnvCfg k) 3 0 ≤ 8) :
    e.envelopeLevel k = d.envelopeLevel k := by
  simp only [Dev.envelopeLevel, h.fld, h.env, senInput_of_le hsrc, h.sample, h.bq]

end EnvelopeKept

/-! ### The sections and the envelopes -/

/-- What the sections leave alone as they take a value: all registers but their count, the envelopes and the sample. -/
structure SectionsOnly (d e : Dev) : Prop where
  regs : ∀ a, a ≠ Reg.senBqSat → e.rn a = d.rn a
  env : e.sen.env = d.sen.env
  sample : e.sen.sample = d.sen.sample

theorem sectionsOnly_biquad (h : SectionsOnly d e) (k : Nat) : SectionsOnly d (e.biquad k) := by
  unfold biquad
  extract_lets src x b co sum r y _ sen drawn taken
  have draw : drawn.regs = e.regs := by
    simp only [drawn]
    split <;> rfl
  have only : SectionsOnly d taken := ⟨fun a ha => (rn_of_regs draw a).trans (h.regs a ha), h.env, h.sample⟩
  split
  · exact only
  · exact ⟨fun a ha => (rn_bump_ne taken 1 ha).trans (only.regs a ha), only.env, only.sample⟩

theorem sectionsOnly_foldl (l : List Nat) (d : Dev) : SectionsOnly d (l.foldl biquad d) :=
  List.foldlRecOn l biquad ⟨fun _ _ => rfl, rfl, rfl⟩ fun _ he j _ => sectionsOnly_biquad he j

/-- From d to e envelope k has taken its input. -/
structure EnvelopeTaken (k : Nat) (d e : Dev) : Prop where
  env : e.sen.env.get 0 k = d.envelopeLevel k
  shown : e.rn (Reg.senEnvVal k) = d.envelopeLevel k / 2 ^ 8 % 2 ^ 32
  sample : e.sen.sample = d.sen.sample
  bq : e.sen.bq = d.sen.bq

theorem EnvelopeKept.taken (h : EnvelopeKept k d e) (hsrc : d.fld (Reg.senEnvCfg k) 3 0 ≤ 8) (g : EnvelopeTaken k e f) :
    EnvelopeTaken k d f where
  env := g.env.trans (h.envelopeLevel hsrc)
  shown := by rw [g.shown, h.envelopeLevel hsrc]
  sample := g.sample.trans h.sample
  bq := g.bq.trans h.bq

theorem EnvelopeTaken.kept (g : EnvelopeTaken k d e) (h : EnvelopeKept k e f) : EnvelopeTaken k d f where
  env := h.env.trans g.env
  shown := (h.regs _ (by simp [envelopeRegs])).trans g.shown
  sample := h.sample.trans g.sample
  bq := h.bq.trans g.bq

theorem envelopeTaken_envelope (d : Dev) (k : Nat) : EnvelopeTaken k d (d.envelope k) where
  env := by rw [envelope_sen]; exact SMap.get_set_same 0 d.sen.env k _
  shown := rn_envelope_val d k
  sample := by rw [envelope_sen]
  bq := by rw [envelope_sen]

/-- Each envelope of a run takes its input once: those before and after it leave it alone. -/
theorem envelopeTaken_foldl {l : List Nat} (hl : l.Nodup) (hk : k ∈ l) (hsrc : d.fld (Reg.senEnvCfg k) 3 0 ≤ 8) :
    EnvelopeTaken k d (l.foldl envelope d) := by
  obtain ⟨before, after, rfl⟩ := List.append_of_mem hk
  obtain ⟨_, hnodup, apart⟩ := List.nodup_append.mp hl
  have hafter : k ∉ after := (List.nodup_cons.mp hnodup).1
  rw [List.foldl_append, List.foldl_cons]
  have hbefore : k ∉ before := fun h => apart k h k (by simp) rfl
  have taken := (EnvelopeKept.foldl_envelope hbefore d).taken hsrc (envelopeTaken_envelope _ k)
  exact taken.kept (.foldl_envelope hafter _)

/-! ### The command -/

/-- One value has waited, and the sections have taken it. -/
def sectionsPassed (z : Int) (d : Dev) : Dev :=
  (List.range 8).foldl biquad { d with sen := { d.sen with fifo := [], sample := z } }

theorem senDrain_eq {z : Int} (h : d.sen.fifo = [z]) : d.senDrain = (List.range 4).foldl envelope (sectionsPassed z d) := by
  simp only [senDrain, h, List.foldl_cons, List.foldl_nil, senFilter, sectionsPassed]

theorem sectionsOnly_sectionsPassed (z : Int) (d : Dev) :
    SectionsOnly { d with sen := { d.sen with fifo := [], sample := z } } (sectionsPassed z d) :=
  sectionsOnly_foldl _ _

theorem fld_sectionsPassed (z : Int) (d : Dev) (k hi lo : Nat) :
    (sectionsPassed z d).fld (Reg.senEnvCfg k) hi lo = d.fld (Reg.senEnvCfg k) hi lo := by
  have apart : Reg.senEnvCfg k ≠ Reg.senBqSat := by simp only [Reg.senEnvCfg, Reg.senBqSat]; omega
  rw [fld, (sectionsOnly_sectionsPassed z d).regs _ apart]
  rfl

/-- The state that envelope k takes after the sections: from the value that waited or from a section's new output (R425). -/
theorem envelopeLevel_sectionsPassed (z : Int) (hsrc : d.fld (Reg.senEnvCfg k) 3 0 ≤ 8) :
    (sectionsPassed z d).envelopeLevel k =
      envelopeTo (min (if d.fld (Reg.senEnvCfg k) 3 0 = 0 then z
          else ((sectionsPassed z d).sen.bq.get {} (d.fld (Reg.senEnvCfg k) 3 0 - 1)).y1).natAbs (2 ^ 23 - 1) * 2 ^ 8)
        (d.sen.env.get 0 k) (d.fld (Reg.senEnvCfg k) 11 8) (d.fld (Reg.senEnvCfg k) 15 12) := by
  have only := sectionsOnly_sectionsPassed z d
  simp only [envelopeLevel, fld_sectionsPassed, senInput_of_le hsrc, only.env, only.sample]

/-- The frame that arrives does not reach the envelopes in its own command. -/
theorem envelopeKept_senSample (v : Nat) (good : Bool) (d : Dev) : EnvelopeKept k d (senSample v good false d) := by
  unfold senSample
  extract_lets _ locked n _ framed counted dec free dec' drawn sum count _
  have lock : EnvelopeKept k d { d with sen := { d.sen with frames := n } } := (EnvelopeKept.refl d).setSen rfl rfl rfl
  have frame : EnvelopeKept k d framed := lock.setFlag 1 _ (notMem_envelopeRegs_of_lt (by decide))
  have sampled : EnvelopeKept k d counted := frame.bump (notMem_envelopeRegs_of_lt (by decide))
  have block : EnvelopeKept k d drawn := .ite sampled.drew sampled
  refine .ite (.refl d) (.ite frame (.ite (block.setSen rfl rfl rfl) (.senPush ?_ _)))
  exact block.setSen rfl rfl rfl

theorem senSample_taken (v : Nat) (good : Bool) (d : Dev) :
    senSample v good true d = senSample v good false d.senDrain := rfl

/-- After the command envelope k has taken its input, as the sections left it. -/
theorem envelopeTaken_senSample {z : Int} (hfifo : d.sen.fifo = [z]) (hk : k < 4)
    (hsrc : d.fld (Reg.senEnvCfg k) 3 0 ≤ 8) (v : Nat) (good : Bool) :
    EnvelopeTaken k (sectionsPassed z d) (senSample v good true d) := by
  rw [senSample_taken, senDrain_eq hfifo]
  exact (envelopeTaken_foldl List.nodup_range (List.mem_range.mpr hk)
    (by rwa [fld_sectionsPassed])).kept (envelopeKept_senSample v good _)

end Sys2Proof.Machine.Dev

namespace Sys2Proof.Machine

open Dev

/-- Settles O60: the envelope takes the value that waited once, and its state of 32 bits is shown without loss. -/
theorem envelopeDetectors : Obligations.EnvelopeDetectors := by
  intro s v good k z hfifo hsrc hy
  have taken := envelopeTaken_senSample hfifo k.isLt hsrc v.toNat good
  have level := envelopeLevel_sectionsPassed z hsrc
  have small : (sectionsPassed z s.dev).envelopeLevel k < 2 ^ 32 := level ▸ envelopeTo_lt (by omega) hy _ _
  refine ⟨_, rfl, rfl, ?_, ?_⟩
  · rw [taken.env, taken.bq, level]
    rfl
  · rw [taken.shown, taken.env]
    exact Nat.mod_eq_of_lt (by omega)

end Sys2Proof.Machine
end
